-- ==== Sys2Proof/Word.lean ====
section
/-! DEFINITION. The word types and fixed-size tables the model is written in. -/

namespace Sys2Proof

/-- A byte of a link frame, of frame memory or of a calibration sector. -/
abbrev Byte := BitVec 8

/-- `n` like things, numbered from 0: the rules, signals, layers, outputs and slots of the manual. -/
abbrev Table (α : Type) (n : Nat) := Vector α n

/-- Entry `i`. -/
def Table.sel {α : Type} {n : Nat} (t : Table α n) (i : Fin n) : α := Vector.get t i

/-- Entry `i` replaced. -/
def Table.put {α : Type} {n : Nat} (t : Table α n) (i : Fin n) (x : α) : Table α n := Vector.set t i.1 x i.2

/-- Entry `i` changed. -/
def Table.upd {α : Type} {n : Nat} (t : Table α n) (i : Fin n) (f : α → α) : Table α n := t.put i (f (t.sel i))

/-- `n` equal entries. -/
def Table.fill {α : Type} (n : Nat) (x : α) : Table α n := Vector.replicate n x

/-- A number as an index, when it is one. -/
def index (n k : Nat) : Option (Fin n) := if h : k < n then some ⟨k, h⟩ else none

/-- A 16-bit value from its two bytes, most significant first (Conventions, Numbers). -/
def be16 (hi lo : Byte) : Nat := hi.toNat * 256 + lo.toNat

/-- A 32-bit value from its four bytes, most significant first. -/
def be32 (a b c d : Byte) : Nat := be16 a b * 65536 + be16 c d

/-- The two bytes of a 16-bit value, most significant first. -/
def bytes16 (n : Nat) : List Byte := [BitVec.ofNat 8 (n / 256), BitVec.ofNat 8 n]

/-- The three bytes of a 24-bit value, most significant first. -/
def bytes24 (n : Nat) : List Byte := BitVec.ofNat 8 (n / 65536) :: bytes16 (n % 65536)

end Sys2Proof
end

