-- ==== Sys2Proof/Syntax.lean ====
section
/-! DEFINITION. The commands the part takes, one constructor per row of spec/opcode_table.json, with their operands. -/

namespace Sys2Proof

/-- The display outputs, CENTRE 0, REAR-L 1, REAR-R 2 (00_scope, Conventions). -/
inductive Output | centre | rearL | rearR
  deriving DecidableEq, Repr

/-- The streams A 0 and B 1; also the ports VIN-A and VIN-B (chapter 3). -/
inductive StreamId | a | b
  deriving DecidableEq, Repr

inductive PixelFormat | yuv422 | rgb565
  deriving DecidableEq, Repr

inductive LayerKind | menu | card
  deriving DecidableEq, Repr

inductive LayerFormat | argb8888 | argb1555
  deriving DecidableEq, Repr

/-- The three cards (R74, R92). -/
inductive Card | starting | unavailable | suppressed
  deriving DecidableEq, Repr

inductive ReverseSource | bus | line | either
  deriving DecidableEq, Repr

inductive ByteOrder | lsbFirst | msbFirst
  deriving DecidableEq, Repr

/-- The seven signals in code order (R26, R35). -/
inductive SignalId | reverse | steerAngle | speed | distOuterL | distInnerL | distInnerR | distOuterR
  deriving DecidableEq, Repr

inductive ChimeClass | info | warning | safety
  deriving DecidableEq, Repr

/-- The readers that can find an uncorrectable error (R14). -/
inductive Reader
  | scan (o : Output)
  | chime
  | guide
  | selfTest
  deriving DecidableEq, Repr

/-- A set of display outputs. -/
structure OutputSet where
  centre : Bool
  rearL : Bool
  rearR : Bool
  deriving DecidableEq, Repr

/-- No output. -/
def OutputSet.none : OutputSet := ⟨false, false, false⟩

/-- Whether an output is in a set. -/
def OutputSet.has (s : OutputSet) : Output → Bool
  | .centre => s.centre
  | .rearL => s.rearL
  | .rearR => s.rearR

/-- A set with one output put in or taken out. -/
def OutputSet.put (s : OutputSet) (o : Output) (b : Bool) : OutputSet :=
  match o with
  | .centre => { s with centre := b }
  | .rearL => { s with rearL := b }
  | .rearR => { s with rearR := b }

structure Rgb where
  red : Byte
  green : Byte
  blue : Byte
  deriving DecidableEq, Repr

/-- A field that carries a code: a code the manual defines, or any other (answered BAD_VALUE). -/
inductive Coded (α : Type) where
  | legal (a : α)
  | undefined
  deriving DecidableEq, Repr

/-- A request body: all the fields the request carries, or a body shorter than them (R173). -/
inductive Body (α : Type) where
  | whole (fields : α)
  | short
  deriving DecidableEq, Repr

/-- SET RULE (R39). Factor and Offset are two's complement fields. -/
structure SetRule where
  number : Nat
  enabled : Bool
  extended : Bool
  identifier : Nat
  target : Nat
  startBit : Nat
  length : Nat
  order : Coded ByteOrder
  signed : Bool
  factor : BitVec 16
  shift : Nat
  offset : BitVec 32
  timeout : Nat
  invalidPattern : Option Nat
  alive : Option Nat
  deriving DecidableEq, Repr

/-- SET REVERSE SOURCE (R47). -/
structure SetReverseSource where
  source : Coded ReverseSource
  debounceTime : Nat
  deriving DecidableEq, Repr

/-- OPEN STREAM (R52). -/
structure OpenStream where
  stream : Nat
  width : Nat
  height : Nat
  format : Coded PixelFormat
  slots : Nat
  deriving DecidableEq, Repr

/-- SET CLOCK (R58): the clock value is a 32-bit field. -/
structure SetClock where
  stream : Nat
  value : BitVec 32
  deriving DecidableEq, Repr

/-- SET STREAM (R59): a presence mask, with a bit beyond the two defined or not, and the fields it marks. -/
structure SetStream where
  stream : Nat
  undefinedBit : Bool
  tolerance : Option Nat
  trim : Option Int
  deriving DecidableEq, Repr

/-- CREATE LAYER (R76). -/
structure CreateLayer where
  layer : Nat
  kind : Coded LayerKind
  permitted : Bool
  format : Coded LayerFormat
  width : Nat
  height : Nat
  planes : Nat
  deriving DecidableEq, Repr

/-- One placement part of SET LAYER (R78): a removal, a placement, or neither. -/
inductive PlacementPart where
  | remove
  | place (x y : Int) (z alpha : Nat) (visible : Bool)
  | undefined
  deriving DecidableEq, Repr

/-- SET LAYER (R78): a presence mask and the fields it marks present. -/
structure SetLayer where
  layer : Nat
  undefinedBit : Bool
  kind : Option (Coded LayerKind)
  permitted : Option Bool
  centre : Option PlacementPart
  rearL : Option PlacementPart
  rearR : Option PlacementPart
  deriving DecidableEq, Repr

/-- LOAD BLOCK (R82): the offset is a 32-bit number. -/
structure LoadBlock where
  layer : Nat
  offset : BitVec 32
  data : List Byte
  deriving DecidableEq, Repr

/-- SET CARD (R92): a layer number or none. -/
structure SetCard where
  card : Coded Card
  layer : Option Nat
  deriving DecidableEq, Repr

/-- The host timing of an output as a request carries it (R95, R104). -/
structure Timing where
  width : Nat
  height : Nat
  refresh : Nat
  deriving DecidableEq, Repr

/-- SET OUTPUT (R104). A picture source is `none` (NONE) or a stream. -/
structure SetOutput where
  output : Nat
  undefinedBit : Bool
  enabled : Option Bool
  timing : Option Timing
  background : Option Rgb
  source : Option (Coded (Option StreamId))
  mirror : Option Bool
  deriving DecidableEq, Repr

/-- The set of outputs of SHOW CAMERA and RELEASE VIEW (R101, R102), with a member beyond the three or not. -/
structure Members where
  set : OutputSet
  undefinedMember : Bool
  deriving DecidableEq, Repr

/-- SET VIEW POLICY (R96). -/
structure SetViewPolicy where
  undefinedBit : Bool
  lingerTime : Option Nat
  lingerSpeed : Option Nat
  filmSpeedLimit : Option Nat
  startingFill : Option Rgb
  unavailableFill : Option Rgb
  suppressedFill : Option Rgb
  deriving DecidableEq, Repr

/-- The camera format of SET CAMERA: width, height and pixel format, changed together (R132). -/
structure CameraFormat where
  width : Nat
  height : Nat
  format : Coded PixelFormat
  deriving DecidableEq, Repr

/-- SET CAMERA (R132). -/
structure SetCamera where
  undefinedBit : Bool
  format : Option CameraFormat
  frameTimeout : Option Nat
  wakeTimeout : Option Nat
  freezeCount : Option Nat
  keepWarm : Option Bool
  deriving DecidableEq, Repr

/-- SET GEOMETRY (R136): every field of the geometry record; the homography coefficients are signed 24-bit fields. -/
structure SetGeometry where
  ratio : Nat
  wheelbase : Nat
  overhang : Nat
  track : Nat
  reach : Nat
  homography : Table (BitVec 24) 9
  marker1 : Nat
  marker2 : Nat
  marker3 : Nat
  staticLines : Bool
  deriving DecidableEq, Repr

/-- SET GUIDE STYLE (R137). -/
structure SetGuideStyle where
  undefinedBit : Bool
  track : Option (BitVec 16)
  marker1 : Option (BitVec 16)
  marker2 : Option (BitVec 16)
  marker3 : Option (BitVec 16)
  static : Option (BitVec 16)
  deriving DecidableEq, Repr

/-- The sound of PLAY CHIME as the request carries it (R153). -/
inductive ChimeSound where
  | tone (halfPeriod on off level : Nat)
  | sample (number level : Nat)
  deriving DecidableEq, Repr

/-- PLAY CHIME (R154). -/
structure PlayChime where
  cls : Coded ChimeClass
  sound : Coded ChimeSound
  repeats : Nat
  tag : Byte
  deriving DecidableEq, Repr

/-- CANCEL CHIME (R157). -/
structure CancelChime where
  entry : Nat
  tag : Byte
  deriving DecidableEq, Repr

/-- DEFINE SAMPLE (R159). -/
structure DefineSample where
  slot : Nat
  count : Nat
  deriving DecidableEq, Repr

/-- LOAD SAMPLE BLOCK (R160). -/
structure LoadSample where
  slot : Nat
  offset : Nat
  data : List Byte
  deriving DecidableEq, Repr

/-- SET MIX (R165). A film source is `none` (NONE) or a stream. -/
structure SetMix where
  output : Nat
  undefinedBit : Bool
  film : Option (Coded (Option StreamId))
  filmVolume : Option Nat
  chimeFlag : Option Bool
  chimeVolume : Option Nat
  duck : Option Nat
  rev : Option Nat
  deriving DecidableEq, Repr

/-- SET PARK CADENCE (R164). -/
structure SetParkCadence where
  undefinedBit : Bool
  near : Option Nat
  far : Option Nat
  halfPeriod : Option Nat
  level : Option Nat
  deriving DecidableEq, Repr

/-- READ SECTOR (R186). -/
structure ReadSector where
  sector : Nat
  half : Nat
  deriving DecidableEq, Repr

/-- WRITE SECTOR (R187). -/
structure WriteSector where
  sector : Nat
  half : Nat
  data : List Byte
  deriving DecidableEq, Repr

/-- What the vehicle bus port judged a reception to be (R25). -/
inductive Reception where
  | data (extended : Bool) (identifier : Nat) (lengthCode : Nat) (bytes : List Byte)
  | remote
  | faulty
  deriving DecidableEq, Repr

/-- The commands: one constructor per row of spec/opcode_table.json, in the table's order. -/
inductive Instr where
  | powerOn
  | resetLine
  | enterRunning
  | transactionBegin
  | transactionEnd (received : List Byte)
  | requestTaken (frame : List Byte)
  | replyCollected
  | getIdentity
  | fetchNotices
  | resetPart (body : List Byte)
  | getState
  | readPageMap (firstPage : Body Nat)
  | getMemoryError
  | setRule (body : Body SetRule)
  | clearRule (number : Body Nat)
  | readRules (first : Body Nat)
  | readSignals
  | setReverseSource (body : Body SetReverseSource)
  | openStream (body : Body OpenStream)
  | closeStream (stream : Body Nat)
  | setClock (body : Body SetClock)
  | runStream (stream : Body Nat)
  | pauseStream (stream : Body Nat)
  | flushStream (stream : Body Nat)
  | setStream (body : Body SetStream)
  | getStream (stream : Body Nat)
  | createLayer (body : Body CreateLayer)
  | layerRunCleared
  | deleteLayer (layer : Body Nat)
  | setLayer (body : Body SetLayer)
  | getLayer (layer : Body Nat)
  | loadBlock (body : Body LoadBlock)
  | present (layer : Body Nat)
  | setCard (body : Body SetCard)
  | setOutput (body : Body SetOutput)
  | getOutput (output : Body Nat)
  | showCamera (body : Body Members)
  | releaseView (body : Body Members)
  | setViewPolicy (body : Body SetViewPolicy)
  | setCamera (body : Body SetCamera)
  | getCamera
  | setGeometry (body : Body SetGeometry)
  | getGeometry
  | setGuideStyle (body : Body SetGuideStyle)
  | playChime (body : Body PlayChime)
  | cancelChime (body : Body CancelChime)
  | getChimes
  | defineSample (body : Body DefineSample)
  | loadSampleBlock (body : Body LoadSample)
  | freeSample (slot : Body Nat)
  | setMix (body : Body SetMix)
  | getMix
  | setParkCadence (body : Body SetParkCadence)
  | readSector (body : Body ReadSector)
  | eraseSector (sector : Body Nat)
  | writeSector (body : Body WriteSector)
  | storeOperationEnd
  | runSelfTest
  | selfTestEnd (readBackDiffers : Bool)
  | busFrame (reception : Reception)
  | signalHeld (sig : SignalId)
  | signalLost (sig : SignalId)
  | revInChange (level : Bool)
  | debounceExpiry
  | lingerTimerExpiry (output : Output)
  | refreshEvent (output : Output)
  | drawingEnd
  | paceTimerTick
  | vinFrameStart (port : StreamId)
  | vinLine0Complete (port : StreamId) (line : List Byte)
  | vinPictureLine (port : StreamId) (line : List Byte)
  | vinFrameEnd (port : StreamId)
  | saiSamplePeriod (aLeft aRight bLeft bRight : BitVec 16)
  | audioInputLost
  | outputSamplePeriod
  | mixerRampTick
  | cameraFrameStart
  | cameraLine (line : List Byte)
  | cameraFrameEnd
  | wakeTimeout
  | frameTimeout
  | correctedError
  | uncorrectableError (reader : Reader) (word : BitVec 24)
  deriving DecidableEq, Repr

end Sys2Proof
end

