-- ==== Sys2Proof/Config.lean ====
section
/-! DEFINITION. What the part's implementation fixes: sizes, tables, built-in values, and the free values of what the manual leaves open. -/

namespace Sys2Proof.Config

/-- Pages of frame memory (R1). -/
def pages : Nat := 2048
/-- Bytes of a page (R1). -/
def pageBytes : Nat := 65536
/-- Bytes of frame memory (R1): 2048 × 65536. -/
def memoryBytes : Nat := 134217728
/-- Bytes of a word (R1). -/
def wordBytes : Nat := 8
/-- Words of a page (R1). -/
def pageWords : Nat := 8192
/-- Pages of the camera reserve (R4). -/
def reservePages : Nat := 190
/-- Pages of one capture slot and of one guide overlay plane (R4). -/
def reserveUnit : Nat := 38
/-- First page of guide overlay plane 0 (R4). -/
def guideBase : Nat := 114
/-- Requests the outstanding-request list holds (R172). -/
def maxRequests : Nat := 4
/-- Entries the notice queue has room for (R176). -/
def maxNotices : Nat := 24
/-- Entries FETCH NOTICES removes at most (R178). -/
def fetchLimit : Nat := 8
/-- Longest body of a link frame (R171, section 9.9). -/
def maxBody : Nat := 248
/-- The part code (R179). -/
def partCode : BitVec 16 := 0x4620#16
/-- The silicon revision of parts described by this edition (R179). -/
def revision : Nat := 1
/-- The largest value of a stream clock (Conventions, Time; R57). -/
def clockMax : Nat := 4294967295
/-- The hysteresis of the centre suppression (R96). -/
def hysteresis : Nat := 50
/-- 100 µs units in a millisecond: the unit of every elapsed timer of the model (log 1). -/
def perMs : Nat := 10

/-- TAN[k] = round-half-up(tan(k°) × 65536) for k = 0 to 45 (R139). -/
def tanTable : List Nat :=
  [0, 1144, 2289, 3435, 4583, 5734, 6888, 8047, 9210, 10380, 11556, 12739, 13930, 15130, 16340, 17560, 18792, 20036,
   21294, 22566, 23853, 25157, 26478, 27818, 29179, 30560, 31964, 33392, 34846, 36327, 37837, 39378, 40951, 42560,
   44205, 45889, 47615, 49385, 51202, 53070, 54991, 56970, 59009, 61113, 63287, 65536]

/-- G[g] for g = 0 to 63 (R167): the smaller of 32767 and 32768 × 10^(−g/20) rounded half up; G[63] is 0. -/
def gainTable : List Nat :=
  [32767, 29205, 26029, 23198, 20675, 18427, 16423, 14637, 13045, 11627, 10362, 9235, 8231, 7336, 6538, 5827,
   5193, 4629, 4125, 3677, 3277, 2920, 2603, 2320, 2068, 1843, 1642, 1464, 1305, 1163, 1036, 924, 823, 734, 654, 583,
   519, 463, 413, 368, 328, 292, 260, 232, 207, 184, 164, 146, 130, 116, 104, 92, 82, 73, 65, 58, 52, 46, 41, 37, 33,
   29, 26, 0]

/-- Sector 0 as written at manufacture (R185): part code 0x4620, revision 1, unit number 0, no other byte set, and its
CRC. DESIGN CHOICE (unsafe, log 7): the unit number and the bytes no table names are 0. -/
def factoryIdentity : List Byte :=
  [0x46#8, 0x20#8, 0x01#8] ++ List.replicate 251 0#8 ++ [0xA5#8, 0xB6#8]

/-- An erased sector (R185, R187). -/
def erasedSector : List Byte := List.replicate 256 0xFF#8

/-! The free values: constants with no body, so that nothing can be proved of them. -/

/-- The byte that the self-test's pattern puts at an address (R190: "a pattern formed from the word's address", which the
manual does not give). FREE VALUE, safe, log 12. -/
opaque selfTestPattern : Nat → Byte

/-- What a byte of a sector holds after a start-up has abandoned the erase or write that was changing it (R188: "leaves the
sector's bytes partly changed"): a function of the count of free decisions and the byte's number. FREE VALUE, safe, log 10. -/
opaque abandonedByte : Nat → Nat → Byte

/-- Whether, in a refresh event that both hands over a stream's memory consequence and paces that stream, the pace event is
taken first (R16: "either order gives a defined result"): a function of the count of free decisions. FREE VALUE, safe, log 11. -/
opaque paceBeforeDrop : Nat → Bool

/-- Whether an uncorrectable error that the self-test finds in its page set is found as the complement pattern is read back, and
so stays in its word after the test (R190, step 3), or before, so that a later write of the test clears it: a function of the
count of free decisions. FREE VALUE, safe, log 34. -/
opaque foundInLastReadBack : Nat → Bool

/-- Whether the start-up step under way ends within a given 100 µs (R182: the steps "take at most 300 ms", and the manual does not
say how long each takes): a function of the count of free decisions. FREE VALUE, safe, log 58. -/
opaque startUpStepEnds : Nat → Bool

end Sys2Proof.Config
end

