-- ==== Sys2Proof/Machine/State.lean ====
section
/-! DEFINITION. The state of the part as plain data, block by block, and the state right after reset. -/

namespace Sys2Proof.Machine

open Sys2Proof

/-! ## Indices -/

/-- The number of an output (00_scope, Conventions, Outputs). -/
def outputNo : Output → Fin 3
  | .centre => 0
  | .rearL => 1
  | .rearR => 2

/-- The number of a stream and of its VIN port (chapter 3). -/
def streamNo : StreamId → Fin 2
  | .a => 0
  | .b => 1

/-- The number of a signal (R26). -/
def signalNo : SignalId → Fin 7
  | .reverse => 0
  | .steerAngle => 1
  | .speed => 2
  | .distOuterL => 3
  | .distInnerL => 4
  | .distInnerR => 5
  | .distOuterR => 6

/-- The place of a card in a table of three, in the order STARTING, UNAVAILABLE, SUPPRESSED. -/
def cardNo : Card → Fin 3
  | .starting => 0
  | .unavailable => 1
  | .suppressed => 2

/-- The outputs in order. -/
def outputs : List Output := [.centre, .rearL, .rearR]

/-! ## The part (chapter 10) -/

inductive Phase | starting | running
  deriving DecidableEq, Repr

inductive ResetCause | power | line | request
  deriving DecidableEq, Repr

/-- The part state and the cause of the latest start-up (R180, R182). -/
structure Part where
  phase : Phase
  cause : ResetCause
  deriving DecidableEq, Repr

/-- The steps of a start-up that can be told apart from outside it (R182, steps 2 to 6): the sectors are examined, and the Signal
Receiver, the Output Compositor, the Camera Monitor with the Generator, and the Mixer with the Chime Player load their sectors. -/
inductive StartUpStep | examine | receiver | outputs | camera | mixer
  deriving DecidableEq, Repr

/-! ## The Calibration Store and the self-test (chapter 10) -/

inductive SectorState | erased | valid | corrupt
  deriving DecidableEq, Repr

/-- A sector: its 256 bytes, its operation mark, and its state, absent while UNEXAMINED (R179, R185). -/
structure Sector where
  bytes : List Byte
  mark : Bool
  state : Option SectorState
  deriving DecidableEq, Repr

inductive StoreOpKind where
  | erase
  | write (half : Fin 2) (data : List Byte)
  deriving DecidableEq, Repr

/-- The erase or write in flight (R187). -/
structure StoreOp where
  sector : Fin 8
  kind : StoreOpKind
  deriving DecidableEq, Repr

structure Store where
  sectors : Table Sector 8
  op : Option StoreOp
  deriving DecidableEq, Repr

/-- A self-test in flight (R189, R190): the number of the test found failing at its beginning (0 for none), the page set of
test 3 (empty when test 3 does not run), and whether an uncorrectable error was found in it. `late` lists, rising, the words of
the set that its last read-back found uncorrectable: no write of the test clears those (R21; log 34). -/
structure SelfTest where
  early : Nat
  pages : List Nat
  errorFound : Bool
  late : List Nat
  deriving DecidableEq, Repr

/-! ## Frame memory and its manager (chapter 1) -/

/-- The bytes of frame memory. `cells` lists, by rising address, the bytes that differ from what an unlisted byte reads as;
`patterned` the pages where that is the self-test's complement pattern instead of 0; `bad` the words that cannot be
corrected, which read as zero until they are written again (R13). -/
structure FrameMemory where
  cells : List Host.Cell
  patterned : List Nat
  bad : List Nat
  deriving DecidableEq, Repr

/-- The owners that hold runs (R3). -/
inductive RunOwner where
  | stream (s : StreamId)
  | layer (n : Fin 24)
  | sample (n : Fin 16)
  deriving DecidableEq, Repr

/-- A page's owner in the page map (R2, R3). -/
inductive Owner where
  | free
  | reserve
  | run (o : RunOwner)
  deriving DecidableEq, Repr

/-- A present run descriptor (R3). -/
structure Run where
  owner : RunOwner
  base : Nat
  count : Nat
  deriving DecidableEq, Repr

/-- The units that pending consequences are held for (R15). -/
inductive MemUnit where
  | streamSlot (s : StreamId) (slot : Nat)
  | layer (n : Fin 24)
  | capture (slot : Fin 3)
  | guidePlane (plane : Fin 2)
  | sample (n : Fin 16)
  deriving DecidableEq, Repr

/-- A pending consequence (R13, R15): its unit, the reader that found it, the page's index in the owner's run, and the stamp
of the frame that was read when the slot was SHOWING (R16). `played` is the model's own: whether an output sample has been formed
with the zero since the reader CHIME found the error; no other reader's consequence waits for it (R158; log 33). -/
structure Consequence where
  unit : MemUnit
  reader : Reader
  pageIndex : Nat
  stamp : Option Nat
  played : Bool
  deriving DecidableEq, Repr

/-- The memory error record (R22). -/
structure MemErrorRecord where
  latched : Bool
  page : Nat
  owner : Owner
  reader : Reader
  more : Bool
  deriving DecidableEq, Repr

/-- The FMM: run descriptors by rising base, the two boundaries, the pending consequences oldest first, the record and the
corrected-error count. The page map is computed from `runs`. -/
structure Fmm where
  runs : List Run
  lowTop : Nat
  highBottom : Nat
  pending : List Consequence
  record : MemErrorRecord
  corrected : Nat
  deriving DecidableEq, Repr

/-! ## The Signal Receiver (chapter 2) -/

/-- A receive rule with its running state (R26). -/
structure Rule where
  enabled : Bool
  extended : Bool
  identifier : Nat
  target : SignalId
  startBit : Nat
  length : Nat
  order : ByteOrder
  signed : Bool
  factor : Int
  shift : Nat
  offset : Int
  timeout : Nat
  invalidPattern : Option Nat
  alive : Option Nat
  lastAlive : Option Nat
  accepted : Nat
  short : Nat
  invalid : Nat
  repeats : Nat
  deriving DecidableEq, Repr

inductive SignalState | none | fresh | held | lost
  deriving DecidableEq, Repr

/-- A signal (R35): the timer counts 100 µs units since its last update and is absent when stopped. -/
structure Signal where
  value : Int
  state : SignalState
  timer : Option Nat
  timeout : Nat
  deriving DecidableEq, Repr

structure Receiver where
  bitRate : Nat
  rules : Table Rule 16
  signals : Table Signal 7
  rawLine : Bool
  line : Bool
  debounce : Option Nat
  debounceTime : Nat
  source : ReverseSource
  lostLatch : Bool
  revEff : Bool
  goodFrames : Nat
  busErrors : Nat
  deriving DecidableEq, Repr

/-! ## The Stream Pacer (chapter 3) -/

inductive StreamState | closed | priming | running | paused | starved
  deriving DecidableEq, Repr

/-- What a good VIN tag carries besides its size (section 9.9). -/
structure FrameTag where
  stamp : Nat
  sequence : Nat
  discontinuity : Bool
  last : Bool
  autoPresent : Bool
  deriving DecidableEq, Repr

/-- A slot of a frame ring (R50); an EMPTY slot holds the outputs its scan hold waits for (R67). -/
inductive Slot where
  | empty (holds : OutputSet)
  | filling (tag : FrameTag) (lines : Nat)
  | ready (stamp sequence : Nat)
  | showing (stamp sequence : Nat)
  deriving DecidableEq, Repr

/-- The six counters of a stream record (R68). -/
structure StreamCounters where
  overrun : Nat
  lateDrop : Nat
  superseded : Nat
  badTag : Nat
  seqGap : Nat
  shortFrame : Nat
  deriving DecidableEq, Repr

/-- A stream record (R49). `fraction` is the clock's fraction of a unit in millionths (R57). -/
structure Stream where
  state : StreamState
  width : Nat
  height : Nat
  format : PixelFormat
  slotCount : Nat
  ring : List Slot
  lastWritten : Nat
  clock : Nat
  fraction : Nat
  clockRunning : Bool
  trim : Int
  tolerance : Nat
  lastStamp : Option Nat
  lastSequence : Option Nat
  endMark : Bool
  counters : StreamCounters
  deriving DecidableEq, Repr

/-- What a VIN port is in the middle of: no frame; a frame whose tag line has not come (and whether an OPEN STREAM has been
taken since it began, R52); a frame whose rest is ignored; a frame being written into a slot, short so far or not; a LAYER
frame loading a layer. -/
inductive VinFrame where
  | idle
  | started (stale : Bool)
  | ignored
  | picture (slot : Nat) (short : Bool)
  | layer (n : Fin 24) (lines : Nat) (autoPresent : Bool)
  deriving DecidableEq, Repr

inductive AudioInput | absent | present | lost
  deriving DecidableEq, Repr

/-- A left and a right 16-bit sample. -/
structure StereoIn where
  left : BitVec 16
  right : BitVec 16
  deriving DecidableEq, Repr

structure Pacer where
  streams : Table Stream 2
  vin : Table VinFrame 2
  audio : AudioInput
  film : Table StereoIn 2
  paceTimer : Bool
  deriving DecidableEq, Repr

/-! ## The Layer Store (chapter 4) -/

inductive LayerState | unused | ready | damaged
  deriving DecidableEq, Repr

/-- A placement (R77). -/
structure Placement where
  x : Int
  y : Int
  z : Nat
  alpha : Nat
  visible : Bool
  deriving DecidableEq, Repr

/-- A layer record (R74). -/
structure Layer where
  state : LayerState
  kind : LayerKind
  permitted : Bool
  format : LayerFormat
  width : Nat
  height : Nat
  planes : Nat
  front : Fin 2
  flipPending : Bool
  damaged : Table Bool 2
  mark : Nat
  vinLoad : Option StreamId
  placements : Table (Option Placement) 3
  deriving DecidableEq, Repr

/-- The CREATE LAYER whose run is being cleared (R76). -/
structure Clearing where
  layer : Fin 24
  kind : LayerKind
  permitted : Bool
  format : LayerFormat
  width : Nat
  height : Nat
  planes : Nat
  deriving DecidableEq, Repr

structure LayerStore where
  layers : Table Layer 24
  designations : Table (Option (Fin 24)) 3
  clearing : Option Clearing
  deriving DecidableEq, Repr

/-! ## The Output Compositor (chapter 5) -/

inductive OwnerState | off | normal | camera | linger
  deriving DecidableEq, Repr

inductive CameraReason | reverse | request
  deriving DecidableEq, Repr

/-- The fit of a picture on an output (R109). -/
structure Fit where
  sw : Nat
  sh : Nat
  ox : Nat
  oy : Nat
  deriving DecidableEq, Repr

/-- A layer plane as an output frame draws it (R79, R111): the layer, the first page of its front plane, its format and size,
and where and how it lies. -/
structure LayerDraw where
  layer : Fin 24
  page : Nat
  format : LayerFormat
  width : Nat
  height : Nat
  x : Int
  y : Int
  z : Nat
  alpha : Nat
  deriving DecidableEq, Repr

/-- What lies below the layers in an output frame (R108, R113, R114, R115). -/
inductive FrameBase where
  /-- The background alone. -/
  | background (colour : Rgb)
  /-- A film frame over the background: the stream and slot it was begun from, the slot's first page, size, format, fit. -/
  | film (colour : Rgb) (stream : StreamId) (slot : Nat) (page width height : Nat) (format : PixelFormat) (fit : Fit)
  /-- A card: its fill and its graphic. -/
  | card (card : Card) (fill : Rgb) (graphic : Option LayerDraw)
  /-- The camera live over black: the capture slot taken, the camera format, the fit, and the overlay plane laid. -/
  | camera (slot : Option (Fin 3)) (width height : Nat) (fit : Fit) (overlay : Option (Fin 2))
  deriving DecidableEq, Repr

/-- The output frame under way, as decided at its refresh event (R107): its timing, what lies below, and the layers in
ascending z. -/
structure OutputFrame where
  timing : Timing
  base : FrameBase
  layers : List LayerDraw
  deriving DecidableEq, Repr

/-- An output record (R95). The linger timer counts 100 µs units. -/
structure OutputRec where
  enabled : Bool
  hostTiming : Timing
  activeTiming : Timing
  background : Rgb
  source : Option StreamId
  owner : OwnerState
  reason : CameraReason
  wasOff : Bool
  linger : Option Nat
  mirror : Bool
  frame : Option OutputFrame
  shownCard : Option Card
  lastFit : Option Fit
  deriving DecidableEq, Repr

/-- The view policy (R96). -/
structure ViewPolicy where
  lingerTime : Nat
  lingerSpeed : Nat
  filmSpeedLimit : Nat
  fills : Table Rgb 3
  deriving DecidableEq, Repr

structure Compositor where
  outputs : Table OutputRec 3
  policy : ViewPolicy
  suppression : Bool
  demand : Bool
  deriving DecidableEq, Repr

/-! ## The Camera Monitor (chapter 6) -/

inductive CameraStatus | off | waking | live | lost | frozen
  deriving DecidableEq, Repr

/-- The camera settings (R119). -/
structure CameraSettings where
  width : Nat
  height : Nat
  format : PixelFormat
  frameTimeout : Nat
  wakeTimeout : Nat
  freezeCount : Nat
  keepWarm : Bool
  deriving DecidableEq, Repr

inductive CaptureState where
  | empty
  | filling (lines : Nat)
  | complete
  deriving DecidableEq, Repr

/-- A capture slot with the outputs that hold it (R128, R130). -/
structure CaptureSlot where
  state : CaptureState
  holds : OutputSet
  deriving DecidableEq, Repr

/-- The camera frame being received: the slot it is written into (absent when passed over), the picture lines so far, whether
every line so far had the right length, and the check over the grid samples so far (R118, R125, R129). -/
structure CameraRx where
  slot : Option (Fin 3)
  lines : Nat
  sound : Bool
  check : BitVec 16
  deriving DecidableEq, Repr

structure Camera where
  settings : CameraSettings
  status : CameraStatus
  timer : Option Nat
  prevSig : Option (BitVec 16)
  equalRun : Nat
  recovery : Nat
  frozen : Nat
  good : Nat
  short : Nat
  slots : Table CaptureSlot 3
  order : List (Fin 3)
  shown : Option (Fin 3)
  lastWritten : Fin 3
  rx : Option CameraRx
  deriving DecidableEq, Repr

/-! ## The Guide Line Generator (chapter 7) -/

/-- The geometry record (R135). -/
structure Geometry where
  ratio : Nat
  wheelbase : Nat
  overhang : Nat
  track : Nat
  reach : Nat
  homography : Table (BitVec 24) 9
  marker1 : Nat
  marker2 : Nat
  marker3 : Nat
  staticLines : Bool
  deriving DecidableEq, Repr

/-- The style record (R137): ARGB1555 colours. -/
structure GuideStyle where
  track : BitVec 16
  marker1 : BitVec 16
  marker2 : BitVec 16
  marker3 : BitVec 16
  static : BitVec 16
  deriving DecidableEq, Repr

inductive GuideContent | hidden | static | dynamic
  deriving DecidableEq, Repr

/-- The inputs a computation sampled when it began to draw (R146): the geometry, the style, the camera format, and the
road-wheel angle when it includes dynamic tracks. -/
structure Drawing where
  geometry : Geometry
  style : GuideStyle
  width : Nat
  height : Nat
  angle : Option Int
  deriving DecidableEq, Repr

/-- The computation state (R144). With a pending flip stands whether CENTRE was OFF at the drawing end or has gone OFF since, so
that any camera view's refresh event performs it (R147). -/
inductive GuideComp where
  | idle
  | waiting
  | drawing (d : Drawing)
  | flipPending (d : Drawing) (anyView : Bool)
  deriving DecidableEq, Repr

/-- What GET GEOMETRY tells of the drawing on view (R150): points of the left and right track, and the marker bars drawn. -/
structure GuideOnView where
  left : Nat
  right : Nat
  bar1 : Bool
  bar2 : Bool
  bar3 : Bool
  deriving DecidableEq, Repr

structure Guide where
  geometry : Geometry
  valid : Bool
  style : GuideStyle
  comp : GuideComp
  recompute : Bool
  lastAngle : Option Int
  front : Fin 2
  content : GuideContent
  camWidth : Nat
  camHeight : Nat
  camStatus : CameraStatus
  demand : Bool
  holds : Table OutputSet 2
  onView : GuideOnView
  deriving DecidableEq, Repr

/-! ## The Chime Player and the Audio Mixer (chapter 8) -/

/-- A sound (R153): times in ms, half-period in samples, level in dB. -/
inductive Sound where
  | tone (halfPeriod on off level : Nat)
  | sample (n : Fin 16) (level : Nat)
  deriving DecidableEq, Repr

inductive ChimeOrigin | host | park
  deriving DecidableEq, Repr

/-- A chime entry in use (R152), with the pending cadence of a PARK entry (R162). -/
structure ChimeEntry where
  cls : ChimeClass
  origin : ChimeOrigin
  sound : Sound
  repetitions : Nat
  tag : Byte
  playing : Bool
  age : Nat
  position : Nat
  preempted : Nat
  cadence : Option Sound
  deriving DecidableEq, Repr

inductive SampleState | undefined | loading | ready | damaged
  deriving DecidableEq, Repr

/-- A sample slot (R159). -/
structure Sample where
  state : SampleState
  count : Nat
  mark : Nat
  deriving DecidableEq, Repr

/-- The park cadence setting (R162). -/
structure ParkCadence where
  near : Nat
  far : Nat
  halfPeriod : Nat
  level : Nat
  deriving DecidableEq, Repr

inductive ParkMode | absent | beeping | continuous | sensor
  deriving DecidableEq, Repr

structure ChimePlayer where
  entries : Table (Option ChimeEntry) 8
  nextAge : Nat
  samples : Table Sample 16
  cadence : ParkCadence
  mode : ParkMode
  sensorGiven : Bool
  deriving DecidableEq, Repr

/-- The record of one audio output (R165). -/
structure MixOut where
  film : Option StreamId
  filmVolume : Nat
  chimeFlag : Bool
  chimeVolume : Nat
  target : Nat
  applied : Nat
  clips : Nat
  deriving DecidableEq, Repr

/-- A left and a right sample as an audio output carries it. -/
structure Stereo where
  left : Int
  right : Int
  deriving DecidableEq, Repr

/-- The Audio Mixer: CABIN 0, PHONES-L 1, PHONES-R 2 (R165). -/
structure Mixer where
  outs : Table MixOut 3
  duck : Nat
  rev : Nat
  revEff : Bool
  playing : Bool
  samples : Table Stereo 3
  deriving DecidableEq, Repr

/-! ## The Control Link: outcomes, notices and replies (chapter 9) -/

/-- The outcomes of replies (R174). -/
inductive Result
  | done | adjusted | accepted | busy | notNow | badValue | noSpace | conflict | badFrame | unknown
  deriving DecidableEq, Repr

inductive RevContribution | line | bus | both | setting
  deriving DecidableEq, Repr

inductive OwnerReason | reverse | request | reverseEnd | timer | speed | release | host
  deriving DecidableEq, Repr

inductive ChimeEnd | played | cancelled | evicted | preemptLimit
  deriving DecidableEq, Repr

inductive StoreOpName | erase | write
  deriving DecidableEq, Repr

/-- The flags of STREAM_TROUBLE (R68). -/
structure Trouble where
  overrun : Bool := false
  lateDrop : Bool := false
  badTag : Bool := false
  seqGap : Bool := false
  shortFrame : Bool := false
  audioLoss : Bool := false
  memory : Bool := false
  deriving DecidableEq, Repr

/-- What a block reports: the kind and source of a notice with its argument (R177). -/
inductive Report where
  | partStarted (sectors : Table (Option SectorState) 8) (cause : ResetCause)
  | reverseChanged (rev : Bool) (src : RevContribution)
  | signalState (mask : BitVec 7)
  | cameraState (status : CameraStatus)
  | streamState (s : StreamId) (state : StreamState)
  | streamTrouble (s : StreamId) (flags : Trouble)
  | layerEvent (loaded refused damaged : BitVec 24)
  | memoryError (page : Nat) (owner : Owner) (reader : Reader)
  | outputOwner (o : Output) (state : OwnerState) (reason : OwnerReason)
  | chimeEnded (entry : Fin 8) (tag : Byte) (reason : ChimeEnd)
  | storeDone (sector : Fin 8) (op : StoreOpName) (result : SectorState)
  | selfTestDone (failing : Nat)
  deriving DecidableEq, Repr

/-- An entry of the notice queue (R176). -/
structure NoticeEntry where
  report : Report
  repeats : Nat
  deriving DecidableEq, Repr

/-- The reply of READ PAGE MAP (R11). -/
structure PageMapReport where
  lowTop : Nat
  highBottom : Nat
  entries : List (Owner × Nat × Nat)
  moreRuns : Bool
  deriving DecidableEq, Repr

/-- One signal in the reply of READ SIGNALS (R42): value, state, age and the enabled rule that targets it. -/
structure SignalReport where
  value : Int
  state : SignalState
  age : Nat
  rule : Option (Fin 16)
  deriving DecidableEq, Repr

/-- The reply of READ SIGNALS (R42). -/
structure SignalsReport where
  signals : List SignalReport
  rawLine : Bool
  line : Bool
  busTerm : Bool
  lostLatch : Bool
  revEff : Bool
  source : ReverseSource
  debounceTime : Nat
  goodFrames : Nat
  busErrors : Nat
  deriving DecidableEq, Repr

/-- The reply of GET STREAM (R71): the record, the lead output and the audio input state. For a CLOSED stream the slot count
is 0 and no slot records follow. -/
structure StreamReport where
  state : StreamState
  width : Nat
  height : Nat
  format : PixelFormat
  slotCount : Nat
  slots : List Slot
  lastWritten : Nat
  clock : Nat
  clockRunning : Bool
  trim : Int
  tolerance : Nat
  lastStamp : Option Nat
  lastSequence : Option Nat
  endMark : Bool
  counters : StreamCounters
  lead : Option Output
  audio : AudioInput
  deriving DecidableEq, Repr

/-- The reply of GET LAYER (R93): the fixed part, then the parts that are present. -/
structure LayerReport where
  layer : Nat
  state : LayerState
  kind : LayerKind
  format : LayerFormat
  planes : Nat
  permitted : Bool
  front : Fin 2
  flipPending : Bool
  vinLoad : Bool
  damaged : Table Bool 2
  designations : Table Bool 3
  size : Option (Nat × Nat)
  run : Option (Nat × Nat)
  mark : Option Nat
  placements : Table (Option Placement) 3
  deriving DecidableEq, Repr

/-- The reply of GET OUTPUT (R116); the linger timer in ms. With the view policy stands the suppression hysteresis, which no
request changes (R96). -/
structure OutputReport where
  enabled : Bool
  hostTiming : Timing
  activeTiming : Timing
  background : Rgb
  source : Option StreamId
  mirror : Bool
  owner : OwnerState
  reason : CameraReason
  wasOff : Bool
  linger : Option Nat
  fit : Option Fit
  shownCard : Option Card
  placements : Nat
  policy : ViewPolicy
  hysteresis : Nat
  suppression : Option Bool
  deriving DecidableEq, Repr

/-- One capture slot in the reply of GET CAMERA (R133). -/
structure CaptureReport where
  state : CaptureState
  place : Option Nat
  holds : OutputSet
  deriving DecidableEq, Repr

/-- The reply of GET CAMERA (R133); the frame timer in ms. -/
structure CameraReport where
  status : CameraStatus
  settings : CameraSettings
  demand : Bool
  runs : Bool
  timer : Option Nat
  prevSig : Option (BitVec 16)
  equalRun : Nat
  recovery : Nat
  slots : List CaptureReport
  newest : Option (Fin 3)
  shown : Option (Fin 3)
  lastWritten : Fin 3
  good : Nat
  short : Nat
  frozen : Nat
  deriving DecidableEq, Repr

inductive GuideCompName | idle | waiting | drawing | flipPending
  deriving DecidableEq, Repr

/-- The reply of GET GEOMETRY (R150). -/
structure GeometryReport where
  geometry : Geometry
  valid : Bool
  style : GuideStyle
  active : Bool
  comp : GuideCompName
  recompute : Bool
  lastAngle : Option Int
  front : Fin 2
  content : GuideContent
  holds : Table OutputSet 2
  camWidth : Nat
  camHeight : Nat
  onView : GuideOnView
  deriving DecidableEq, Repr

/-- The reply of GET CHIMES (R168). -/
structure ChimesReport where
  entries : Table (Option ChimeEntry) 8
  samples : Table Sample 16
  cadence : ParkCadence
  mode : ParkMode
  sensorGiven : Bool
  nearest : Option Int
  deriving DecidableEq, Repr

/-- The reply of GET MIX (R168). -/
structure MixReport where
  outs : Table MixOut 3
  duck : Nat
  rev : Nat
  revEff : Bool
  playing : Bool
  deriving DecidableEq, Repr

/-- The reply of GET STATE (R180). The notices are given by kind and source. -/
structure StateReport where
  cause : ResetCause
  outstanding : Nat
  notTaken : Nat
  badFrames : Nat
  notices : List (Nat × Nat)
  revEff : Bool
  owners : Table OwnerState 3
  camera : CameraStatus
  streams : Table StreamState 2
  storeOp : Bool
  selfTest : Bool
  deriving DecidableEq, Repr

/-- The body of a reply, as the fields its request's rule lists (log 4). -/
inductive ReplyBody where
  | empty
  | identity (partCode : BitVec 16) (revision : Nat) (phase : Phase) (sectors : Table (Option SectorState) 8)
  | notices (removed : List NoticeEntry) (left : Nat)
  | state (r : StateReport)
  | pageMap (r : PageMapReport)
  | memoryError (r : MemErrorRecord) (corrected : Nat)
  | rules (rs : List (Nat × Rule))
  | signals (r : SignalsReport)
  | stream (r : StreamReport)
  | layer (r : LayerReport)
  | output (r : OutputReport)
  | refused (outputs : OutputSet)
  | camera (r : CameraReport)
  | geometry (r : GeometryReport)
  | chimeEntry (id : Fin 8)
  | chimes (r : ChimesReport)
  | mix (r : MixReport)
  | sectorHalf (data : List Byte) (state : Option SectorState)
  deriving DecidableEq, Repr

/-- The standing of a request in the outstanding-request list (R172). -/
inductive RequestStatus where
  | waiting
  | executing
  | replied (result : Result) (body : ReplyBody)
  deriving DecidableEq, Repr

/-- An outstanding request (R172, R173). `fixed` is the answer settled when the request was taken: BAD_FRAME for a bad frame
(R171), BUSY or BAD_VALUE for a RESET PART that is not performed (R181). -/
structure Outstanding where
  tag : Byte
  code : Byte
  fixed : Option Result
  status : RequestStatus
  deriving DecidableEq, Repr

/-- A transaction under way (R170, R181): whether the oldest ready reply is being shifted out, whether a request frame has
already ended in it, and whether the part reads nothing for its rest. -/
structure Transaction where
  sending : Bool
  frameEnded : Bool
  deaf : Bool
  deriving DecidableEq, Repr

/-- The answer a request command was given last: the MODEL's own field (log 3). -/
structure Answered where
  code : Byte
  result : Result
  body : ReplyBody
  deriving DecidableEq, Repr

structure Link where
  requests : List Outstanding
  notTaken : Nat
  badFrames : Nat
  notices : List NoticeEntry
  transaction : Option Transaction
  lastAnswer : Option Answered
  deriving DecidableEq, Repr

/-! ## The whole part -/

/-- The state of the part. `steps` lists the steps of the start-up under way that have not ended, in their order (R182). `free`
counts the free decisions taken and `pending` is the queue of waiting commands; both are the model's own. -/
structure State where
  part : Part
  steps : List StartUpStep
  link : Link
  recv : Receiver
  fmm : Fmm
  mem : FrameMemory
  pacer : Pacer
  layers : LayerStore
  comp : Compositor
  cam : Camera
  guide : Guide
  chime : ChimePlayer
  mixer : Mixer
  store : Store
  selfTest : Option SelfTest
  free : Nat
  pending : List Instr
  deriving DecidableEq, Repr

/-- Why the machine stops. No row of the table stops this part: every command answers a next state, so there is no
constructor. -/
inductive Fault
  deriving DecidableEq, Repr

/-- Why a command has no meaning. -/
inductive Refusal where
  /-- Raised by `exec` for a row that has no meaning yet; no arm raises it. Safe: no claim about a next state holds of it. -/
  | notModelled (mnemonic : String)
  deriving DecidableEq, Repr

/-! ## Reset values -/

/-- An empty receive rule (R26): every other field zero, the optional fields absent. -/
def Rule.cleared : Rule :=
  { enabled := false, extended := false, identifier := 0, target := .reverse, startBit := 0, length := 0, order := .lsbFirst,
    signed := false, factor := 0, shift := 0, offset := 0, timeout := 0, invalidPattern := none, alive := none,
    lastAlive := none, accepted := 0, short := 0, invalid := 0, repeats := 0 }

/-- The safe value of a signal (R35). -/
def safeValue : SignalId → Int
  | .reverse => 0
  | .steerAngle => 0
  | .speed => 30000
  | .distOuterL | .distInnerL | .distInnerR | .distOuterR => 255

/-- A signal in NONE (R35). -/
def Signal.initial (i : SignalId) : Signal := { value := safeValue i, state := .none, timer := none, timeout := 0 }

/-- The Signal Receiver at the start of start-up (R48), given the level of REV_IN: 500 kbit/s, LINE, 50 ms. -/
def Receiver.initial (raw : Bool) : Receiver :=
  { bitRate := 500, rules := Table.fill 16 Rule.cleared,
    signals := ⟨#[.initial .reverse, .initial .steerAngle, .initial .speed, .initial .distOuterL, .initial .distInnerL,
      .initial .distInnerR, .initial .distOuterR], rfl⟩,
    rawLine := raw, line := false, debounce := if raw then some 0 else none, debounceTime := 50, source := .line,
    lostLatch := false, revEff := false, goodFrames := 0, busErrors := 0 }

/-- The clear memory error record (R22). -/
def MemErrorRecord.clear : MemErrorRecord :=
  { latched := false, page := 0, owner := .free, reader := .scan .centre, more := false }

/-- The FMM after each reset (R5, R24). -/
def Fmm.initial : Fmm :=
  { runs := [], lowTop := 190, highBottom := 2048, pending := [], record := .clear, corrected := 0 }

def StreamCounters.zero : StreamCounters :=
  { overrun := 0, lateDrop := 0, superseded := 0, badTag := 0, seqGap := 0, shortFrame := 0 }

/-- A stream record after reset (R49). -/
def Stream.initial : Stream :=
  { state := .closed, width := 0, height := 0, format := .yuv422, slotCount := 0, ring := [], lastWritten := 0, clock := 0,
    fraction := 0, clockRunning := false, trim := 0, tolerance := 40, lastStamp := none, lastSequence := none,
    endMark := false, counters := .zero }

/-- The Stream Pacer after reset (R72). -/
def Pacer.initial : Pacer :=
  { streams := Table.fill 2 .initial, vin := Table.fill 2 .idle, audio := .absent, film := Table.fill 2 ⟨0, 0⟩,
    paceTimer := false }

/-- A layer record after reset (R74). -/
def Layer.initial : Layer :=
  { state := .unused, kind := .menu, permitted := false, format := .argb8888, width := 0, height := 0, planes := 0, front := 0,
    flipPending := false, damaged := Table.fill 2 false, mark := 0, vinLoad := none, placements := Table.fill 3 none }

/-- The Layer Store after reset (R94). -/
def LayerStore.initial : LayerStore :=
  { layers := Table.fill 24 .initial, designations := Table.fill 3 none, clearing := none }

/-- The built-in timing of an output (R95). -/
def builtInTiming : Output → Timing
  | .centre => ⟨1280, 720, 60⟩
  | .rearL | .rearR => ⟨1280, 800, 60⟩

/-- An output record with the given settings, right after the step that loads sector 3 (R95, R117). DESIGN CHOICE (unsafe, log
43): no frame is under way until the output's first refresh event comes; R117 does not say whether one begins at the load. -/
def OutputRec.loaded (enabled : Bool) (t : Timing) (background : Rgb) (mirror : Bool) : OutputRec :=
  { enabled, hostTiming := t, activeTiming := t, background, source := none, owner := if enabled then .normal else .off,
    reason := .reverse, wasOff := false, linger := none, mirror, frame := none, shownCard := none, lastFit := none }

/-- The built-in view policy (R96). -/
def ViewPolicy.builtIn : ViewPolicy :=
  { lingerTime := 3000, lingerSpeed := 1000, filmSpeedLimit := 500,
    fills := ⟨#[⟨32, 32, 32⟩, ⟨64, 0, 0⟩, ⟨0, 0, 48⟩], rfl⟩ }

/-- The Compositor when sector 3 is not VALID (R95, R96, R117). -/
def Compositor.builtIn : Compositor :=
  { outputs := ⟨#[.loaded true (builtInTiming .centre) ⟨0, 0, 0⟩ false, .loaded true (builtInTiming .rearL) ⟨0, 0, 0⟩ false,
      .loaded true (builtInTiming .rearR) ⟨0, 0, 0⟩ false], rfl⟩,
    policy := .builtIn, suppression := true, demand := false }

/-- The built-in camera settings (R119). -/
def CameraSettings.builtIn : CameraSettings :=
  { width := 1280, height := 800, format := .yuv422, frameTimeout := 200, wakeTimeout := 800, freezeCount := 15,
    keepWarm := false }

/-- The Camera Monitor after reset, with the given settings (R128, section 6.3). -/
def Camera.initial (settings : CameraSettings) : Camera :=
  { settings, status := .off, timer := none, prevSig := none, equalRun := 0, recovery := 0, frozen := 0, good := 0, short := 0,
    slots := Table.fill 3 ⟨.empty, .none⟩, order := [], shown := none, lastWritten := 0, rx := none }

/-- The built-in geometry (R135). -/
def Geometry.builtIn : Geometry :=
  { ratio := 1600, wheelbase := 2700, overhang := 1000, track := 1600, reach := 3000, homography := Table.fill 9 0,
    marker1 := 1000, marker2 := 2000, marker3 := 2500, staticLines := false }

/-- The built-in style (R137). -/
def GuideStyle.builtIn : GuideStyle :=
  { track := 0xFFE0, marker1 := 0xFC00, marker2 := 0xFFE0, marker3 := 0x83E0, static := 0xFFFF }

/-- No drawing on view (R150). -/
def GuideOnView.none : GuideOnView := { left := 0, right := 0, bar1 := false, bar2 := false, bar3 := false }

/-- The Generator after reset, with the given geometry, style and camera format (R144). -/
def Guide.initial (geometry : Geometry) (valid : Bool) (style : GuideStyle) (w h : Nat) : Guide :=
  { geometry, valid, style, comp := .idle, recompute := false, lastAngle := none, front := 0, content := .hidden,
    camWidth := w, camHeight := h, camStatus := .off, demand := false, holds := Table.fill 2 .none, onView := .none }

/-- The built-in park cadence (R162). -/
def ParkCadence.builtIn : ParkCadence := { near := 30, far := 150, halfPeriod := 60, level := 6 }

/-- The Chime Player after reset, with the given cadence (R169). -/
def ChimePlayer.initial (cadence : ParkCadence) : ChimePlayer :=
  { entries := Table.fill 8 none, nextAge := 0, samples := Table.fill 16 ⟨.undefined, 0, 0⟩, cadence, mode := .absent,
    sensorGiven := false }

/-- The Audio Mixer when sector 4 is not VALID (R165). -/
def Mixer.builtIn : Mixer :=
  { outs := ⟨#[⟨none, 20, true, 6, 20, 20, 0⟩, ⟨some .a, 24, false, 12, 24, 24, 0⟩, ⟨some .b, 24, false, 12, 24, 24, 0⟩], rfl⟩,
    duck := 12, rev := 63, revEff := false, playing := false, samples := Table.fill 3 ⟨0, 0⟩ }

/-- The calibration store as delivered: sector 0 written at manufacture, the others erased. DESIGN CHOICE, unsafe, log 7. -/
def Store.factory : Store :=
  { sectors := ⟨#[⟨Config.factoryIdentity, false, some .valid⟩, ⟨Config.erasedSector, false, some .erased⟩,
      ⟨Config.erasedSector, false, some .erased⟩, ⟨Config.erasedSector, false, some .erased⟩,
      ⟨Config.erasedSector, false, some .erased⟩, ⟨Config.erasedSector, false, some .erased⟩,
      ⟨Config.erasedSector, false, some .erased⟩, ⟨Config.erasedSector, false, some .erased⟩], rfl⟩,
    op := none }

/-- The Link Controller at the start of every start-up (R181). -/
def Link.initial : Link :=
  { requests := [], notTaken := 0, badFrames := 0, notices := [], transaction := none, lastAnswer := none }

/-- The machine right after reset: a power-on start-up has done its steps 1 to 6 (R182) with the store as delivered, the part
is STARTING, and no command waits. -/
def State.reset : State :=
  { part := ⟨.starting, .power⟩, steps := [], link := .initial, recv := .initial false, fmm := .initial, mem := ⟨[], [], []⟩,
    pacer := .initial, layers := .initial, comp := .builtIn, cam := .initial .builtIn,
    guide := .initial .builtIn false .builtIn 1280 800, chime := .initial .builtIn, mixer := .builtIn, store := .factory,
    selfTest := none, free := 0, pending := [] }

end Sys2Proof.Machine
end

