-- ==== Sys2Proof/Machine/Operands.lean ====
section
/-! DEFINITION. How operands are brought into range, and the 16-bit check that frames, tags, sectors and signatures use. -/

namespace Sys2Proof.Machine

open Sys2Proof

/-- A quantity clamped to the nearer bound (00_scope, Quantities in requests). -/
def clampNat (lo hi n : Nat) : Nat := if n < lo then lo else if hi < n then hi else n

/-- A signed quantity clamped to the nearer bound. -/
def clampInt (lo hi n : Int) : Int := if n < lo then lo else if hi < n then hi else n

/-- An optional quantity clamped where it is present. -/
def clampOpt (lo hi : Nat) (n : Option Nat) : Option Nat := n.map (clampNat lo hi)

/-- DONE, or ADJUSTED when a quantity was clamped (R174). -/
def doneOr (adjusted : Bool) : Result := if adjusted then .adjusted else .done

/-- A number rounded up to whole units (R6). -/
def ceilDiv (n d : Nat) : Nat := (n + d - 1) / d

/-- `k n`, after `n` has been worked out: this keeps a long check evaluable by the kernel and changes nothing else. -/
def withNat {α : Type} (n : Nat) (k : Nat → α) : α :=
  match n with
  | 0 => k 0
  | m + 1 => k (m + 1)

/-- One step of the check for one bit: the generator is x^16 + x^12 + x^5 + 1 (R171). -/
def checkBit (c : BitVec 16) : BitVec 16 := if c.msb then (c <<< 1) ^^^ 0x1021#16 else c <<< 1

/-- The check fed with one byte, most significant bit first (R171). -/
def checkByte (c : BitVec 16) (b : Byte) : BitVec 16 :=
  (List.range 8).foldl (fun c _ => checkBit c) (c ^^^ (b.zeroExtend 16 <<< 8))

/-- The check fed with bytes, from a value reached. -/
def checkFrom : BitVec 16 → List Byte → BitVec 16
  | c, [] => c
  | c, b :: bs => withNat (checkByte c b).toNat fun n => checkFrom (BitVec.ofNat 16 n) bs

/-- The value the check starts at (R171). -/
def checkStart : BitVec 16 := 0xFFFF#16

/-- CHECK over a list of bytes (R171). -/
def check (bytes : List Byte) : BitVec 16 := checkFrom checkStart bytes

/-- The byte at a place, 0 beyond the end. -/
def byteAt (bytes : List Byte) (i : Nat) : Byte := bytes.getD i 0

/-- The 16-bit number at a place, most significant byte first. -/
def u16At (bytes : List Byte) (i : Nat) : Nat := be16 (byteAt bytes i) (byteAt bytes (i + 1))

/-- The 32-bit number at a place, most significant byte first. -/
def u32At (bytes : List Byte) (i : Nat) : Nat :=
  be32 (byteAt bytes i) (byteAt bytes (i + 1)) (byteAt bytes (i + 2)) (byteAt bytes (i + 3))

/-- The signed 16-bit number at a place. -/
def s16At (bytes : List Byte) (i : Nat) : Int := (BitVec.ofNat 16 (u16At bytes i)).toInt

/-- The 24-bit field at a place. -/
def b24At (bytes : List Byte) (i : Nat) : BitVec 24 :=
  BitVec.ofNat 24 ((byteAt bytes i).toNat * 65536 + be16 (byteAt bytes (i + 1)) (byteAt bytes (i + 2)))

/-- The stream a request's stream number names (R52). -/
def streamOf : Nat → Option StreamId
  | 0 => some .a
  | 1 => some .b
  | _ => none

/-- The output a request's output number names (R104). -/
def outputOf : Nat → Option Output
  | 0 => some .centre
  | 1 => some .rearL
  | 2 => some .rearR
  | _ => none

/-- The signal a target code names (R26). -/
def signalOf : Nat → Option SignalId
  | 0 => some .reverse
  | 1 => some .steerAngle
  | 2 => some .speed
  | 3 => some .distOuterL
  | 4 => some .distInnerL
  | 5 => some .distInnerR
  | 6 => some .distOuterR
  | _ => none

/-- The signals in code order. -/
def signals : List SignalId := [.reverse, .steerAngle, .speed, .distOuterL, .distInnerL, .distInnerR, .distOuterR]

/-- Bytes per pixel of a layer format (R6, R75). -/
def LayerFormat.bytes : LayerFormat → Nat
  | .argb8888 => 4
  | .argb1555 => 2

/-- Pages of one slot of a stream ring (R6). -/
def slotPages (width height : Nat) : Nat := ceilDiv (width * height * 2) Config.pageBytes

/-- Bytes of one layer plane (R75). -/
def planeBytes (format : LayerFormat) (width height : Nat) : Nat := width * height * LayerFormat.bytes format

/-- Pages of one layer plane (R6). -/
def planePages (format : LayerFormat) (width height : Nat) : Nat := ceilDiv (planeBytes format width height) Config.pageBytes

/-- Pages of a sample (R6). -/
def samplePages (count : Nat) : Nat := ceilDiv (count * 2) Config.pageBytes

end Sys2Proof.Machine
end

