-- ==== Sys2Proof/Machine/Memory.lean ====
section
/-! DEFINITION. Frame memory: reading and writing bytes, clearing pages, the self-test's pattern, and the canonical form. -/

namespace Sys2Proof.Machine

open Sys2Proof

/-- What a byte that is not listed reads as: the complement of the self-test's pattern in a page the self-test has left
(R190), else 0: the camera reserve by R24, the other pages by DESIGN CHOICE (unsafe, log 8). -/
def FrameMemory.unlisted (m : FrameMemory) (a : Nat) : Byte :=
  if m.patterned.contains (a / Config.pageBytes) then ~~~ Config.selfTestPattern a else 0#8

/-- The byte stored at an address. -/
def FrameMemory.stored (m : FrameMemory) (a : Nat) : Byte :=
  match m.cells.find? (fun c => c.1 == a) with
  | some c => c.2
  | none => m.unlisted a

/-- The byte a reader is delivered: zero in a word that cannot be corrected (R13). -/
def FrameMemory.read (m : FrameMemory) (a : Nat) : Byte :=
  if m.bad.contains (a / Config.wordBytes) then 0#8 else m.stored a

/-- The cells that bytes written from an address leave listed: those of frame memory that differ from the unlisted byte. -/
def FrameMemory.listing (m : FrameMemory) : Nat → List Byte → List Host.Cell
  | _, [] => []
  | a, b :: bs =>
    if a < Config.memoryBytes ∧ b ≠ m.unlisted a then (a, b) :: m.listing (a + 1) bs else m.listing (a + 1) bs

/-- The bytes from an address replaced, in canonical form. -/
def FrameMemory.splice (m : FrameMemory) (a : Nat) (bytes : List Byte) : FrameMemory :=
  { m with cells := m.cells.filter (fun c => decide (c.1 < a)) ++ m.listing a bytes ++
      m.cells.filter (fun c => decide (a + bytes.length ≤ c.1)) }

/-- Whether a write of `n` bytes from address `a` touches a word. -/
def touches (a n word : Nat) : Bool :=
  decide (0 < n) && decide (a < (word + 1) * Config.wordBytes) && decide (word * Config.wordBytes < a + n)

/-- The words of a list taken as zero, as a write finds the bytes it keeps and cannot correct (R82). -/
def FrameMemory.zeroWords (m : FrameMemory) : List Nat → FrameMemory
  | [] => m
  | w :: ws => (m.splice (w * Config.wordBytes) (List.replicate Config.wordBytes 0#8)).zeroWords ws

/-- Bytes written from an address. Every word touched gets fresh check bits; a word written in part keeps its other bytes,
taken as zero where they cannot be corrected (R1, R82, R160). -/
def FrameMemory.write (m : FrameMemory) (a : Nat) (bytes : List Byte) : FrameMemory :=
  let hit := m.bad.filter (touches a bytes.length)
  { (m.zeroWords hit).splice a bytes with bad := m.bad.filter (fun w => !touches a bytes.length w) }

/-- Whether a page lies in a run of pages. -/
def pageIn (base count p : Nat) : Bool := decide (base ≤ p) && decide (p < base + count)

/-- Zero written to every word of a run of pages (R24, R76, R143). -/
def FrameMemory.zeroPages (m : FrameMemory) (base count : Nat) : FrameMemory :=
  { cells := m.cells.filter (fun c => !pageIn base count (c.1 / Config.pageBytes))
    patterned := m.patterned.filter (fun p => !pageIn base count p)
    bad := m.bad.filter (fun w => !pageIn base count (w / Config.pageWords)) }

/-- A number added to a strictly rising list. -/
def insertNew (n : Nat) : List Nat → List Nat
  | [] => [n]
  | k :: ks => if n < k then n :: k :: ks else if n = k then k :: ks else k :: insertNew n ks

/-- The complement of the self-test's pattern left in every word of a set of pages (R190); the words in `late` were found
uncorrectable after it was written, and stay so until their next write (R21). -/
def FrameMemory.patternPages (m : FrameMemory) (pages late : List Nat) : FrameMemory :=
  { cells := m.cells.filter (fun c => !pages.contains (c.1 / Config.pageBytes))
    patterned := pages.foldr insertNew m.patterned
    bad := m.bad.filter (fun w => !pages.contains (w / Config.pageWords) || late.contains w) }

/-- A word found to be uncorrectable; it stays so until it is written (R13). -/
def FrameMemory.markBad (m : FrameMemory) (word : Nat) : FrameMemory :=
  { m with bad := insertNew word m.bad }

/-- The canonical form: addresses strictly rising, inside frame memory, and no byte listed that reads the same unlisted; the
patterned pages and the uncorrectable words strictly rising. -/
abbrev FrameMemory.wf (m : FrameMemory) : Prop :=
  m.cells.Pairwise (fun c d => c.1 < d.1) ∧ (∀ c ∈ m.cells, c.1 < Config.memoryBytes ∧ c.2 ≠ m.unlisted c.1) ∧
  m.patterned.Pairwise (· < ·) ∧ m.bad.Pairwise (· < ·)

/-- The first address of a page (R1). -/
def pageAddress (p : Nat) : Nat := p * Config.pageBytes

end Sys2Proof.Machine
end

