-- ==== Sys2Proof/Machine/Flags.lean ====
section
/-! DEFINITION. Counters that saturate, masks and flag sets, and how a queued notice takes a new argument. -/

namespace Sys2Proof.Machine

open Sys2Proof

/-- A counter of 0 to 65535 raised by `k`; it stays at 65535 (00_scope, Arithmetic). -/
def satAdd (n k : Nat) : Nat := if n + k ≤ 65535 then n + k else 65535

/-- A counter of 0 to 65535 raised by one. -/
def satInc (n : Nat) : Nat := satAdd n 1

/-- Whether a timer runs and has reached a time given in ms. -/
def reached (timer : Option Nat) (ms : Nat) : Bool :=
  match timer with
  | some e => decide (ms * Config.perMs ≤ e)
  | none => false

/-- The mask bit of a signal (R37). -/
def signalBit (i : SignalId) : BitVec 7 := 1#7 <<< (signalNo i).1

/-- The mask bit of a layer (R89). -/
def layerBit (n : Fin 24) : BitVec 24 := 1#24 <<< n.1

/-- The union of two sets of trouble flags (R68). -/
def Trouble.or (x y : Trouble) : Trouble :=
  { overrun := x.overrun || y.overrun, lateDrop := x.lateDrop || y.lateDrop, badTag := x.badTag || y.badTag,
    seqGap := x.seqGap || y.seqGap, shortFrame := x.shortFrame || y.shortFrame, audioLoss := x.audioLoss || y.audioLoss,
    memory := x.memory || y.memory }

/-- Kind code and source of a report (R177). -/
def Report.key : Report → Nat × Nat
  | .partStarted _ _ => (1, 0)
  | .reverseChanged _ _ => (2, 0)
  | .signalState _ => (3, 0)
  | .cameraState _ => (4, 0)
  | .streamState s _ => (5, (streamNo s).1)
  | .streamTrouble s _ => (6, (streamNo s).1)
  | .layerEvent _ _ _ => (7, 0)
  | .memoryError _ _ _ => (8, 0)
  | .outputOwner o _ _ => (9, (outputNo o).1)
  | .chimeEnded e _ _ => (10, e.1)
  | .storeDone _ _ _ => (11, 0)
  | .selfTestDone _ => (12, 0)

/-- The argument of a queued notice after a new report of the same kind and source: OR for SIGNAL_STATE, STREAM_TROUBLE and
LAYER_EVENT, Replace for the others (R177). -/
def Report.merge : Report → Report → Report
  | .signalState m, .signalState m' => .signalState (m ||| m')
  | .streamTrouble _ f, .streamTrouble s f' => .streamTrouble s (Trouble.or f f')
  | .layerEvent l r d, .layerEvent l' r' d' => .layerEvent (l ||| l') (r ||| r') (d ||| d')
  | _, new => new

/-- A repeats count of 0 to 255 raised by one (R176). -/
def repeatsInc (n : Nat) : Nat := if n < 255 then n + 1 else 255

/-- The notice queue after a report (R176): merged into the entry of its kind and source, which keeps its place, or a new
entry with repeats 0 at the tail. -/
def queueReport (r : Report) : List NoticeEntry → List NoticeEntry
  | [] => [⟨r, 0⟩]
  | e :: es =>
    if Report.key e.report = Report.key r then ⟨Report.merge e.report r, repeatsInc e.repeats⟩ :: es else e :: queueReport r es

/-- The union of two sets of outputs. -/
def OutputSet.union (x y : OutputSet) : OutputSet :=
  { centre := x.centre || y.centre, rearL := x.rearL || y.rearL, rearR := x.rearR || y.rearR }

/-- Whether a set holds no output. -/
def OutputSet.isEmpty (x : OutputSet) : Bool := !x.centre && !x.rearL && !x.rearR

/-- The set of the outputs that pass a test. -/
def outputsWhere (p : Output → Bool) : OutputSet := { centre := p .centre, rearL := p .rearL, rearR := p .rearR }

end Sys2Proof.Machine
end

