-- ==== Sys2Proof/Machine/Ops.lean ====
section
/-! DEFINITION. The named operations every block uses: reading and replacing one record of a table, reporting a notice, taking
a request into the outstanding-request list, and answering it. -/

namespace Sys2Proof.Machine

open Sys2Proof

/-! ## Records of the tables -/

/-- The record of an output. -/
def State.out (s : State) (o : Output) : OutputRec := s.comp.outputs.sel (outputNo o)

/-- The record of an output replaced. -/
def State.putOut (s : State) (o : Output) (r : OutputRec) : State :=
  { s with comp := { s.comp with outputs := s.comp.outputs.put (outputNo o) r } }

/-- The record of a stream. -/
def State.stream (s : State) (i : StreamId) : Stream := s.pacer.streams.sel (streamNo i)

/-- The record of a stream replaced. -/
def State.putStream (s : State) (i : StreamId) (r : Stream) : State :=
  { s with pacer := { s.pacer with streams := s.pacer.streams.put (streamNo i) r } }

/-- What a VIN port is in the middle of. -/
def State.vin (s : State) (p : StreamId) : VinFrame := s.pacer.vin.sel (streamNo p)

/-- What a VIN port is in the middle of, replaced. -/
def State.putVin (s : State) (p : StreamId) (f : VinFrame) : State :=
  { s with pacer := { s.pacer with vin := s.pacer.vin.put (streamNo p) f } }

/-- A layer record. -/
def State.layer (s : State) (n : Fin 24) : Layer := s.layers.layers.sel n

/-- A layer record replaced. -/
def State.putLayer (s : State) (n : Fin 24) (r : Layer) : State :=
  { s with layers := { s.layers with layers := s.layers.layers.put n r } }

/-- A signal of the signal table. -/
def State.signal (s : State) (i : SignalId) : Signal := s.recv.signals.sel (signalNo i)

/-- A signal of the signal table replaced. -/
def State.putSignal (s : State) (i : SignalId) (r : Signal) : State :=
  { s with recv := { s.recv with signals := s.recv.signals.put (signalNo i) r } }

/-- A chime entry. -/
def State.entry (s : State) (i : Fin 8) : Option ChimeEntry := s.chime.entries.sel i

/-- A chime entry replaced. -/
def State.putEntry (s : State) (i : Fin 8) (e : Option ChimeEntry) : State :=
  { s with chime := { s.chime with entries := s.chime.entries.put i e } }

/-- A sample slot. -/
def State.sample (s : State) (n : Fin 16) : Sample := s.chime.samples.sel n

/-- A sample slot replaced. -/
def State.putSample (s : State) (n : Fin 16) (x : Sample) : State :=
  { s with chime := { s.chime with samples := s.chime.samples.put n x } }

/-! ## Notices (R176) -/

/-- A block reports a notice. -/
def State.report (s : State) (r : Report) : State :=
  { s with link := { s.link with notices := queueReport r s.link.notices } }

/-! ## Requests (R171 to R175, R181) -/

/-- The code of GET IDENTITY (section 9.9). -/
def codeGetIdentity : Byte := 0x01#8
/-- The code of RESET PART (section 9.9). -/
def codeResetPart : Byte := 0x03#8

/-- The request code table (section 9.9). -/
def requestCodes : List Byte :=
  [0x01#8, 0x02#8, 0x03#8, 0x04#8, 0x10#8, 0x11#8, 0x20#8, 0x21#8, 0x22#8, 0x23#8, 0x24#8,
   0x30#8, 0x31#8, 0x32#8, 0x33#8, 0x34#8, 0x35#8, 0x36#8, 0x37#8, 0x40#8, 0x41#8, 0x42#8, 0x43#8, 0x44#8, 0x45#8, 0x46#8,
   0x50#8, 0x51#8, 0x52#8, 0x53#8, 0x54#8, 0x60#8, 0x61#8, 0x68#8, 0x69#8, 0x6A#8,
   0x70#8, 0x71#8, 0x72#8, 0x73#8, 0x74#8, 0x75#8, 0x76#8, 0x77#8, 0x78#8, 0x80#8, 0x81#8, 0x82#8, 0x83#8]

/-- Whether the part is STARTING. -/
def State.isStarting (s : State) : Bool := decide (s.part.phase = .starting)

/-- Whether the part is RUNNING. -/
def State.isRunning (s : State) : Bool := decide (s.part.phase = .running)

/-- The answer the Link Controller itself gives a request that would become EXECUTING: the one settled when it was taken,
UNKNOWN, or BUSY while STARTING; none when it hands the request to its block (R173). -/
def linkAnswer (phase : Phase) (r : Outstanding) : Option Result :=
  match r.fixed with
  | some a => some a
  | none =>
    if !requestCodes.contains r.code then some .unknown
    else if phase = .starting ∧ r.code ≠ codeGetIdentity then some .busy
    else none

/-- Whether a request has been answered. -/
def Outstanding.isReplied (r : Outstanding) : Bool :=
  match r.status with
  | .replied _ _ => true
  | _ => false

/-- Whether a request is EXECUTING. -/
def Outstanding.isExecuting (r : Outstanding) : Bool := decide (r.status = .executing)

/-- The outstanding-request list after execution has gone on as far as it can (R173): the oldest WAITING request becomes
EXECUTING when none is, unless the Link Controller answers it itself and the next follows. -/
def advance (phase : Phase) : List Outstanding → List Outstanding
  | [] => []
  | r :: rs =>
    match r.status with
    | .replied _ _ => r :: advance phase rs
    | .executing => r :: rs
    | .waiting =>
      match linkAnswer phase r with
      | some a => { r with status := .replied a .empty } :: advance phase rs
      | none => { r with status := .executing } :: rs

/-- How many BAD_FRAME answers `advance` gives (R171). -/
def badAnswers (phase : Phase) : List Outstanding → Nat
  | [] => 0
  | r :: rs =>
    match r.status with
    | .replied _ _ => badAnswers phase rs
    | .executing => 0
    | .waiting =>
      match linkAnswer phase r with
      | some .badFrame => badAnswers phase rs + 1
      | some _ => badAnswers phase rs
      | none => 0

/-- Execution goes on as far as it can, with its BAD_FRAME answers counted (R171, R173). -/
def State.advanceRequests (s : State) : State :=
  { s with link := { s.link with
      badFrames := satAdd s.link.badFrames (badAnswers s.part.phase s.link.requests)
      requests := advance s.part.phase s.link.requests } }

/-- The list with the EXECUTING request of a code answered. -/
def markReplied (code : Byte) (result : Result) (body : ReplyBody) : List Outstanding → List Outstanding
  | [] => []
  | r :: rs =>
    if r.isExecuting && decide (r.code = code) then { r with status := .replied result body } :: rs
    else r :: markReplied code result body rs

/-- The answer to the request that is EXECUTING with this code, if there is one: it becomes REPLIED and the next WAITING
request follows (R173). The answer is kept as `lastAnswer` in either case (log 3). -/
def State.answer (s : State) (code : Byte) (result : Result) (body : ReplyBody) : State :=
  State.advanceRequests { s with link := { s.link with
    requests := markReplied code result body s.link.requests
    lastAnswer := some ⟨code, result, body⟩ } }

/-- A request joins the list at the tail, or is counted as not taken while four are in it (R172); execution then goes on (R173). -/
def State.enlist (s : State) (tag code : Byte) (fixed : Option Result) : State :=
  if Config.maxRequests ≤ s.link.requests.length then
    { s with link := { s.link with notTaken := satInc s.link.notTaken } }
  else
    State.advanceRequests { s with link := { s.link with
      requests := s.link.requests ++ [⟨tag, code, fixed, .waiting⟩] } }

/-- The transaction under way changed. -/
def State.setTransaction (s : State) (x : Option Transaction) : State :=
  { s with link := { s.link with transaction := x } }

/-- A request frame ends and is taken by `take` (R170, R181): not while the transaction under way reads nothing more, since one of
its frames has ended or a reset has come. With no transaction under way it is one of its own (log 5). -/
def State.frameEnds (s : State) (take : State → State) : State :=
  match s.link.transaction with
  | some x => if x.frameEnded || x.deaf then s else take (s.setTransaction (some { x with frameEnded := true }))
  | none => take s

/-- A request row finds its request EXECUTING, or another, or none; with none the row is its request's frame end as well. The tag
of a frame that has no bytes is 0. DESIGN CHOICE (unsafe, log 3). -/
def State.taking (s : State) (code : Byte) : State :=
  if s.link.requests.any Outstanding.isExecuting then s else s.frameEnds fun t => t.enlist 0#8 code none

/-- Whether the Link Controller hands a request of a code to its block (R173): it is EXECUTING, its block has not already begun
it (R76), and the part is RUNNING or the request is GET IDENTITY. -/
def State.handsOver (s : State) (code : Byte) : Bool :=
  s.link.requests.any (fun r => r.isExecuting && decide (r.code = code)) && s.layers.clearing.isNone &&
    (s.isRunning || decide (code = codeGetIdentity))

/-- What a block answers a request: now, with an outcome and a body, or later (R173: it keeps the request EXECUTING). -/
inductive Reply where
  | now (result : Result) (body : ReplyBody)
  | later
  deriving DecidableEq, Repr

/-- An answer without a body (R174). -/
def Reply.plain (r : Result) : Reply := .now r .empty

/-- A request comes to its block (R173): the block acts on the EXECUTING request of its code, and its answer, when it makes one
now, is returned. Where the Link Controller does not hand the request over (not taken, waiting behind another, answered BUSY), the
block does not act. -/
def request (code : Byte) (block : State → State × Reply) (s : State) : State :=
  let t := s.taking code
  if t.handsOver code then
    match block t with
    | (u, .now result body) => u.answer code result body
    | (u, .later) => u
  else t

/-- A request with a body: a body shorter than its fields is answered BAD_VALUE by the block (R173). -/
def requestWith {α : Type} (code : Byte) (b : Body α) (block : α → State → State × Reply) (s : State) : State :=
  request code (fun t => match b with
    | .whole f => block f t
    | .short => (t, .plain .badValue)) s

/-- How the Link Controller judges a frame at its end (R171). -/
inductive FrameVerdict where
  | noRequest
  | bad (tag : Byte)
  | good (tag code : Byte) (body : List Byte)
  deriving DecidableEq, Repr

/-- The judgement of the bytes received in a transaction up to a frame's end or the transaction's (R171). -/
def judgeFrame : List Byte → FrameVerdict
  | sync :: len :: tag :: rest =>
    if sync ≠ 0xA5#8 then .noRequest
    else if len.toNat > Config.maxBody ∨ rest.length < len.toNat + 3 then .bad tag
    else
      match rest with
      | [] => .bad tag
      | code :: more =>
        let body := more.take len.toNat
        if (check (len :: tag :: code :: body)).toNat = u16At more len.toNat then .good tag code body else .bad tag
  | _ => .noRequest

/-- The reply queue (R170): the replies that are ready, oldest first. -/
def State.replyQueue (s : State) : List Outstanding := s.link.requests.filter Outstanding.isReplied

/-- ATTN (R175): asserted while a ready reply has not been collected or the notice queue holds an entry. -/
def State.attn (s : State) : Bool := !s.replyQueue.isEmpty || !s.link.notices.isEmpty

end Sys2Proof.Machine
end

