-- ==== Sys2Proof/Machine/Fmm.lean ====
section
/-! DEFINITION. The Frame Memory Manager: the page map, allocation and freeing, the memory error record, and holding pending
consequences (chapter 1). -/

namespace Sys2Proof.Machine

open Sys2Proof

/-- The run descriptor of an owner (R3). -/
def Fmm.runOf (f : Fmm) (o : RunOwner) : Option Run := f.runs.find? (fun r => decide (r.owner = o))

/-- The run a page lies in. -/
def Fmm.runAt (f : Fmm) (p : Nat) : Option Run := f.runs.find? (fun r => pageIn r.base r.count p)

/-- The page map: the owner of a page (R2). -/
def Fmm.ownerOf (f : Fmm) (p : Nat) : Owner :=
  if p < Config.reservePages then .reserve
  else
    match f.runAt p with
    | some r => .run r.owner
    | none => .free

/-- The page map: the index of a page within its owner's run; a reserve page's number is its index (R2, R4). -/
def Fmm.indexOf (f : Fmm) (p : Nat) : Nat :=
  match f.runAt p with
  | some r => p - r.base
  | none => p

/-- A hole: its first page and its length (R5). -/
structure Hole where
  base : Nat
  count : Nat
  deriving DecidableEq, Repr

/-- The maximal FREE stretches from `lo` up to `hi`, given the runs there by rising base. -/
def holesBetween (lo hi : Nat) : List Run → List Hole
  | [] => if lo < hi then [⟨lo, hi - lo⟩] else []
  | r :: rs => (if lo < r.base then [⟨lo, r.base - lo⟩] else []) ++ holesBetween (r.base + r.count) hi rs

/-- The low holes, lowest first (R5). -/
def Fmm.lowHoles (f : Fmm) : List Hole :=
  holesBetween Config.reservePages f.lowTop (f.runs.filter fun r => decide (r.base < f.lowTop))

/-- The high holes, lowest first (R5). -/
def Fmm.highHoles (f : Fmm) : List Hole :=
  holesBetween f.highBottom Config.pages (f.runs.filter fun r => decide (f.highBottom ≤ r.base))

/-- A run put in its place by base. -/
def insertRun (r : Run) : List Run → List Run
  | [] => [r]
  | q :: qs => if r.base < q.base then r :: q :: qs else q :: insertRun r qs

/-- A low-region run of `n` pages placed by the search of R8, or no space. -/
def Fmm.placeLow (f : Fmm) (o : RunOwner) (n : Nat) : Option Fmm :=
  match f.lowHoles.find? (fun h => decide (n ≤ h.count)) with
  | some h => some { f with runs := insertRun ⟨o, h.base, n⟩ f.runs }
  | none =>
    if f.lowTop + n ≤ f.highBottom then
      some { f with runs := insertRun ⟨o, f.lowTop, n⟩ f.runs, lowTop := f.lowTop + n }
    else none

/-- A high-region run of `n` pages placed by the search of R9, or no space. -/
def Fmm.placeHigh (f : Fmm) (o : RunOwner) (n : Nat) : Option Fmm :=
  match f.highHoles.reverse.find? (fun h => decide (n ≤ h.count)) with
  | some h => some { f with runs := insertRun ⟨o, h.base + h.count - n, n⟩ f.runs }
  | none =>
    if f.lowTop + n ≤ f.highBottom then
      some { f with runs := insertRun ⟨o, f.highBottom - n, n⟩ f.runs, highBottom := f.highBottom - n }
    else none

/-- The answers of an allocation call (R7). -/
inductive Placed where
  | placed (f : Fmm)
  | noSpace
  | busy
  deriving DecidableEq, Repr

/-- An allocation call (R7): Busy while a self-test is in flight, the space not examined. -/
def allocate (place : Fmm → RunOwner → Nat → Option Fmm) (s : State) (o : RunOwner) (n : Nat) : Placed :=
  if s.selfTest.isSome then .busy
  else
    match place s.fmm o n with
    | some f => .placed f
    | none => .noSpace

/-- The low boundary after retraction: one past the highest page the low region has in use, or 190 (R10). -/
def retractLow (lowTop : Nat) (runs : List Run) : Nat :=
  runs.foldl (fun m r => if r.base + r.count ≤ lowTop then max m (r.base + r.count) else m) Config.reservePages

/-- The high boundary after retraction: the lowest page the high region has in use, or 2048 (R10). -/
def retractHigh (highBottom : Nat) (runs : List Run) : Nat :=
  runs.foldl (fun m r => if highBottom ≤ r.base then min m r.base else m) Config.pages

/-- The owner of a unit that consequences are held for (R15). -/
def MemUnit.owner : MemUnit → Option RunOwner
  | .streamSlot s _ => some (.stream s)
  | .layer n => some (.layer n)
  | .sample n => some (.sample n)
  | .capture _ => none
  | .guidePlane _ => none

/-- A free call (R10): without effect when the descriptor is absent; else the run goes, with every pending consequence held
for the owner, and both boundaries retract. -/
def Fmm.free (f : Fmm) (o : RunOwner) : Fmm :=
  match f.runOf o with
  | none => f
  | some _ =>
    let runs := f.runs.filter (fun r => !decide (r.owner = o))
    { f with
      runs := runs
      lowTop := retractLow f.lowTop runs
      highBottom := retractHigh f.highBottom runs
      pending := f.pending.filter (fun c => !decide (MemUnit.owner c.unit = some o)) }

/-- Whether a run lies wholly in its owner's region (R3, R5). -/
def Fmm.inRegion (f : Fmm) (r : Run) : Bool :=
  match r.owner with
  | .stream _ => decide (r.base + r.count ≤ f.lowTop)
  | .layer _ => decide (f.highBottom ≤ r.base)
  | .sample _ => decide (f.highBottom ≤ r.base)

/-- The page map laws of R2, R5 and R10: the runs lie apart by rising base above the reserve, each wholly in its region, every
owner at most once, and each boundary touches a page in use unless it is at its start value. -/
abbrev Fmm.lawful (f : Fmm) : Prop :=
  f.runs.Pairwise (fun p q => p.base + p.count ≤ q.base) ∧
  (∀ r ∈ f.runs, 0 < r.count ∧ Config.reservePages ≤ r.base ∧ r.base + r.count ≤ Config.pages ∧ f.inRegion r = true) ∧
  (f.runs.map Run.owner).Nodup ∧
  Config.reservePages ≤ f.lowTop ∧ f.lowTop ≤ f.highBottom ∧ f.highBottom ≤ Config.pages ∧
  (f.lowTop = Config.reservePages ∨ ∃ r ∈ f.runs, r.base + r.count = f.lowTop) ∧
  (f.highBottom = Config.pages ∨ ∃ r ∈ f.runs, r.base = f.highBottom)

/-- The entries of READ PAGE MAP in ascending order of base: the reserve, each run and each hole (R11). -/
def Fmm.entries (f : Fmm) : List (Owner × Nat × Nat) :=
  let low := f.runs.filter fun r => decide (r.base < f.lowTop)
  let high := f.runs.filter fun r => !decide (r.base < f.lowTop)
  let row (r : Run) : Owner × Nat × Nat := (.run r.owner, r.base, r.count)
  let hole (h : Hole) : Owner × Nat × Nat := (.free, h.base, h.count)
  let byBase (xs : List (Owner × Nat × Nat)) := xs.insertionSort (fun x y => x.2.1 ≤ y.2.1)
  (.reserve, 0, Config.reservePages) :: byBase (low.map row ++ f.lowHoles.map hole) ++
    byBase (high.map row ++ f.highHoles.map hole)

/-- READ PAGE MAP's report (R11): up to 48 entries whose base is at least the first page. -/
def Fmm.pageMap (f : Fmm) (first : Nat) : PageMapReport :=
  let from' := f.entries.filter fun e => decide (first ≤ e.2.1)
  { lowTop := f.lowTop, highBottom := f.highBottom, entries := from'.take 48, moreRuns := decide (48 < from'.length) }

/-- The FREE pages, lowest first (R190). -/
def Fmm.freePages (f : Fmm) : List Nat := (List.range Config.pages).filter fun p => decide (f.ownerOf p = .free)

/-! ## Memory errors -/

/-- An error is offered to the memory error record (R22): the clear record latches and queues MEMORY_ERROR; a latched one sets
MORE. -/
def State.offerError (s : State) (page : Nat) (owner : Owner) (reader : Reader) : State :=
  if s.fmm.record.latched then { s with fmm := { s.fmm with record := { s.fmm.record with more := true } } }
  else
    State.report { s with fmm := { s.fmm with
      record := { latched := true, page := page, owner := owner, reader := reader, more := false } } }
      (.memoryError page owner reader)

/-- A consequence is held, unless its unit has one already (R15). -/
def Fmm.hold (f : Fmm) (c : Consequence) : Fmm :=
  if f.pending.any (fun d => decide (d.unit = c.unit)) then f else { f with pending := f.pending ++ [c] }

/-- The unit of a camera reserve page (R4, R15). -/
def reserveUnit (p : Nat) : MemUnit :=
  if p < Config.reserveUnit then .capture 0
  else if p < 2 * Config.reserveUnit then .capture 1
  else if p < Config.guideBase then .capture 2
  else if p < Config.guideBase + Config.reserveUnit then .guidePlane 0
  else .guidePlane 1

/-- The stamp a stream slot is SHOWING. -/
def showingStamp (x : Stream) (slot : Nat) : Option Nat :=
  match x.ring[slot]? with
  | some (.showing stamp _) => some stamp
  | _ => none

/-- The pending consequence of an error in a page, for every owner but FREE (R13, R15, R16). -/
def consequenceOf (s : State) (page : Nat) (reader : Reader) : Option Consequence :=
  let i := s.fmm.indexOf page
  match s.fmm.ownerOf page with
  | .free => none
  | .reserve => some ⟨reserveUnit page, reader, i, none, false⟩
  | .run (.stream x) =>
    let r := s.stream x
    let slot := i / slotPages r.width r.height
    some ⟨.streamSlot x slot, reader, i, showingStamp r slot, false⟩
  | .run (.layer n) => some ⟨.layer n, reader, i, none, false⟩
  | .run (.sample n) => some ⟨.sample n, reader, i, none, false⟩

/-- The self-test in flight finds an uncorrectable error in a word of its page set (R190); `last` tells whether in its last
read-back. -/
def SelfTest.found (t : SelfTest) (word : Nat) (last : Bool) : SelfTest :=
  { t with errorFound := true, late := if last then insertNew word t.late else t.late }

/-- The reader SELF_TEST finds an uncorrectable error (R21, R190); whether it was the last read-back is a free value (log 34).
Without a self-test in flight, or outside its page set, it finds none. -/
def State.selfTestFinds (s : State) (word : Nat) : State :=
  match s.selfTest with
  | some t =>
    if word / Config.pageWords ∈ t.pages then
      { s with selfTest := some (t.found word (Config.foundInLastReadBack s.free)), free := s.free + 1 }
    else s
  | none => s

/-- A reader finds an uncorrectable error in a word (R13, R21, R190). -/
def State.findError (s : State) (reader : Reader) (word : Nat) : State :=
  let page := word / Config.pageWords
  let s1 := State.offerError { s with mem := s.mem.markBad word } page (s.fmm.ownerOf page) reader
  let s2 := if reader = .selfTest then s1.selfTestFinds word else s1
  match consequenceOf s page reader with
  | some c => { s2 with fmm := s2.fmm.hold c }
  | none => s2

end Sys2Proof.Machine
end

