-- ==== Sys2Proof/Machine/Pacer.lean ====
section
/-! DEFINITION. The Stream Pacer: stream states and clocks, the choice of frame at a pace event, the slots of a ring and their
scan holds, and the end of a picture frame (chapter 3). -/

namespace Sys2Proof.Machine

open Sys2Proof

/-- An EMPTY slot that no scan holds. -/
def Slot.free : Slot := .empty OutputSet.none

/-- The stream's state changes (R51): the clock runs exactly in RUNNING, and STREAM_STATE is queued. -/
def State.setStreamState (s : State) (i : StreamId) (st : StreamState) : State :=
  State.report (s.putStream i { s.stream i with state := st, clockRunning := decide (st = .running) }) (.streamState i st)

/-- The outputs whose output frame under way was begun from a slot (R67). -/
def State.scanning (s : State) (i : StreamId) (slot : Nat) : OutputSet :=
  outputsWhere fun o =>
    match (s.out o).frame with
    | some f =>
      (match f.base with
        | .film _ j k _ _ _ _ _ => decide (j = i) && decide (k = slot)
        | _ => false)
    | none => false

/-- The number of the SHOWING slot and its stamp (R50). -/
def showingSlot : List Slot → Option (Nat × Nat)
  | [] => none
  | .showing stamp _ :: _ => some (0, stamp)
  | _ :: xs => (showingSlot xs).map fun p => (p.1 + 1, p.2)

/-- The oldest READY slot: the one with the lowest stamp, its number and its stamp (R50). -/
def oldestReady : List Slot → Option (Nat × Nat)
  | [] => none
  | .ready stamp _ :: xs =>
    match oldestReady xs with
    | some p => if p.2 < stamp then some (p.1 + 1, p.2) else some (0, stamp)
    | none => some (0, stamp)
  | _ :: xs => (oldestReady xs).map fun p => (p.1 + 1, p.2)

/-- A READY slot as SHOWING. -/
def Slot.shown : Slot → Slot
  | .ready stamp seq => .showing stamp seq
  | x => x

/-- A SHOWING slot emptied, held for the outputs given (R65, R67). -/
def Slot.unshown (holds : OutputSet) : Slot → Slot
  | .showing _ _ => .empty holds
  | x => x

/-- A READY slot emptied; it was never SHOWING, so it is not held (R56, R63, R65). -/
def Slot.flushed : Slot → Slot
  | .ready _ _ => Slot.free
  | x => x

/-- What the choice of frame leaves (R65): the ring, how many late drops and supersessions, and whether it ended with no READY
slot. -/
structure Choice where
  ring : List Slot
  late : Nat
  superseded : Nat
  starved : Bool
  deriving DecidableEq, Repr

/-- The choice of frame at clock value `c` with due window `e` and late tolerance `l`, both in clock units; `holds` are the
outputs that scan the slot SHOWING now (R65). The first argument bounds the steps by the slot count. -/
def choose (c e l : Nat) (holds : OutputSet) : Nat → Choice → Choice
  | 0, x => x
  | n + 1, x =>
    match oldestReady x.ring with
    | none => { x with starved := true }
    | some (k, stamp) =>
      let rest := x.ring.set k Slot.free
      if stamp + l < c then choose c e l holds n { x with ring := rest, late := x.late + 1 }
      else if c + e < stamp then x
      else
        match oldestReady rest with
        | some (_, next) =>
          if next ≤ c + e then choose c e l holds n { x with ring := rest, superseded := x.superseded + 1 }
          else { x with ring := (x.ring.map (Slot.unshown holds)).modify k Slot.shown }
        | none => { x with ring := (x.ring.map (Slot.unshown holds)).modify k Slot.shown }

/-- Whether the starvation test makes the stream STARVED: no current frame, or one the clock has passed by more than 200 ms
(R66). -/
def starves (clock : Nat) (ring : List Slot) : Bool :=
  match showingSlot ring with
  | none => true
  | some (_, stamp) => decide (stamp + 2000 < clock)

/-- A pace event of a stream, with its due window (R64, R65, R66); without effect unless the stream is RUNNING. -/
def State.pace (s : State) (i : StreamId) (e : Nat) : State :=
  let r := s.stream i
  if r.state = .running then
    let holds := match showingSlot r.ring with
      | some (k, _) => s.scanning i k
      | none => OutputSet.none
    let x := choose r.clock e (r.tolerance * 10) holds (r.ring.length + 1) ⟨r.ring, 0, 0, false⟩
    let s1 := s.putStream i { r with
      ring := x.ring
      counters := { r.counters with
        lateDrop := satAdd r.counters.lateDrop x.late
        superseded := satAdd r.counters.superseded x.superseded } }
    let s2 := if x.late = 0 then s1 else s1.report (.streamTrouble i { lateDrop := true })
    if x.starved && !r.endMark && starves r.clock x.ring then s2.setStreamState i .starved else s2
  else s

/-- The lead output of a stream: the lowest-numbered output in NORMAL whose picture source is the stream (R64). -/
def State.lead (s : State) (i : StreamId) : Option Output :=
  outputs.find? fun o => decide ((s.out o).owner = .normal) && decide ((s.out o).source = some i)

/-- The due window of a stream paced by its lead output (R64). -/
def leadWindow (refresh : Nat) : Nat := if refresh = 50 then 100 else 83

/-- The due window of a stream paced by the internal pace timer (R64). -/
def timerWindow : Nat := 166

/-- The output's holds on the slots of a ring clear (R67). -/
def Slot.release (o : Output) : Slot → Slot
  | .empty holds => .empty (holds.put o false)
  | x => x

/-- The output's scan holds clear, at its refresh event or when it goes OFF (R67). -/
def State.releaseScan (s : State) (o : Output) : State :=
  let one (t : State) (i : StreamId) : State :=
    t.putStream i { t.stream i with ring := (t.stream i).ring.map (Slot.release o) }
  one (one s .a) .b

/-- A stream clock after one more 100 µs (R57): 1 + trim / 1,000,000 units, the fraction kept, the value staying at its
largest. -/
def Stream.tick (r : Stream) : Stream :=
  if r.clockRunning then
    let acc := ((r.fraction : Int) + 1000000 + r.trim).toNat
    let v := r.clock + acc / 1000000
    if v < Config.clockMax then { r with clock := v, fraction := acc % 1000000 }
    else { r with clock := Config.clockMax, fraction := 0 }
  else r

/-- A fill in progress abandoned: the slot is EMPTY again (R53, R56, R62). -/
def Slot.unfilled : Slot → Slot
  | .filling _ _ => Slot.free
  | x => x

/-- The rest of a frame that was being written into a slot is ignored. -/
def VinFrame.dropPicture : VinFrame → VinFrame
  | .picture _ _ => .ignored
  | f => f

/-- The slots of a ring searched once round from `k`, for the first EMPTY one without a scan hold (R61). -/
def usableSlot (ring : List Slot) (k : Nat) : Nat → Option Nat
  | 0 => none
  | n + 1 =>
    let j := k % ring.length
    if ring[j]? = some Slot.free then some j else usableSlot ring (k + 1) n

/-- Slot selection for a good PICTURE tag (R61): the slot taken becomes FILLING and last written, or the frame is an overrun. -/
def State.selectSlot (s : State) (i : StreamId) (tag : FrameTag) : State :=
  let r := s.stream i
  match usableSlot r.ring (r.lastWritten + 1) r.ring.length with
  | some k => (s.putStream i { r with ring := r.ring.set k (.filling tag 0), lastWritten := k }).putVin i (.picture k false)
  | none =>
    State.report ((s.putStream i { r with counters := { r.counters with overrun := satInc r.counters.overrun } }).putVin i .ignored)
      (.streamTrouble i { overrun := true })

/-- A frame with a bad tag is discarded, unless its port's stream is CLOSED counted and reported (R60). -/
def State.badTag (s : State) (i : StreamId) : State :=
  let r := s.stream i
  State.report ((s.putStream i { r with counters := { r.counters with badTag := satInc r.counters.badTag } }).putVin i .ignored)
    (.streamTrouble i { badTag := true })

/-- A picture frame ends short: its slot returns to EMPTY (R62). -/
def State.shortPicture (s : State) (i : StreamId) (k : Nat) : State :=
  let r := s.stream i
  State.report (s.putStream i { r with
      ring := r.ring.set k Slot.free
      counters := { r.counters with shortFrame := satInc r.counters.shortFrame } })
    (.streamTrouble i { shortFrame := true })

/-- Whether a completed frame is out of order (R63, step 1). -/
def outOfOrder (tag : FrameTag) (lastStamp : Option Nat) : Bool :=
  !tag.discontinuity && (match lastStamp with
    | some l => decide (tag.stamp ≤ l)
    | none => false)

/-- Whether a completed frame's sequence leaves a gap (R63, steps 2 and 3). -/
def sequenceGap (tag : FrameTag) (lastSequence : Option Nat) : Bool :=
  !tag.discontinuity && (match lastSequence with
    | some q => decide (tag.sequence ≠ (q + 1) % 65536)
    | none => false)

/-- A picture frame completes in slot `k` (R63, steps 1 to 5). -/
def State.completePicture (s : State) (i : StreamId) (k : Nat) (tag : FrameTag) : State :=
  let r := s.stream i
  if outOfOrder tag r.lastStamp then
    State.report (s.putStream i { r with
        ring := r.ring.set k Slot.free
        counters := { r.counters with lateDrop := satInc r.counters.lateDrop } })
      (.streamTrouble i { lateDrop := true })
  else
    let flushed := if tag.discontinuity then r.ring.map Slot.flushed else r.ring
    let gap := sequenceGap tag r.lastSequence
    let s1 := s.putStream i { r with
      ring := flushed.set k (.ready tag.stamp tag.sequence)
      lastStamp := some tag.stamp
      lastSequence := some tag.sequence
      endMark := tag.last
      counters := { r.counters with seqGap := if gap then satInc r.counters.seqGap else r.counters.seqGap } }
    let s2 := if gap then s1.report (.streamTrouble i { seqGap := true }) else s1
    if r.state = .starved then s2.setStreamState i .running else s2

/-- The picture frame in slot `k` comes to its end (R62, R63). -/
def State.endPicture (s : State) (i : StreamId) (k : Nat) (short : Bool) : State :=
  let r := s.stream i
  match r.ring[k]? with
  | some (.filling tag lines) =>
    if !short && decide (r.height ≤ lines) then s.completePicture i k tag else s.shortPicture i k
  | _ => s

/-- A picture line is written at its place in the slot and counted; a line of too few pixels makes the frame short, and what
is over the format is not written (R62). -/
def State.pictureLine (s : State) (i : StreamId) (k : Nat) (line : List Byte) : State :=
  let r := s.stream i
  match r.ring[k]?, s.fmm.runOf (.stream i) with
  | some (.filling tag lines), some run =>
    if lines < r.height then
      let bytes := line.take (r.width * 2)
      let a := pageAddress (run.base + k * slotPages r.width r.height) + lines * (r.width * 2)
      let s1 := { s with mem := s.mem.write a bytes }
      let s2 := s1.putStream i { r with ring := r.ring.set k (.filling tag (lines + 1)) }
      if line.length / 2 < r.width then s2.putVin i (.picture k true) else s2
    else s
  | _, _ => s

/-- The film samples a stream hands the Mixer: those received for its pair when it is RUNNING and the input is PRESENT, else
zero (R69). -/
def State.filmSamples (s : State) (i : StreamId) (received : StereoIn) : StereoIn :=
  if (s.stream i).state = .running ∧ s.pacer.audio = .present then received else ⟨0, 0⟩

/-- A memory error consequence for a stream slot (R16): MEMORY is raised in every case; if the slot still shows the frame that
was read, it becomes EMPTY, held for the outputs that scan it, and the late drop counter increments. -/
def State.dropSlot (s : State) (i : StreamId) (k : Nat) (stamp : Option Nat) : State :=
  let r := s.stream i
  let s1 :=
    if stamp.isSome && decide (showingStamp r k = stamp) then
      s.putStream i { r with
        ring := r.ring.set k (.empty (s.scanning i k))
        counters := { r.counters with lateDrop := satInc r.counters.lateDrop } }
    else s
  s1.report (.streamTrouble i { memory := true })

end Sys2Proof.Machine
end

