-- ==== Sys2Proof/Machine/Layers.lean ====
section
/-! DEFINITION. The Layer Store: when a layer is on view, flips, load marks and full-plane loads, LAYER frames, and damage
(chapter 4). -/

namespace Sys2Proof.Machine

open Sys2Proof

/-- LAYER_EVENT with one layer's bit in the LOADED mask (R89). -/
def loadedEvent (n : Fin 24) : Report := .layerEvent (layerBit n) 0 0
/-- LAYER_EVENT with one layer's bit in the LOAD_REFUSED mask (R89). -/
def refusedEvent (n : Fin 24) : Report := .layerEvent 0 (layerBit n) 0
/-- LAYER_EVENT with one layer's bit in the DAMAGED mask (R89). -/
def damagedEvent (n : Fin 24) : Report := .layerEvent 0 0 (layerBit n)

/-- The other plane. -/
def otherPlane (p : Fin 2) : Fin 2 := if p = 0 then 1 else 0

/-- The plane that loading writes (R81). -/
def Layer.target (l : Layer) : Fin 2 := if l.planes = 2 then otherPlane l.front else 0

/-- The plane size in bytes (R75). -/
def Layer.planeSize (l : Layer) : Nat := planeBytes l.format l.width l.height

/-- The pages of one plane (R6). -/
def Layer.pagesOfPlane (l : Layer) : Nat := planePages l.format l.width l.height

/-- The first page of a plane of a layer, from its run descriptor (R3). -/
def State.planePage (s : State) (n : Fin 24) (plane : Fin 2) : Nat :=
  match s.fmm.runOf (.layer n) with
  | some r => r.base + plane.1 * (s.layer n).pagesOfPlane
  | none => 0

/-- Whether an output is in a camera view. -/
def OutputRec.inView (r : OutputRec) : Bool := decide (r.owner = .camera) || decide (r.owner = .linger)

/-- Whether a layer is on view on an output (R80): a READY MENU layer placed there and visible, on an output in NORMAL, or in a
camera view when it is camera-permitted; a READY CARD layer designated for the card the output showed at its latest refresh
event. No layer is on view on an OFF output. -/
def State.onViewOn (s : State) (n : Fin 24) (o : Output) : Bool :=
  let l := s.layer n
  let r := s.out o
  decide (l.state = .ready) && decide (r.owner ≠ .off) &&
    (match l.kind with
      | .menu =>
        (match l.placements.sel (outputNo o) with
          | some p => p.visible && (!r.inView || l.permitted)
          | none => false)
      | .card =>
        (match r.shownCard with
          | some c => decide (s.layers.designations.sel (cardNo c) = some n)
          | none => false))

/-- Whether a layer is on view on at least one output (R80). -/
def State.onView (s : State) (n : Fin 24) : Bool := outputs.any (s.onViewOn n)

/-- A flip (R84): the load target becomes the front plane, the load mark 0 and flip-pending clear; a pending flip sets the
LOADED bit; a damaged plane brought to the front makes a READY layer DAMAGED and sets its DAMAGED bit. DESIGN CHOICE (unsafe,
log 40): the two bits are two reports, LOADED first; R89 and R176 do not say how often one event raises repeats. -/
def State.flip (s : State) (n : Fin 24) : State :=
  let l := s.layer n
  let front := l.target
  let hurt := decide (l.state = .ready) && l.damaged.sel front
  let s1 := s.putLayer n { l with
    front := front
    mark := 0
    flipPending := false
    state := if hurt then .damaged else l.state }
  let s2 := if l.flipPending then s1.report (loadedEvent n) else s1
  if hurt then s2.report (damagedEvent n) else s2

/-- Every pending flip that a test picks is performed, in layer order. -/
def State.flipWhere (s : State) (p : State → Fin 24 → Bool) : State :=
  (List.finRange 24).foldl (fun t n => if (t.layer n).flipPending && p t n then t.flip n else t) s

/-- Every pending flip of a layer that is on view nowhere is performed (R84). -/
def State.settleFlips (s : State) : State := s.flipWhere fun t n => !t.onView n

/-- The load mark after a write of `n` bytes from offset `o` (R81, R159). -/
def raiseMark (mark o n : Nat) : Nat := if o ≤ mark ∧ mark < o + n then o + n else mark

/-- The effects of a completed full-plane load on the layer's state (R88): the plane leaves the damaged planes; a DAMAGED layer
becomes READY, by a flip at once when its front plane is still damaged. -/
def State.repair (s : State) (n : Fin 24) (plane : Fin 2) : State :=
  let l := s.layer n
  let l1 := { l with damaged := l.damaged.put plane false }
  if l.state = .damaged then
    if l1.damaged.sel l.front then (s.putLayer n { l1 with state := .ready }).flip n
    else s.putLayer n { l1 with state := .ready }
  else s.putLayer n l1

/-- PRESENT's act on a 2-plane layer (R83, R86): the flip is pending when the layer is on view, else performed at once. The
flag tells whether it is pending. -/
def State.requestFlip (s : State) (n : Fin 24) : State × Bool :=
  if s.onView n then (s.putLayer n { s.layer n with flipPending := true }, true) else (s.flip n, false)

/-- A LAYER frame is handed over at its line 0 (R85): discarded, refused, or it begins loading. -/
def State.beginLayerFrame (s : State) (port : StreamId) (target width height : Nat) (autoPresent : Bool) : State :=
  match index 24 target with
  | none => s.putVin port .ignored
  | some n =>
    let l := s.layer n
    if l.state = .unused ∨ width ≠ l.width ∨ height ≠ l.height ∨ l.flipPending = true ∨ l.vinLoad.isSome = true then
      State.report (s.putVin port .ignored) (refusedEvent n)
    else (s.putLayer n { l with vinLoad := some port, mark := 0 }).putVin port (.layer n 0 autoPresent)

/-- A LAYER frame's load fails (R86): the lines written stay in the plane and the mark stays 0. -/
def State.failLayerFrame (s : State) (n : Fin 24) : State :=
  State.report (s.putLayer n { s.layer n with vinLoad := none }) (refusedEvent n)

/-- A picture line of a loading LAYER frame (R86): what fits the format is written at its place; a line of too few pixels
fails the load. -/
def State.layerLine (s : State) (port : StreamId) (n : Fin 24) (lines : Nat) (autoPresent : Bool) (line : List Byte) : State :=
  let l := s.layer n
  let bpp := LayerFormat.bytes l.format
  if lines < l.height then
    let a := pageAddress (s.planePage n l.target) + lines * (l.width * bpp)
    let s1 := { s with mem := s.mem.write a (line.take (l.width * bpp)) }
    if line.length / bpp < l.width then (s1.failLayerFrame n).putVin port .ignored
    else s1.putVin port (.layer n (lines + 1) autoPresent)
  else s

/-- A LAYER frame's load completes (R86, R88): the mark becomes the plane size, the plane is repaired, the LOADED bit is set,
and AUTO_PRESENT acts on a 2-plane layer as PRESENT does. DESIGN CHOICE (unsafe, log 41): a load that was under way when a memory
consequence came repairs the plane all the same; R87 asks for a load whole from that moment, R86 and R88 make no exception. -/
def State.completeLayerFrame (s : State) (n : Fin 24) (autoPresent : Bool) : State :=
  let l := s.layer n
  let s1 := s.putLayer n { l with mark := l.planeSize, vinLoad := none }
  let s2 := (s1.repair n l.target).report (loadedEvent n)
  if autoPresent && decide (l.planes = 2) then (s2.requestFlip n).1 else s2

/-- A memory error consequence reaches a layer (R17, R87). The bit it sets and those of the flips that follow are reports of their
own (log 40). -/
def State.damageLayer (s : State) (n : Fin 24) (pageIndex : Nat) : State :=
  let l := s.layer n
  let plane : Fin 2 := if pageIndex / l.pagesOfPlane = 0 then 0 else 1
  let s1 := s.putLayer n { l with
    damaged := l.damaged.put plane true
    mark := 0
    state := if plane = l.front ∧ l.state = .ready then .damaged else l.state }
  (s1.report (damagedEvent n)).settleFlips

/-- A layer leaves the output frames under way (R79, R90). -/
def OutputFrame.without (f : OutputFrame) (n : Fin 24) : OutputFrame :=
  { f with
    layers := f.layers.filter (fun d => !decide (d.layer = n))
    base := match f.base with
      | .card c fill (some g) => if g.layer = n then .card c fill none else f.base
      | b => b }

/-- A change made to the output frame under way of every output. -/
def State.mapFrames (s : State) (f : OutputFrame → OutputFrame) : State :=
  outputs.foldl (fun t o => t.putOut o { t.out o with frame := (t.out o).frame.map f }) s

/-- A layer is deleted (R90). -/
def State.deleteLayer (s : State) (n : Fin 24) : State :=
  let l := s.layer n
  let s1 := match l.vinLoad with
    | some p => s.putVin p .ignored
    | none => s
  let unname (x : Option (Fin 24)) : Option (Fin 24) := if x = some n then none else x
  let d := s.layers.designations
  let s2 := s1.putLayer n .initial
  let s3 := { s2 with
    layers := { s2.layers with designations := ((d.upd 0 unname).upd 1 unname).upd 2 unname }
    fmm := s2.fmm.free (.layer n) }
  s3.mapFrames (OutputFrame.without · n)

/-- How many placements an output holds (R77). -/
def State.placedOn (s : State) (o : Output) : Nat :=
  ((List.finRange 24).filter fun n => ((s.layer n).placements.sel (outputNo o)).isSome).length

/-- The law of placements on an output (R77): at most six, and no two of one depth. -/
abbrev State.placementsLawful (s : State) (o : Output) : Prop :=
  s.placedOn o ≤ 6 ∧
  ((List.finRange 24).filterMap fun n => ((s.layer n).placements.sel (outputNo o)).map Placement.z).Nodup

end Sys2Proof.Machine
end

