-- ==== Sys2Proof/Machine/Guide.lean ====
section
/-! DEFINITION. The Guide Line Generator: the guide arithmetic, the drawing of the overlay, and when the computation runs
(chapter 7). -/

namespace Sys2Proof.Machine

open Sys2Proof

/-! ## The arithmetic (R138 to R142) -/

/-- The road-wheel angle δ of a steering wheel angle, in 0.01° (R138). -/
def roadAngle (ratio : Nat) (steer : Int) : Int := clampInt (-4500) 4500 (Int.tdiv (steer * 1000) (ratio : Int))

/-- The tangent of a road-wheel angle's magnitude, as a fraction of 65536 (R139). -/
def tangent (a : Nat) : Nat :=
  let i := a / 100
  let t := Config.tanTable.getD i 0
  if i < 45 then t + (Config.tanTable.getD (i + 1) 0 - t) * (a % 100) / 100 else 65536

/-- The curvature κ of the rear axle's path, in 2^−24 per mm (R140). -/
def curvature (t wheelbase : Nat) : Nat := t * 256 / wheelbase

/-- The eleven distances of a track in ascending order, a marker's after an equal d_k; each with the marker it is, if any
(R141). -/
def insertMarker (m : Nat) (which : Fin 3) : List (Nat × Option (Fin 3)) → List (Nat × Option (Fin 3))
  | [] => [(m, some which)]
  | p :: ps => if p.1 ≤ m then p :: insertMarker m which ps else (m, some which) :: p :: ps

/-- The distances of the points of a track (R141). -/
def Geometry.distances (g : Geometry) : List (Nat × Option (Fin 3)) :=
  let plain : List (Nat × Option (Fin 3)) := (List.range 8).map fun k => (k * g.reach / 7, none)
  insertMarker g.marker3 2 (insertMarker g.marker2 1 (insertMarker g.marker1 0 plain))

/-- The deviation of a point at distance `d`, with the sign of δ (R141). -/
def deviation (kappa d overhang : Nat) (angle : Int) : Int :=
  let dev : Int := ((kappa * d * (d + 2 * overhang) / 33554432 : Nat) : Int)
  if angle < 0 then -dev else dev

/-- A coefficient of the homography. -/
def Geometry.h (g : Geometry) (i : Fin 9) : Int := (g.homography.sel i).toInt

/-- A ground point projected into the camera picture; none where it is invalid (R142). -/
def Geometry.project (g : Geometry) (x y : Int) : Option (Int × Int) :=
  let den := g.h 6 * x + g.h 7 * y + g.h 8
  if den ≤ 0 then none
  else
    some (clampInt (-4096) 8191 (Int.tdiv (g.h 0 * x + g.h 1 * y + g.h 2) den),
      clampInt (-4096) 8191 (Int.tdiv (g.h 3 * x + g.h 4 * y + g.h 5) den))

/-- A point of a track in the camera picture, with the marker it is, if any. -/
structure TrackPoint where
  u : Int
  v : Int
  marker : Option (Fin 3)
  deriving DecidableEq, Repr

/-- The points of a track up to, but not including, its first invalid one (R142). -/
def Geometry.cutTrack (g : Geometry) (offset : Int) (kappa : Nat) (angle : Int) :
    List (Nat × Option (Fin 3)) → List TrackPoint
  | [] => []
  | (d, m) :: ds =>
    match g.project (clampInt (-8000) 8000 (offset + deviation kappa d g.overhang angle)) (d : Int) with
    | some (u, v) => ⟨u, v, m⟩ :: g.cutTrack offset kappa angle ds
    | none => []

/-- The lateral offset of the left track, T / 2 (R141). -/
def Geometry.half (g : Geometry) : Int := ((g.track / 2 : Nat) : Int)

/-- The left and the right track for a road-wheel angle (R139 to R142). -/
def Geometry.tracks (g : Geometry) (angle : Int) : List TrackPoint × List TrackPoint :=
  let kappa := curvature (tangent angle.natAbs) g.wheelbase
  (g.cutTrack g.half kappa angle g.distances, g.cutTrack (-g.half) kappa angle g.distances)

/-- The left and the right static line: the same points with κ = 0 (R141). -/
def Geometry.statics (g : Geometry) : List TrackPoint × List TrackPoint :=
  (g.cutTrack g.half 0 0 g.distances, g.cutTrack (-g.half) 0 0 g.distances)

/-- The point of a marker on a track. -/
def markerPoint (m : Fin 3) (track : List TrackPoint) : Option TrackPoint := track.find? fun p => decide (p.marker = some m)

/-- The bar of a marker, when its point belongs to both tracks (R143). -/
def bar (m : Fin 3) (t : List TrackPoint × List TrackPoint) : Option (TrackPoint × TrackPoint) :=
  match markerPoint m t.1, markerPoint m t.2 with
  | some p, some q => some (p, q)
  | _, _ => none

/-! ## The drawing (R143) -/

/-- The centre pixels of a segment (R143). -/
def segment (p q : TrackPoint) : List (Int × Int) :=
  let du := q.u - p.u
  let dv := q.v - p.v
  let m := max du.natAbs dv.natAbs
  if m = 0 then [(p.u, p.v)]
  else (List.range (m + 1)).map fun n => (p.u + Int.tdiv (du * n) m, p.v + Int.tdiv (dv * n) m)

/-- The centre pixels of a polyline: its segments between consecutive points; fewer than two points draw nothing (R143). -/
def polyline : List TrackPoint → List (Int × Int)
  | [] => []
  | [_] => []
  | p :: q :: rest => segment p q ++ polyline (q :: rest)

/-- The pixels a centre pixel marks: 4 × 4 from one before to two after (R143). -/
def brush (c : Int × Int) : List (Int × Int) :=
  ([-1, 0, 1, 2] : List Int).flatMap fun dv => ([-1, 0, 1, 2] : List Int).map fun du => (c.1 + du, c.2 + dv)

/-- The centre pixels a drawing draws, in order, each with its colour (R143). -/
def Drawing.strokes (d : Drawing) : List ((Int × Int) × BitVec 16) :=
  let paint (c : BitVec 16) (ps : List (Int × Int)) : List ((Int × Int) × BitVec 16) := ps.map fun p => (p, c)
  let statics :=
    if d.geometry.staticLines then
      paint d.style.static (polyline d.geometry.statics.1) ++ paint d.style.static (polyline d.geometry.statics.2)
    else []
  match d.angle with
  | none => statics
  | some angle =>
    let t := d.geometry.tracks angle
    let mark (m : Fin 3) (c : BitVec 16) :=
      match bar m t with
      | some (p, q) => paint c (segment p q)
      | none => []
    statics ++ paint d.style.track (polyline t.1) ++ paint d.style.track (polyline t.2) ++
      mark 0 d.style.marker1 ++ mark 1 d.style.marker2 ++ mark 2 d.style.marker3

/-- One overlay pixel written, when it lies inside the camera format; a later write replaces an earlier one (R143). -/
def plot (page w h : Nat) (colour : BitVec 16) (m : FrameMemory) (p : Int × Int) : FrameMemory :=
  if 0 ≤ p.1 ∧ p.1 < (w : Int) ∧ 0 ≤ p.2 ∧ p.2 < (h : Int) then
    m.write (pageAddress page + (p.2.toNat * w + p.1.toNat) * 2) (bytes16 colour.toNat)
  else m

/-- The first page of an overlay plane (R4). -/
def guidePage (plane : Fin 2) : Nat := Config.guideBase + plane.1 * Config.reserveUnit

/-- A drawing into a plane: the whole plane cleared, then the strokes (R143). -/
def Drawing.draw (d : Drawing) (plane : Fin 2) (m : FrameMemory) : FrameMemory :=
  d.strokes.foldl (fun m s => (brush s.1).foldl (plot (guidePage plane) d.width d.height s.2) m)
    (m.zeroPages (guidePage plane) Config.reserveUnit)

/-- The content a drawing gives the plane in front (R146). -/
def Drawing.content (d : Drawing) : GuideContent := if d.angle.isSome then .dynamic else .static

/-- What GET GEOMETRY tells of a drawing (R150); a drawing without dynamic tracks has no track points and no bars. -/
def Drawing.summary (d : Drawing) : GuideOnView :=
  match d.angle with
  | none => .none
  | some angle =>
    let t := d.geometry.tracks angle
    { left := t.1.length, right := t.2.length, bar1 := (bar 0 t).isSome, bar2 := (bar 1 t).isSome, bar3 := (bar 2 t).isSome }

/-! ## When the computation runs (R144 to R149) -/

/-- Whether the Generator is active (R144). -/
def Guide.active (g : Guide) : Bool := g.valid && g.demand && decide (g.camStatus = .live)

/-- The back plane (R146). -/
def Guide.back (g : Guide) : Fin 2 := otherPlane g.front

/-- Whether STEER_ANGLE lets the overlay show dynamic tracks: FRESH or HELD (R143, R146). -/
def State.steerShown (s : State) : Bool :=
  decide ((s.signal .steerAngle).state = .fresh) || decide ((s.signal .steerAngle).state = .held)

/-- A computation begins to draw: it samples its inputs as they stand (R146). -/
def State.beginDrawing (s : State) : State :=
  let g := s.guide
  let angle := if s.steerShown then some (roadAngle g.geometry.ratio (s.signal .steerAngle).value) else none
  { s with guide := { g with
      comp := .drawing { geometry := g.geometry, style := g.style, width := g.camWidth, height := g.camHeight, angle := angle }
      lastAngle := angle } }

/-- A computation begins: WAITING while an output holds the back plane, else drawing at once (R146). -/
def State.beginComputation (s : State) : State :=
  if OutputSet.isEmpty (s.guide.holds.sel s.guide.back) then s.beginDrawing
  else { s with guide := { s.guide with comp := .waiting } }

/-- A recompute is requested (R145). -/
def State.requestRecompute (s : State) : State :=
  if s.guide.active then
    match s.guide.comp with
    | .idle => s.beginComputation
    | .waiting => s
    | .drawing _ => { s with guide := { s.guide with recompute := true } }
    | .flipPending _ _ => { s with guide := { s.guide with recompute := true } }
  else s

/-- The consequences that wait for the end of the drawing in flight go (R14, R149). -/
def State.dropGuideConsequences (s : State) : State :=
  { s with fmm := { s.fmm with pending := s.fmm.pending.filter fun c => !decide (c.reader = .guide) } }

/-- The Generator stops as it becomes inactive (R148). A drawing in flight comes to its end there, and a consequence handed to
an inactive Generator has no further effect (R149). -/
def State.stopGuide (s : State) : State :=
  State.dropGuideConsequences { s with guide := { s.guide with
    comp := .idle, recompute := false, lastAngle := none, content := .hidden, onView := .none } }

/-- A change of what the Generator was handed; it stops when it becomes inactive and requests a recompute when it becomes
active (R145, R148). -/
def State.handGuide (s : State) (f : Guide → Guide) : State :=
  let was := s.guide.active
  let t := { s with guide := f s.guide }
  if was && !t.guide.active then t.stopGuide
  else if !was && t.guide.active then t.requestRecompute
  else t

/-- A drawing in flight is discarded and a new computation begins with the newest inputs (R148, R149). A recompute that was
pending goes with it. DESIGN CHOICE (unsafe, log 37): R147 clears the flag at a flip, and R149 says nothing of it where the
drawing is not flipped. -/
def State.redraw (s : State) : State :=
  State.beginComputation { s with guide := { s.guide with comp := .idle, recompute := false } }

/-- Whether the computation in flight includes dynamic tracks. -/
def GuideComp.dynamic : GuideComp → Bool
  | .drawing d => d.angle.isSome
  | .flipPending d _ => d.angle.isSome
  | _ => false

/-- STEER_ANGLE passes into LOST or NONE (R145, R148). -/
def State.steerLost (s : State) : State :=
  if s.guide.active then
    let g := s.guide
    let t := if g.content = .dynamic then { s with guide := { g with content := .hidden, onView := .none } } else s
    if g.comp.dynamic then t.dropGuideConsequences.redraw else t.requestRecompute
  else s

/-- STEER_ANGLE is handed to the Generator (R38, R145): after an update, and whether its state changed into FRESH. -/
def State.steerUpdated (s : State) (stateChanged : Bool) : State :=
  let delta := roadAngle s.guide.geometry.ratio (s.signal .steerAngle).value
  let moved := match s.guide.lastAngle with
    | some a => decide (10 ≤ (delta - a).natAbs)
    | none => true
  if stateChanged || moved then s.requestRecompute else s

/-- An output's hold on the overlay planes clears (R144); a computation that waits begins to draw when the last hold on the
back plane clears (R146). -/
def State.releaseGuide (s : State) (o : Output) : State :=
  let g := s.guide
  let t := { s with guide := { g with holds :=
    (g.holds.upd 0 fun h => h.put o false).upd 1 fun h => h.put o false } }
  if g.comp = .waiting ∧ OutputSet.isEmpty (t.guide.holds.sel t.guide.back) = true then t.beginDrawing else t

/-- A pending flip is performed (R147), and a pending recompute begins at once. -/
def State.flipGuide (s : State) : State :=
  match s.guide.comp with
  | .flipPending d _ =>
    let t := { s with guide := { s.guide with
      front := s.guide.back, content := d.content, onView := d.summary, comp := .idle } }
    if s.guide.recompute then t.redraw else t
  | _ => s

/-- Whether a refresh event of an output performs the pending flip (R147): CENTRE's, or any camera view's when CENTRE was OFF at
the drawing end or has gone OFF while the flip waits. -/
def State.flipsGuide (s : State) (o : Output) : Bool :=
  match s.guide.comp with
  | .flipPending _ anyView => if anyView then (s.out o).inView else decide (o = .centre)
  | _ => false

/-- CENTRE goes OFF: a flip that waits is any camera view's from then on (R147). -/
def State.flipByAnyView (s : State) : State :=
  match s.guide.comp with
  | .flipPending d _ => { s with guide := { s.guide with comp := .flipPending d true } }
  | _ => s

/-- The drawing in flight comes to its end (R146, R149): the plane is drawn; with a consequence for the back plane handed there
it is not flipped and a new computation begins, else it waits for its flip. -/
def State.endDrawing (s : State) : State :=
  match s.guide.comp with
  | .drawing d =>
    let back := s.guide.back
    let hit := s.fmm.pending.any fun c => decide (c.reader = .guide) && decide (c.unit = .guidePlane back)
    let t := State.dropGuideConsequences { s with mem := d.draw back s.mem }
    if hit then t.redraw
    else { t with guide := { t.guide with comp := .flipPending d (decide ((s.out .centre).owner = .off)) } }
  | _ => s

end Sys2Proof.Machine
end

