-- ==== Sys2Proof/Machine/Camera.lean ====
section
/-! DEFINITION. The Camera Monitor: its states, freeze detection, and the capture slots (chapter 6). -/

namespace Sys2Proof.Machine

open Sys2Proof

/-- The newest-complete slot (R128). -/
def Camera.newest (c : Camera) : Option (Fin 3) := c.order.getLast?

/-- Whether the camera runs: demand present or keep-warm set (R120). -/
def State.cameraRuns (s : State) : Bool := s.comp.demand || s.cam.settings.keepWarm

/-- The camera state changes: CAMERA_STATE is queued and the new state is handed to the Generator (R121). -/
def State.setCameraStatus (s : State) (st : CameraStatus) : State :=
  (State.report { s with cam := { s.cam with status := st } } (.cameraState st)).handGuide fun g => { g with camStatus := st }

/-- The camera is made to run in OFF (R122). -/
def State.wakeCamera (s : State) : State :=
  State.setCameraStatus { s with cam := { s.cam with timer := some 0, prevSig := none, equalRun := 0, recovery := 0 } } .waking

/-- A capture slot being written is EMPTY again. -/
def CaptureSlot.unfilled (x : CaptureSlot) : CaptureSlot :=
  match x.state with
  | .filling _ => { x with state := .empty }
  | _ => x

/-- The camera is made to stop (R123): the frame being written is abandoned, the other slots are kept. -/
def State.stopCamera (s : State) : State :=
  State.setCameraStatus { s with cam := { s.cam with
    timer := none, prevSig := none, equalRun := 0, recovery := 0, rx := none
    slots := ((s.cam.slots.upd 0 CaptureSlot.unfilled).upd 1 CaptureSlot.unfilled).upd 2 CaptureSlot.unfilled } } .off

/-- The camera starts or stops as demand and keep-warm now stand (R120). -/
def State.followCamera (s : State) : State :=
  if s.cameraRuns then (if s.cam.status = .off then s.wakeCamera else s)
  else (if s.cam.status = .off then s else s.stopCamera)

/-- Entry into LOST (R127). -/
def State.loseCamera (s : State) : State :=
  State.setCameraStatus { s with cam := { s.cam with timer := some 0, prevSig := none, equalRun := 0, recovery := 0 } } .lost

/-- The frame timer reaches the wake timeout in WAKING (R122). A good frame taken first leaves WAKING, and the expiry does not
happen. -/
def State.wakeExpired (s : State) : State :=
  if s.cam.status = .waking ∧ reached s.cam.timer s.cam.settings.wakeTimeout = true then s.loseCamera else s

/-- The frame timer reaches the frame timeout in LIVE, FROZEN or LOST (R124, R126, R127). A good frame taken first restarts the
timer, and the expiry does not happen (log 1). -/
def State.frameExpired (s : State) : State :=
  if reached s.cam.timer s.cam.settings.frameTimeout then
    (match s.cam.status with
      | .live => s.loseCamera
      | .frozen => s.loseCamera
      | .lost => { s with cam := { s.cam with timer := some 0, prevSig := none, equalRun := 0, recovery := 0 } }
      | .off => s
      | .waking => s)
  else s

/-- The capture slot a frame start chooses (R129): neither the newest-complete slot nor one an output holds; of the others the
slot last written if it is EMPTY, any EMPTY slot, or the COMPLETE slot that completed longest ago. -/
def Camera.chooseSlot (c : Camera) : Option (Fin 3) :=
  let candidate (k : Fin 3) : Bool := decide (c.newest ≠ some k) && OutputSet.isEmpty (c.slots.sel k).holds
  let isEmpty (k : Fin 3) : Bool := candidate k && decide ((c.slots.sel k).state = .empty)
  if isEmpty c.lastWritten then some c.lastWritten
  else
    match [(0 : Fin 3), 1, 2].find? isEmpty with
    | some k => some k
    | none => c.order.find? fun k => candidate k && decide ((c.slots.sel k).state = .complete)

/-- The pixel columns of the signature grid (R125). -/
def gridColumns (w : Nat) : List Nat := (List.range 16).map fun i => (2 * i + 1) * w / 32

/-- Whether a line is a row of the signature grid (R125). -/
def isGridRow (h line : Nat) : Bool := (List.range 16).any fun j => (2 * j + 1) * h / 32 == line

/-- The two bytes of each grid pixel of a line (R125). -/
def gridBytes (w : Nat) (line : List Byte) : List Byte :=
  (gridColumns w).flatMap fun x => [byteAt line (2 * x), byteAt line (2 * x + 1)]

/-- A camera frame starts to be received: a slot is chosen for it, or it is passed over (R118, R129). -/
def Camera.startFrame (c : Camera) : Camera :=
  match c.chooseSlot with
  | some k =>
    { c with
      slots := c.slots.put k { (c.slots.sel k) with state := .filling 0 }
      order := c.order.filter (fun j => !decide (j = k))
      lastWritten := k
      rx := some ⟨some k, 0, true, checkStart⟩ }
  | none => { c with rx := some ⟨none, 0, true, checkStart⟩ }

/-- The first page of a capture slot (R4). -/
def capturePage (k : Fin 3) : Nat := k.1 * Config.reserveUnit

/-- A camera picture line (R118, R125, R129): judged by its length, written into the slot at its place up to the format, and
sampled for the signature. Every line of a frame that has a slot raises the slot's line count, those beyond the format too. -/
def State.captureLine (s : State) (rx : CameraRx) (line : List Byte) : State :=
  let c := s.cam
  let w := c.settings.width
  let inside := decide (rx.lines < c.settings.height)
  let rx1 : CameraRx := { rx with
    lines := rx.lines + 1
    sound := rx.sound && decide (line.length = 2 * w)
    check := if inside && isGridRow c.settings.height rx.lines then checkFrom rx.check (gridBytes w line) else rx.check }
  let s1 := { s with cam := { c with rx := some rx1 } }
  match rx.slot with
  | some k =>
    { s1 with
      mem := if inside then s.mem.write (pageAddress (capturePage k) + rx.lines * (2 * w)) (line.take (2 * w)) else s.mem
      cam := { s1.cam with slots := c.slots.put k { (c.slots.sel k) with state := .filling (rx.lines + 1) } } }
  | none => s1

/-- A good frame's signature compared with the one before (R126): the run, the FROZEN count and the previous signature. DESIGN
CHOICE (unsafe, log 44): the run stays at 65535; R126 gives its range and says so of the FROZEN count alone. -/
def Camera.compare (c : Camera) (sig : BitVec 16) : Camera :=
  if c.prevSig = some sig then
    { c with equalRun := satInc c.equalRun, frozen := satInc c.frozen, prevSig := some sig }
  else { c with equalRun := 0, prevSig := some sig }

/-- What a good frame does to the camera state, after it has been counted (R122, R124, R126, R127). -/
def State.goodFrame (s : State) (sig : BitVec 16) : State :=
  let differs := decide (s.cam.prevSig ≠ some sig)
  let t := { s with cam := Camera.compare { s.cam with timer := some 0 } sig }
  match s.cam.status with
  | .off => s
  | .waking => t.setCameraStatus .live
  | .live => if t.cam.settings.freezeCount ≤ t.cam.equalRun then t.setCameraStatus .frozen else t
  | .frozen => if differs then t.setCameraStatus .live else t
  | .lost =>
    if t.cam.recovery + 1 = 3 then State.setCameraStatus { t with cam := { t.cam with recovery := 0 } } .live
    else { t with cam := { t.cam with recovery := t.cam.recovery + 1 } }

/-- What a short frame does to the camera state, after it has been counted (R122, R124, R126, R127). -/
def State.shortFrame (s : State) : State :=
  if s.cam.status = .lost then { s with cam := { s.cam with recovery := 0, prevSig := none, equalRun := 0 } } else s

/-- The camera frame being received comes to its end (R118, R129): judged, counted, applied to its slot and to the camera
state. -/
def State.endCameraFrame (s : State) : State :=
  match s.cam.rx with
  | none => s
  | some rx =>
    let c := s.cam
    let good := rx.sound && decide (rx.lines = c.settings.height)
    let c1 := match rx.slot with
      | some k =>
        if good then
          { c with
            slots := c.slots.put k { (c.slots.sel k) with state := .complete }
            order := c.order ++ [k] }
        else { c with slots := c.slots.put k { (c.slots.sel k) with state := .empty } }
      | none => c
    if good then State.goodFrame { s with cam := { c1 with rx := none, good := satInc c.good } } rx.check
    else State.shortFrame { s with cam := { c1 with rx := none, short := satInc c.short } }

/-- A frame start on the Camera Input: it ends a frame in progress, and begins one unless the camera is OFF (R118). -/
def State.startCameraFrame (s : State) : State :=
  if s.cam.status = .off then s
  else
    let t := s.endCameraFrame
    { t with cam := t.cam.startFrame }

/-- A memory error consequence for a capture slot (R131): a COMPLETE slot's frame is discarded. -/
def State.discardCapture (s : State) (k : Fin 3) : State :=
  let c := s.cam
  if (c.slots.sel k).state = .complete then
    { s with cam := { c with
        slots := c.slots.put k { (c.slots.sel k) with state := .empty }
        order := c.order.filter (fun j => !decide (j = k)) } }
  else s

/-- An output's hold on the capture slots clears (R130). -/
def State.releaseCapture (s : State) (o : Output) : State :=
  let free (x : CaptureSlot) : CaptureSlot := { x with holds := x.holds.put o false }
  { s with cam := { s.cam with slots := ((s.cam.slots.upd 0 free).upd 1 free).upd 2 free } }

/-- A refresh event of an output that shows the camera live makes the newest-complete slot the shown slot, and the output holds
it (R130). -/
def State.takeCapture (s : State) (o : Output) : State :=
  let c := s.cam
  match c.newest with
  | some k => { s with cam := { c with
      shown := some k
      slots := c.slots.upd k fun x => { x with holds := x.holds.put o true } } }
  | none => { s with cam := { c with shown := none } }

end Sys2Proof.Machine
end

