-- ==== Sys2Proof/Machine/Mixer.lean ====
section
/-! DEFINITION. The Audio Mixer: targets, ramps and the mix (section 8.6). -/

namespace Sys2Proof.Machine

open Sys2Proof

/-- The gain of an attenuation (R167). -/
def gain (g : Nat) : Int := ((Config.gainTable.getD g 0 : Nat) : Int)

/-- The cabin film attenuation target (R166): the film volume plus the larger of the two terms, capped at 63. -/
def cabinTarget (volume duck rev : Nat) (playing revEff : Bool) : Nat :=
  min 63 (volume + max (if playing then duck else 0) (if revEff then rev else 0))

/-- The film attenuation targets recomputed (R166). -/
def Mixer.retarget (m : Mixer) : Mixer :=
  let cabin := m.outs.sel 0
  let left := m.outs.sel 1
  let right := m.outs.sel 2
  { m with outs :=
    ((m.outs.put 0 { cabin with target := cabinTarget cabin.filmVolume m.duck m.rev m.playing m.revEff }).put 1
      { left with target := left.filmVolume }).put 2 { right with target := right.filmVolume } }

/-- An applied attenuation takes its target at once, as at start-up (R165, R169). -/
def MixOut.settle (x : MixOut) : MixOut := { x with applied := x.target }

/-- Every applied attenuation takes its target at once (R165, R169). -/
def Mixer.settle (m : Mixer) : Mixer :=
  { m with outs := ((m.outs.upd 0 MixOut.settle).upd 1 MixOut.settle).upd 2 MixOut.settle }

/-- One step of an applied attenuation towards its target (R166). -/
def MixOut.ramp (x : MixOut) : MixOut :=
  { x with applied :=
    if x.applied < x.target then x.applied + 1 else if x.target < x.applied then x.applied - 1 else x.applied }

/-- A ramp tick (R166). -/
def Mixer.rampTick (m : Mixer) : Mixer :=
  { m with outs := ((m.outs.upd 0 MixOut.ramp).upd 1 MixOut.ramp).upd 2 MixOut.ramp }

/-- The sum of a film and a chime sample before saturation (R167). -/
def mixSum (f : Int) (applied : Nat) (c : Int) (volume : Nat) : Int := (f * gain applied + c * gain volume) >>> 15

/-- A sum as an output carries it (R167). -/
def saturate (x : Int) : Int := clampInt (-32768) 32767 x

/-- Whether a sum saturates (R167), as a number of clips. -/
def clipped (x : Int) : Nat := if x < -32768 ∨ 32767 < x then 1 else 0

/-- The film sample pair an output mixes (R167). -/
def filmOf (film : Table StereoIn 2) : Option StreamId → StereoIn
  | none => ⟨0, 0⟩
  | some i => film.sel (streamNo i)

/-- One output's sample pair, and its record with the saturations counted (R167). -/
def MixOut.mix (x : MixOut) (film : Table StereoIn 2) (v : Int) : MixOut × Stereo :=
  let f := filmOf film x.film
  let c := if x.chimeFlag then v else 0
  let l := mixSum f.left.toInt x.applied c x.chimeVolume
  let r := mixSum f.right.toInt x.applied c x.chimeVolume
  ({ x with clips := satAdd x.clips (clipped l + clipped r) }, ⟨saturate l, saturate r⟩)

/-- The Mixer's sample period: every output's sample is formed from the film pairs and the chime voice (R167). -/
def Mixer.mix (m : Mixer) (film : Table StereoIn 2) (v : Int) : Mixer :=
  let a := (m.outs.sel 0).mix film v
  let b := (m.outs.sel 1).mix film v
  let c := (m.outs.sel 2).mix film v
  { m with
    outs := ((m.outs.put 0 a.1).put 1 b.1).put 2 c.1
    samples := ((m.samples.put 0 a.2).put 1 b.2).put 2 c.2 }

/-- REV_EFF is handed to the Mixer (R46, R166). -/
def State.handMixerRev (s : State) (rev : Bool) : State :=
  { s with mixer := Mixer.retarget { s.mixer with revEff := rev } }

end Sys2Proof.Machine
end

