-- ==== Sys2Proof/Machine/Chimes.lean ====
section
/-! DEFINITION. The Chime Player: choice, preemption and ends, the chime voice, samples, and the park chime (chapter 8). -/

namespace Sys2Proof.Machine

open Sys2Proof

/-! ## The chime table (R152 to R157) -/

/-- The order of the classes: INFO, WARNING, SAFETY (R152). -/
def classRank : ChimeClass → Nat
  | .info => 0
  | .warning => 1
  | .safety => 2

/-- The numbers of the eight entries. -/
def entryIds : List (Fin 8) := List.finRange 8

/-- Whether an entry passes a test; a free one does not. -/
def State.entryIs (s : State) (p : ChimeEntry → Bool) (i : Fin 8) : Bool :=
  match s.entry i with
  | some e => p e
  | none => false

/-- The first entry that passes a test. -/
def State.findEntry (s : State) (p : ChimeEntry → Bool) : Option (Fin 8) := entryIds.find? (s.entryIs p)

/-- The PLAYING entry. -/
def State.playingEntry (s : State) : Option (Fin 8) := s.findEntry ChimeEntry.playing

/-- The PARK entry. -/
def State.parkEntry (s : State) : Option (Fin 8) := s.findEntry fun e => decide (e.origin = .park)

/-- The lowest-numbered free entry. -/
def State.freeEntry (s : State) : Option (Fin 8) := entryIds.find? fun i => (s.entry i).isNone

/-- Whether an entry is QUEUED. -/
def ChimeEntry.queued (e : ChimeEntry) : Bool := !e.playing

/-- Whether an entry is a QUEUED HOST entry. -/
def ChimeEntry.queuedHost (e : ChimeEntry) : Bool := e.queued && decide (e.origin = .host)

/-- The entry that comes first in an order, among those that pass a test: of two, the later one is kept when it comes before
the one found. -/
def State.bestEntry (s : State) (p : ChimeEntry → Bool) (before : ChimeEntry → ChimeEntry → Bool) : Option (Fin 8 × ChimeEntry) :=
  entryIds.foldl (fun best i =>
    match s.entry i with
    | none => best
    | some e =>
      if p e then
        (match best with
          | none => some (i, e)
          | some b => if before e b.2 then some (i, e) else best)
      else best) none

/-- The order of the choice: the higher class, then the lower age (R155). -/
def ChimeEntry.goesFirst (e f : ChimeEntry) : Bool :=
  decide (classRank f.cls < classRank e.cls) || (decide (classRank e.cls = classRank f.cls) && decide (e.age < f.age))

/-- The order of eviction: the lower class, then the higher age (R154, R162). -/
def ChimeEntry.evictedFirst (e f : ChimeEntry) : Bool :=
  decide (classRank e.cls < classRank f.cls) || (decide (classRank e.cls = classRank f.cls) && decide (f.age < e.age))

/-- The newest QUEUED HOST entry of the lowest class among them (R154, R162). -/
def State.evictee (s : State) : Option (Fin 8 × ChimeEntry) := s.bestEntry ChimeEntry.queuedHost ChimeEntry.evictedFirst

/-- A repetition starts: from position 0, with a pending cadence taken (R155, R162). -/
def ChimeEntry.beginRepetition (e : ChimeEntry) : ChimeEntry :=
  { e with position := 0, sound := e.cadence.getD e.sound, cadence := none }

/-- The choice of R155: when no entry is PLAYING, the QUEUED entry of the highest class, and of these the oldest, becomes
PLAYING. -/
def State.chooseChime (s : State) : State :=
  if s.playingEntry.isSome then s
  else
    match s.bestEntry ChimeEntry.queued ChimeEntry.goesFirst with
    | some (i, e) => s.putEntry i (some { e.beginRepetition with playing := true })
    | none => s

/-- An entry ends (R157): it becomes free and CHIME_ENDED is queued; a PARK entry that ends leaves the park mode ABSENT (R162,
R163). -/
def State.endEntry (s : State) (i : Fin 8) (reason : ChimeEnd) : State :=
  match s.entry i with
  | none => s
  | some e =>
    let t := State.report (s.putEntry i none) (.chimeEnded i e.tag reason)
    if e.origin = .park then { t with chime := { t.chime with mode := .absent } } else t

/-- A new entry is made (R152, R154, R162). -/
def State.makeEntry (s : State) (i : Fin 8) (cls : ChimeClass) (origin : ChimeOrigin) (sound : Sound) (reps : Nat) (tag : Byte) : State :=
  let e : ChimeEntry :=
    { cls := cls, origin := origin, sound := sound, repetitions := reps, tag := tag, playing := false, age := s.chime.nextAge,
      position := 0, preempted := 0, cadence := none }
  let t := s.putEntry i (some e)
  { t with chime := { t.chime with nextAge := s.chime.nextAge + 1 } }

/-! ## The park chime (R162, R163) -/

/-- Whether a park distance counts: FRESH or HELD (R162). -/
def State.counts (s : State) (i : SignalId) : Bool :=
  decide ((s.signal i).state = .fresh) || decide ((s.signal i).state = .held)

/-- The four park distances. -/
def distances : List SignalId := [.distOuterL, .distInnerL, .distInnerR, .distOuterR]

/-- The nearest counted distance m (R162). -/
def State.nearest (s : State) : Option Int :=
  (distances.filter s.counts).foldl (fun m i =>
    match m with
    | none => some (s.signal i).value
    | some x => some (min x (s.signal i).value)) none

/-- What the park rules want (R162): nothing, the sensor chime, or a beat with its mode and off time. -/
inductive ParkWish where
  | nothing
  | sensorChime
  | beat (mode : ParkMode) (off : Nat)
  deriving DecidableEq, Repr

/-- The wish for a nearest counted distance (R162). -/
def ParkCadence.wish (c : ParkCadence) (sensorGiven : Bool) : Option Int → ParkWish
  | none => if sensorGiven then .nothing else .sensorChime
  | some m =>
    if (c.far : Int) ≤ m then .nothing
    else if m ≤ (c.near : Int) then .beat .continuous 0
    else .beat .beeping (40 + (m.toNat - c.near) * 560 / (c.far - c.near))

/-- The PARK sound of a beat (R162). -/
def ParkCadence.sound (c : ParkCadence) (off : Nat) : Sound := .tone c.halfPeriod 60 off c.level

/-- The sound of the sensor chime (R163). -/
def ParkCadence.sensorSound (c : ParkCadence) : Sound := .tone 120 400 200 c.level

/-- A PARK entry is admitted, when one can be had: a free entry, or the newest QUEUED HOST entry of the lowest class present
when that is INFO or WARNING (R162). The choice follows; the flag tells whether it was admitted. -/
def State.admitPark (s : State) (sound : Sound) (reps : Nat) : State × Bool :=
  match s.freeEntry with
  | some i => ((s.makeEntry i .warning .park sound reps 0).chooseChime, true)
  | none =>
    match s.evictee with
    | some (i, e) =>
      if e.cls = .safety then (s, false)
      else (((s.endEntry i .evicted).makeEntry i .warning .park sound reps 0).chooseChime, true)
    | none => (s, false)

/-- The PARK entry, if any, ends CANCELLED, and the choice follows (R162, R163). -/
def State.cancelPark (s : State) : State :=
  match s.parkEntry with
  | some i => (s.endEntry i .cancelled).chooseChime
  | none => s

/-- The sensor chime is made, when an entry can be had (R163). -/
def State.makeSensorChime (s : State) : State :=
  let t := s.admitPark s.chime.cadence.sensorSound 2
  if t.2 then { t.1 with chime := { t.1.chime with mode := .sensor, sensorGiven := true } } else t.1

/-- A PARK entry with a beat is made, when an entry can be had (R162). -/
def State.makeBeat (s : State) (mode : ParkMode) (sound : Sound) : State :=
  let t := s.admitPark sound 0
  if t.2 then { t.1 with chime := { t.1.chime with mode := mode } } else t.1

/-- The beat of the PARK entry in use becomes its pending cadence (R162). -/
def State.changeBeat (s : State) (mode : ParkMode) (sound : Sound) : State :=
  let t := { s with chime := { s.chime with mode := mode } }
  match s.parkEntry with
  | some i => t.putEntry i ((s.entry i).map fun e => { e with cadence := some sound })
  | none => t

/-- A wish is applied to the PARK entry (R162, R163). A sensor chime in use keeps the level it was admitted with, also when SET PARK
CADENCE changes the park level: DESIGN CHOICE (unsafe, log 51). -/
def State.applyWish (s : State) (wish : ParkWish) (noneCounted : Bool) : State :=
  match s.chime.mode, wish with
  | .absent, .nothing => s
  | .absent, .sensorChime => s.makeSensorChime
  | .absent, .beat mode off => s.makeBeat mode (s.chime.cadence.sound off)
  | .sensor, .nothing => if noneCounted then s else s.cancelPark
  | .sensor, .sensorChime => s
  | .sensor, .beat mode off => s.cancelPark.makeBeat mode (s.chime.cadence.sound off)
  | _, .nothing => s.cancelPark
  | _, .sensorChime => s.cancelPark.makeSensorChime
  | _, .beat mode off => s.changeBeat mode (s.chime.cadence.sound off)

/-- The wanted mode and cadence are decided and applied (R162), while REV_EFF is set and the part is RUNNING. -/
def State.decidePark (s : State) : State :=
  if s.recv.revEff && s.isRunning then
    s.applyWish (s.chime.cadence.wish s.chime.sensorGiven s.nearest) s.nearest.isNone
  else s

/-- The park test made again at the end of an entry, while the mode is ABSENT (R162, R163). -/
def State.retryPark (s : State) : State := if s.chime.mode = .absent then s.decidePark else s

/-- What follows the end of an entry: the choice (R157) and the park test (R162). -/
def State.afterEnd (s : State) : State := s.chooseChime.retryPark

/-- Whether a chime is PLAYING is handed to the Mixer, when it has changed over the event (R165, R166). -/
def State.syncPlaying (s : State) : State :=
  let p := s.playingEntry.isSome
  if p = s.mixer.playing then s else { s with mixer := Mixer.retarget { s.mixer with playing := p } }

/-- A rise of REV_EFF at the Chime Player (R163), or the entry into RUNNING with REV_EFF set. -/
def State.chimeRise (s : State) : State :=
  State.syncPlaying (State.decidePark { s with chime := { s.chime with sensorGiven := false } })

/-- A fall of REV_EFF at the Chime Player (R163). -/
def State.chimeFall (s : State) : State :=
  let t := s.cancelPark
  State.syncPlaying { t with chime := { t.chime with mode := .absent } }

/-- The park decision as one event of the Chime Player (R162). -/
def State.parkEvent (s : State) : State := s.decidePark.syncPlaying

/-! ## Preemption and repetition ends (R155, R156) -/

/-- A SAFETY entry has become QUEUED (R156): it preempts a PLAYING WARNING or INFO entry, and the choice follows. -/
def State.preempt (s : State) : State :=
  match s.playingEntry with
  | none => s.chooseChime
  | some i =>
    match s.entry i with
    | none => s
    | some e =>
      if e.cls = .safety then s
      else if e.origin = .host ∧ 4 ≤ e.preempted + 1 then (s.endEntry i .preemptLimit).afterEnd
      else
        State.chooseChime (s.putEntry i (some { e with playing := false, position := 0, preempted := min 4 (e.preempted + 1) }))

/-- Whether a QUEUED entry of a higher class exists (R155, step 3). -/
def State.higherWaits (s : State) (e : ChimeEntry) : Bool :=
  (s.findEntry fun f => f.queued && decide (classRank e.cls < classRank f.cls)).isSome

/-- A repetition end of the PLAYING entry (R155, steps 1 to 4). -/
def State.endRepetition (s : State) (i : Fin 8) (e : ChimeEntry) : State :=
  if e.repetitions = 1 then (s.endEntry i .played).afterEnd
  else
    let e1 := { e with repetitions := e.repetitions - 1 }
    if s.higherWaits e then State.chooseChime (s.putEntry i (some { e1 with playing := false, position := 0 }))
    else s.putEntry i (some e1.beginRepetition)

/-! ## Samples and the voice (R158 to R160, R20) -/

/-- The length of a repetition in samples (R158). -/
def State.repetitionLength (s : State) : Sound → Nat
  | .tone _ on off _ => (on + off) * 48
  | .sample n _ => (s.sample n).count

/-- The 16-bit sample at an index of a sample's run, as the reader CHIME reads it (R158, R159). -/
def State.sampleValue (s : State) (n : Fin 16) (p : Nat) : Int :=
  match s.fmm.runOf (.sample n) with
  | some r =>
    let a := pageAddress r.base + 2 * p
    (BitVec.ofNat 16 (be16 (s.mem.read a) (s.mem.read (a + 1)))).toInt
  | none => 0

/-- The level of a tone: 32767 × G[level] shifted right by 15 bits (R158). -/
def toneAmplitude (level : Nat) : Int := (32767 * gain level) >>> 15

/-- The chime voice sample of a sound at a position (R158). -/
def State.voiceOf (s : State) (sound : Sound) (p : Nat) : Int :=
  match sound with
  | .tone n on _ level =>
    if p < on * 48 then (if p / n % 2 = 0 then toneAmplitude level else -toneAmplitude level) else 0
  | .sample n level => (s.sampleValue n p * gain level) >>> 15

/-- The chime voice sample handed to the Mixer (R158). -/
def State.voice (s : State) : Int :=
  match s.playingEntry with
  | none => 0
  | some i =>
    match s.entry i with
    | some e => s.voiceOf e.sound e.position
    | none => 0

/-- Whether a sound is the sample of a slot. -/
def Sound.names (n : Fin 16) : Sound → Bool
  | .sample m _ => decide (m = n)
  | .tone _ _ _ _ => false

/-- Whether a QUEUED or PLAYING entry names a sample slot (R160, R161). -/
def State.sampleNamed (s : State) (n : Fin 16) : Bool := (s.findEntry fun e => e.sound.names n).isSome

/-- A memory error consequence reaches a sample (R20, R160): it becomes DAMAGED, and every entry that names it ends PLAYED.
DESIGN CHOICE (unsafe, log 36): several entries end in ascending order of number; the manual gives no order. -/
def State.damageSample (s : State) (n : Fin 16) : State :=
  let t := s.putSample n { s.sample n with state := .damaged, mark := 0 }
  if s.sampleNamed n then
    (entryIds.foldl (fun u i => if u.entryIs (fun e => e.sound.names n) i then u.endEntry i .played else u) t).afterEnd.syncPlaying
  else t

/-- The position moves on by one sample, and a repetition end follows when it reaches the repetition's length (R158). -/
def State.advanceVoice (s : State) : State :=
  match s.playingEntry with
  | none => s
  | some i =>
    match s.entry i with
    | none => s
    | some e =>
      let e1 := { e with position := e.position + 1 }
      if s.repetitionLength e.sound ≤ e1.position then s.endRepetition i e1
      else s.putEntry i (some e1)

end Sys2Proof.Machine
end

