-- ==== Sys2Proof/Machine/Refresh.lean ====
section
/-! DEFINITION. Handing over memory error consequences, and the refresh event: the output frame decided from the state of the
part (sections 1.8 and 5.6 to 5.8). -/

namespace Sys2Proof.Machine

open Sys2Proof

/-! ## Consequences (R14 to R20) -/

/-- A consequence reaches the block that owns its unit (R16 to R20). -/
def State.handConsequence (s : State) (c : Consequence) : State :=
  match c.unit with
  | .streamSlot i k => s.dropSlot i k c.stamp
  | .layer n => s.damageLayer n c.pageIndex
  | .capture k => s.discardCapture k
  | .guidePlane _ => s.requestRecompute
  | .sample n => s.damageSample n

/-- Whether a consequence is handed over at a reader's next event (R14): one of its own, and for CHIME one whose zero an output
sample has been formed with (R158; log 33). -/
def Consequence.dueAt (c : Consequence) (reader : Reader) : Bool :=
  decide (c.reader = reader) && (c.played || decide (reader ≠ .chime))

/-- A reader's next event: its consequences are handed over (R14, R15), in the order they were held. DESIGN CHOICE (unsafe,
log 35): the manual gives no order for several that are due at one event. -/
def State.handDue (s : State) (reader : Reader) : State :=
  (s.fmm.pending.filter (Consequence.dueAt · reader)).foldl State.handConsequence
    { s with fmm := { s.fmm with pending := s.fmm.pending.filter fun c => !c.dueAt reader } }

/-- An output sample has been formed: what CHIME has found up to it is due at the next one (R14, R158; log 33). -/
def State.sampleFormed (s : State) : State :=
  { s with fmm := { s.fmm with pending := s.fmm.pending.map fun c =>
      { c with played := c.played || decide (c.reader = .chime) } } }

/-! ## What an output frame shows (R108, R109, R113 to R115) -/

/-- The fit of a picture of width `ws` and height `hs` on an output of width `wo` and height `ho` (R109). -/
def fitPicture (ws hs wo ho : Nat) : Fit :=
  let even (n : Nat) : Nat := n / 2 * 2
  let w := if wo * hs ≤ ho * ws then wo else even (ws * ho / hs)
  let h := if wo * hs ≤ ho * ws then even (hs * wo / ws) else ho
  { sw := w, sh := h, ox := (wo - w) / 2, oy := (ho - h) / 2 }

/-- A layer's front plane as it is drawn at a place (R79). -/
def State.drawOf (s : State) (n : Fin 24) (x y : Int) (z alpha : Nat) : LayerDraw :=
  let l := s.layer n
  { layer := n, page := s.planePage n l.front, format := l.format, width := l.width, height := l.height, x := x, y := y, z := z,
    alpha := alpha }

/-- The layers an output frame shows, in ascending z (R79, R108, R114): READY MENU layers placed there and visible, and in a
camera view camera-permitted. -/
def State.layersOf (s : State) (o : Output) : List LayerDraw :=
  let drawn := (List.finRange 24).filterMap fun n =>
    let l := s.layer n
    if l.state = .ready ∧ l.kind = .menu then
      (match l.placements.sel (outputNo o) with
        | some p =>
          if p.visible && (!(s.out o).inView || l.permitted) then some (s.drawOf n p.x p.y p.z p.alpha) else none
        | none => none)
    else none
  drawn.insertionSort fun d e => d.z ≤ e.z

/-- The card an output shows at a refresh event (R113, R114). -/
def State.cardOf (s : State) (o : Output) : Option Card :=
  let r := s.out o
  match r.owner with
  | .off => none
  | .normal => if o = .centre ∧ s.comp.suppression = true ∧ r.source.isSome = true then some .suppressed else none
  | .camera | .linger =>
    match s.cam.status with
    | .live => none
    | .off | .waking => some .starting
    | .lost | .frozen => some .unavailable

/-- The graphic of a card on an output of a timing (R115). -/
def State.graphicOf (s : State) (c : Card) (t : Timing) : Option LayerDraw :=
  match s.layers.designations.sel (cardNo c) with
  | none => none
  | some n =>
    let l := s.layer n
    if l.state = .ready then
      some (s.drawOf n (Int.tdiv ((t.width : Int) - l.width) 2) (Int.tdiv ((t.height : Int) - l.height) 2) 0 255)
    else none

/-- The picture plane of an output in NORMAL: its stream's current frame over the background, or the background alone (R67,
R108). -/
def State.filmOf (s : State) (o : Output) : FrameBase :=
  let r := s.out o
  match r.source with
  | none => .background r.background
  | some i =>
    let st := s.stream i
    match showingSlot st.ring, s.fmm.runOf (.stream i) with
    | some (k, _), some run =>
      .film r.background i k (run.base + k * slotPages st.width st.height) st.width st.height st.format
        (fitPicture st.width st.height r.activeTiming.width r.activeTiming.height)
    | _, _ => .background r.background

/-- What lies below the layers in the frame that begins (R108, R113 to R115). -/
def State.baseOf (s : State) (o : Output) : FrameBase :=
  let r := s.out o
  match s.cardOf o with
  | some c => .card c (s.comp.policy.fills.sel (cardNo c)) (s.graphicOf c r.activeTiming)
  | none =>
    if r.inView then
      .camera s.cam.newest s.cam.settings.width s.cam.settings.height
        (fitPicture s.cam.settings.width s.cam.settings.height r.activeTiming.width r.activeTiming.height)
        (if s.guide.content = .hidden then none else some s.guide.front)
    else s.filmOf o

/-- The fit of the picture a frame shows, if it shows one (R109, R116). -/
def FrameBase.fit : FrameBase → Option Fit
  | .film _ _ _ _ _ _ _ f => some f
  | .camera (some _) _ _ f _ => some f
  | .camera none _ _ _ _ => none
  | .background _ => none
  | .card _ _ _ => none

/-- The overlay plane a frame lays, if it lays one (R144). -/
def FrameBase.overlay : FrameBase → Option (Fin 2)
  | .camera _ _ _ _ p => p
  | _ => none

/-! ## The refresh event (R64, R67, R84, R107, R130, R144, R147) -/

/-- The frame under way ends: its scan holds clear (R67), and in NORMAL the active timing takes the host timing (R104). -/
def State.endFrame (s : State) (o : Output) : State :=
  let r := s.out o
  State.releaseScan (s.putOut o { r with
    frame := none
    activeTiming := if r.owner = .normal then r.hostTiming else r.activeTiming }) o

/-- The stream an output leads (R64). -/
def State.ledBy (s : State) (o : Output) : Option StreamId :=
  match (s.out o).source with
  | some i => if s.lead i = some o then some i else none
  | none => none

/-- Whether a refresh event of an output both paces a stream and hands over a consequence for one of its slots (R16). -/
def State.clashes (s : State) (o : Output) (i : StreamId) : Bool :=
  decide ((s.stream i).state = .running) && s.fmm.pending.any fun c =>
    decide (c.reader = .scan o) &&
      (match c.unit with
        | .streamSlot j _ => decide (j = i)
        | _ => false)

/-- The due consequences and the pace event of a refresh event (R14, R16, R64). Where both bear on one stream, which comes
first is a free value (log 11). The due window is that of the active timing after the frame under way has ended, so of the new
rate where a changed host timing comes into force at this event: DESIGN CHOICE (unsafe, log 48). Each consequence and the pace
event report for themselves, so STREAM_TROUBLE's repeats may rise by more than one: DESIGN CHOICE (unsafe, log 49). -/
def State.handAndPace (s : State) (o : Output) : State :=
  match s.ledBy o with
  | none => s.handDue (.scan o)
  | some i =>
    let e := leadWindow (s.out o).activeTiming.refresh
    if s.clashes o i then
      let t := { s with free := s.free + 1 }
      if Config.paceBeforeDrop s.free then (t.pace i e).handDue (.scan o) else (t.handDue (.scan o)).pace i e
    else (s.handDue (.scan o)).pace i e

/-- The card shown is fixed, and pending flips are performed: of layers on view on the output, then of layers that are now on
view nowhere (R80, R84). -/
def State.refreshLayers (s : State) (o : Output) : State :=
  let t := s.putOut o { s.out o with shownCard := s.cardOf o }
  (t.flipWhere fun u n => u.onViewOn n o).settleFlips

/-- A live camera view takes the newest-complete slot (R130). -/
def State.refreshCamera (s : State) (o : Output) : State :=
  if (s.out o).inView && decide (s.cam.status = .live) then s.takeCapture o else s

/-- The frame that begins is fixed, and the overlay plane it lays is held (R107, R144). -/
def State.beginFrame (s : State) (o : Output) : State :=
  let r := s.out o
  let base := s.baseOf o
  let t := s.putOut o { r with frame := some ⟨r.activeTiming, base, s.layersOf o⟩, lastFit := base.fit }
  match base.overlay with
  | some p => { t with guide := { t.guide with holds := t.guide.holds.upd p fun h => h.put o true } }
  | none => t

/-- A refresh event of an output (R107); an OFF output has none. An overlay plane's consequence is handed over before a pending
overlay flip is performed: DESIGN CHOICE (unsafe, log 57). -/
def State.refresh (s : State) (o : Output) : State :=
  if (s.out o).owner = .off then s
  else
    let t := (((s.endFrame o).handAndPace o).releaseCapture o).releaseGuide o
    let u := t.refreshLayers o
    let v := if u.flipsGuide o then u.flipGuide else u
    (v.refreshCamera o).beginFrame o

end Sys2Proof.Machine
end

