-- ==== Sys2Proof/Machine/Views.lean ====
section
/-! DEFINITION. View ownership: owner changes, the reverse takeover and its end, the speed test, centre suppression and camera
demand (sections 5.2 to 5.5 and 5.7). -/

namespace Sys2Proof.Machine

open Sys2Proof

/-! ## Demand and owner changes (R97, R100, R106) -/

/-- Camera demand is recomputed, and a change handed to the Camera Monitor and the Generator (R106, R144). -/
def State.recomputeDemand (s : State) : State :=
  let d := outputs.any fun o => (s.out o).inView
  if d = s.comp.demand then s
  else (State.followCamera { s with comp := { s.comp with demand := d } }).handGuide fun g => { g with demand := d }

/-- What follows every owner change (R97): the notice, the flip rules of the Layer Store, and camera demand. -/
def State.ownerChanged (s : State) (o : Output) (reason : OwnerReason) : State :=
  ((s.report (.outputOwner o (s.out o).owner reason)).settleFlips).recomputeDemand

/-- An output's record is replaced by one with another owner state (R97). -/
def State.setOwner (s : State) (o : Output) (r : OutputRec) (reason : OwnerReason) : State :=
  (s.putOut o r).ownerChanged o reason

/-- An output goes OFF at once (R100, R104): the readers' consequences that are due there are handed over (R14), its holds clear
(R67, R130, R144), its frame is not completed, Enabled and was-off clear, and a guide flip that waits for CENTRE waits for any
camera view (R147). The consequences are handed over before the owner changes and OUTPUT_OWNER is reported: DESIGN CHOICE (unsafe,
log 54). -/
def State.turnOff (s : State) (o : Output) (reason : OwnerReason) : State :=
  let t := s.handDue (.scan o)
  let u := t.putOut o { t.out o with
    owner := .off, enabled := false, wasOff := false, linger := none, frame := none }
  let v := if o = .centre then u.flipByAnyView else u
  (((v.releaseScan o).releaseCapture o).releaseGuide o).ownerChanged o reason

/-- An output returns to NORMAL from a camera view (R100): the linger timer stops and the active timing takes the host timing. -/
def State.toNormal (s : State) (o : Output) (reason : OwnerReason) : State :=
  let r := s.out o
  s.setOwner o { r with owner := .normal, linger := none, activeTiming := r.hostTiming } reason

/-- An output leaves its view for its after-view state (R99, R100). -/
def State.afterView (s : State) (o : Output) (reason : OwnerReason) : State :=
  if (s.out o).wasOff then s.turnOff o reason else s.toNormal o reason

/-! ## The speed test and suppression (R103, R112) -/

/-- Whether SPEED is FRESH at or above the linger speed (R44, R103). -/
def State.speedEnds (s : State) : Bool :=
  decide ((s.signal .speed).state = .fresh) && decide ((s.comp.policy.lingerSpeed : Int) ≤ (s.signal .speed).value)

/-- The speed test of one output (R103). -/
def State.speedTestOf (s : State) (o : Output) : State :=
  let r := s.out o
  if s.speedEnds then
    (match r.owner with
      | .linger => s.afterView o .speed
      | .camera => if r.reason = .request then s.toNormal o .speed else s
      | .off => s
      | .normal => s)
  else s

/-- The speed test of all three outputs (R103), output by output (log 42). -/
def State.speedTest (s : State) : State := outputs.foldl State.speedTestOf s

/-- The suppression state tested against SPEED and the film speed limit (R112). -/
def suppressionAfter (state : SignalState) (speed : Int) (limit : Nat) (was : Bool) : Bool :=
  match state with
  | .none => true
  | .lost => true
  | .fresh | .held =>
    if (limit : Int) ≤ speed then true
    else if speed < (limit : Int) - Config.hysteresis then false
    else was

/-- The suppression test (R112). -/
def State.suppressionTest (s : State) : State :=
  let x := s.signal .speed
  { s with comp := { s.comp with
      suppression := suppressionAfter x.state x.value s.comp.policy.filmSpeedLimit s.comp.suppression } }

/-! ## The reverse takeover and its end (R98, R99) -/

/-- CENTRE is forced on from OFF (R98): running at its host timing with its first refresh event at once. -/
def State.forceOn (s : State) (o : Output) : State :=
  let r := s.out o
  (s.setOwner o { r with
    owner := .camera, reason := .reverse, enabled := true, wasOff := true, activeTiming := r.hostTiming } .reverse).refresh o

/-- What a rise of REV_EFF does to one output (R98). -/
def State.riseOf (s : State) (o : Output) : State :=
  let r := s.out o
  match r.owner with
  | .off => if o = .centre then s.forceOn o else s
  | .normal => if o = .centre ∨ r.mirror = true then s.setOwner o { r with owner := .camera, reason := .reverse } .reverse else s
  | .linger => s.setOwner o { r with owner := .camera, reason := .reverse, linger := none } .reverse
  | .camera =>
    if r.reason = .request then (s.putOut o { r with reason := .reverse }).report (.outputOwner o .camera .reverse) else s

/-- A rise of REV_EFF at the Compositor (R98, R117). DESIGN CHOICE (unsafe, log 42): within one event the outputs are dealt with
as CENTRE, REAR-L, REAR-R, each with all that follows its owner change before the next; the manual gives no order. -/
def State.viewRise (s : State) : State := outputs.foldl State.riseOf s

/-- What a fall of REV_EFF does to one output (R99). -/
def State.fallOf (s : State) (o : Output) : State :=
  let r := s.out o
  if r.owner = .camera ∧ r.reason = .reverse then
    if s.comp.policy.lingerTime = 0 then s.afterView o .reverseEnd
    else (s.setOwner o { r with owner := .linger, linger := some 0 } .reverseEnd).speedTestOf o
  else s

/-- A fall of REV_EFF at the Compositor (R99), output by output (log 42). -/
def State.viewFall (s : State) : State := outputs.foldl State.fallOf s

/-- A running linger timer that has reached the linger time expires (R96, R100). -/
def State.lingerDue (s : State) (o : Output) : State :=
  if (s.out o).owner = .linger ∧ reached (s.out o).linger s.comp.policy.lingerTime = true then s.afterView o .timer else s

/-! ## REV_EFF handed on (R46) -/

/-- A change of REV_EFF reaches the Compositor, the Chime Player and the Mixer (R46); while STARTING only the Mixer acts
(R117, R163, R169). -/
def State.handRevEff (s : State) (rev : Bool) : State :=
  let t := if s.isStarting then s else if rev then s.viewRise else s.viewFall
  let u := if t.isStarting then t else if rev then t.chimeRise else t.chimeFall
  u.handMixerRev rev

end Sys2Proof.Machine
end

