-- ==== Sys2Proof/Machine/Receiver.lean ====
section
/-! DEFINITION. The Signal Receiver: fields in frames, rules, the signal table, the bus term, REV_EFF and what is handed on
(chapter 2). -/

namespace Sys2Proof.Machine

open Sys2Proof

/-! ## Fields (R28, R29) -/

/-- The position of bit `i` of a field that starts at a bit, in the numbering of R28: upward through the bytes for LSB_FIRST
(R28), upward in a byte and then into the byte before for MSB_FIRST (R29). -/
def bitPosition (order : ByteOrder) (start i : Nat) : Nat :=
  match order with
  | .lsbFirst => start + i
  | .msbFirst => (start / 8 - (start % 8 + i) / 8) * 8 + (start % 8 + i) % 8

/-- Whether a field lies in bytes 0 to 7 (R28, R29). -/
def fieldFits (order : ByteOrder) (start length : Nat) : Bool :=
  match order with
  | .lsbFirst => decide (start + length ≤ 64)
  | .msbFirst => decide ((start % 8 + length - 1) / 8 ≤ start / 8)

/-- Whether a frame of `n` data bytes covers a field (R28, R29). -/
def fieldCovered (order : ByteOrder) (start length n : Nat) : Bool :=
  match order with
  | .lsbFirst => decide ((start + length - 1) / 8 + 1 ≤ n)
  | .msbFirst => decide (start / 8 + 1 ≤ n)

/-- The bit of a frame's data at a position (R28). -/
def bitAt (data : List Byte) (position : Nat) : Nat := (byteAt data (position / 8)).toNat / 2 ^ (position % 8) % 2

/-- The raw field (R28 to R30): its bits in rising significance, as an unsigned number. -/
def rawField (order : ByteOrder) (start : Nat) (data : List Byte) (length : Nat) : Nat :=
  ((List.range length).map fun i => bitAt data (bitPosition order start i) * 2 ^ i).sum

/-- Whether two fields of one rule share a bit position (R39). -/
def fieldsMeet (order : ByteOrder) (start length start' length' : Nat) : Bool :=
  (List.range length).any fun i => (List.range length').any fun j => bitPosition order start i == bitPosition order start' j

/-! ## Applying a rule (R30 to R34) -/

/-- The least value of a signal (R35). -/
def rangeLow : SignalId → Int
  | .steerAngle => -7800
  | _ => 0

/-- The greatest value of a signal (R35). -/
def rangeHigh : SignalId → Int
  | .reverse => 1
  | .steerAngle => 7800
  | .speed => 30000
  | .distOuterL | .distInnerL | .distInnerR | .distOuterR => 255

/-- The raw field as a number: two's complement of its length when the rule is signed (R33). -/
def rawValue (signed : Bool) (length raw : Nat) : Int :=
  if signed ∧ 2 ^ (length - 1) ≤ raw then (raw : Int) - 2 ^ length else raw

/-- The conversion, clamped to the target's range (R33). -/
def Rule.convert (r : Rule) (raw : Nat) : Int :=
  clampInt (rangeLow r.target) (rangeHigh r.target)
    (Int.tdiv (rawValue r.signed r.length raw * r.factor) (2 ^ r.shift) + r.offset)

/-- The alive counter a frame carries for a rule (R32). -/
def Rule.aliveOf (r : Rule) (data : List Byte) : Option Nat := r.alive.map fun p => rawField r.order p data 4

/-- Whether a frame covers the rule's fields (R30). -/
def Rule.covered (r : Rule) (n : Nat) : Bool :=
  fieldCovered r.order r.startBit r.length n &&
    (match r.alive with
      | some p => fieldCovered r.order p 4 n
      | none => true)

/-- The application of a rule to a good data frame (R30 to R34): the rule's counts and last accepted alive counter afterwards,
and the new value of its target when it ends with an update. -/
def Rule.apply (r : Rule) (data : List Byte) : Rule × Option Int :=
  if !r.covered data.length then ({ r with short := satInc r.short }, none)
  else
    let raw := rawField r.order r.startBit data r.length
    if r.invalidPattern = some raw then ({ r with invalid := satInc r.invalid }, none)
    else
      let counter := r.aliveOf data
      if counter.isSome ∧ counter = r.lastAlive then ({ r with repeats := satInc r.repeats }, none)
      else
        ({ r with accepted := satInc r.accepted, lastAlive := if counter.isSome then counter else r.lastAlive },
          some (r.convert raw))

/-- Whether an enabled rule matches a frame's identifier (R27). -/
def Rule.accepts (r : Rule) (extended : Bool) (identifier : Nat) : Bool :=
  r.enabled && decide (r.extended = extended) && decide (r.identifier = identifier)

/-- A receive rule. -/
def State.rule (s : State) (n : Fin 16) : Rule := s.recv.rules.sel n

/-- A receive rule replaced. -/
def State.putRule (s : State) (n : Fin 16) (r : Rule) : State :=
  { s with recv := { s.recv with rules := s.recv.rules.put n r } }

/-- A signal updated with a value (R34). -/
def Signal.update (x : Signal) (v : Int) : Signal := { x with value := v, state := .fresh, timer := some 0 }

/-- What a frame's rules did (R27): the state with the tables changed, the signals updated, and the mask of state changes. -/
structure Applied where
  state : State
  updated : List SignalId
  mask : BitVec 7
  deriving DecidableEq, Repr

/-- One rule offered a frame (R27). -/
def Applied.offer (extended : Bool) (identifier : Nat) (data : List Byte) (a : Applied) (n : Fin 16) : Applied :=
  let r := a.state.rule n
  if r.accepts extended identifier then
    let x := r.apply data
    let t := a.state.putRule n x.1
    match x.2 with
    | none => { a with state := t }
    | some v =>
      let g := t.signal r.target
      { state := t.putSignal r.target (g.update v)
        updated := a.updated ++ [r.target]
        mask := if g.state = .fresh then a.mask else a.mask ||| signalBit r.target }
  else a

/-- A good data frame applied to the rules in ascending order (R27). -/
def State.applyRules (s : State) (extended : Bool) (identifier : Nat) (data : List Byte) : Applied :=
  (List.finRange 16).foldl (Applied.offer extended identifier data) { state := s, updated := [], mask := 0 }

/-! ## The bus term and REV_EFF (R44 to R46) -/

/-- The bus term (R44). -/
def State.busTerm (s : State) : Bool :=
  match (s.signal .reverse).state with
  | .none => false
  | .fresh | .held => decide ((s.signal .reverse).value = 1)
  | .lost => s.recv.lostLatch

/-- The test of the LOST latch against SPEED (R44). -/
def State.latchTest (s : State) : State :=
  if (s.signal .reverse).state = .lost ∧ s.speedEnds = true then { s with recv := { s.recv with lostLatch := false } } else s

/-- REV_EFF as the source and the terms give it (R45). -/
def revOf (source : ReverseSource) (line bus : Bool) : Bool :=
  match source with
  | .line => line
  | .bus => bus
  | .either => line || bus

/-- The contributing source of a rise: the terms that are 1 (R46). -/
def riseSource (line bus : Bool) : RevContribution := if line && bus then .both else if line then .line else .bus

/-- REV_EFF is evaluated (R45); a change queues REVERSE_CHANGED and is handed on (R46). `fall` is the contributing source if
it falls here. -/
def State.evalRev (s : State) (fall : RevContribution) : State :=
  let bus := s.busTerm
  let rev := revOf s.recv.source s.recv.line bus
  if rev = s.recv.revEff then s
  else
    ((State.report { s with recv := { s.recv with revEff := rev } }
      (.reverseChanged rev (if rev then riseSource s.recv.line bus else fall))).handRevEff rev)

/-! ## Handing signals on (R37, R38) -/

/-- SIGNAL_STATE is reported, when a signal changed state (R37). DESIGN CHOICE (unsafe, log 38): the signals that change state in
one event are reported once, with all their bits; the manual does not say whether each change is a report of its own. -/
def State.reportSignals (s : State) (mask : BitVec 7) : State := if mask = 0 then s else s.report (.signalState mask)

/-- SPEED is handed to the Compositor (R38): the suppression test and the speed test. -/
def State.handSpeed (s : State) : State := s.suppressionTest.speedTest

/-- Whether a signal is a park distance. -/
def isDistance (i : SignalId) : Bool := distances.contains i

/-- The signals an event updated are handed on, in code order (R38; log 16). -/
def State.handUpdates (s : State) (updated : List SignalId) (mask : BitVec 7) : State :=
  let a := if updated.contains .steerAngle then s.steerUpdated (decide (mask &&& signalBit .steerAngle ≠ 0)) else s
  let b := if updated.contains .speed then a.handSpeed else a
  if updated.any isDistance then b.parkEvent else b

/-- A signal that has changed state without an update is handed on (R38): STEER_ANGLE into LOST or NONE, SPEED, a distance. -/
def State.handStateChange (s : State) (i : SignalId) : State :=
  match i with
  | .reverse => s
  | .steerAngle =>
    match (s.signal .steerAngle).state with
    | .lost => s.steerLost
    | .none => s.steerLost
    | .fresh => s
    | .held => s
  | .speed => s.handSpeed
  | .distOuterL | .distInnerL | .distInnerR | .distOuterR => s.parkEvent

/-- Whether the rules of sector 2 have been loaded at the current start-up, so that frames are applied (R48, R182). -/
def State.rulesLoaded (s : State) : Bool := s.isRunning || !s.steps.contains .receiver

/-- A bus frame is received (R25, R27); the state changes of all its rules are one report (log 38). A data frame received before
the rules are loaded is counted and not applied (R48). -/
def State.receive (s : State) (x : Reception) : State :=
  match x with
  | .faulty => { s with recv := { s.recv with busErrors := satInc s.recv.busErrors } }
  | .remote => { s with recv := { s.recv with goodFrames := satInc s.recv.goodFrames } }
  | .data extended identifier _ bytes =>
    let t := { s with recv := { s.recv with goodFrames := satInc s.recv.goodFrames } }
    if s.rulesLoaded then
      let a := t.applyRules extended identifier bytes
      ((((a.state.reportSignals a.mask).latchTest).evalRev .bus).handUpdates a.updated a.mask)
    else t

/-- A signal's timer reaches its timeout in FRESH (R36). An update taken first restarts the timer, and the expiry does not happen
(log 1). -/
def State.signalHeld (s : State) (i : SignalId) : State :=
  let x := s.signal i
  if x.state = .fresh ∧ reached x.timer x.timeout = true then
    let t := s.putSignal i { x with state := .held }
    ((t.reportSignals (signalBit i)).evalRev .bus).handStateChange i
  else s

/-- A signal's timer reaches three times its timeout in HELD (R36, R44). -/
def State.signalLost (s : State) (i : SignalId) : State :=
  let x := s.signal i
  if x.state = .held ∧ reached x.timer (3 * x.timeout) = true then
    let t := s.putSignal i { x with state := .lost, value := safeValue i }
    let u := if i = .reverse then { t with recv := { t.recv with lostLatch := decide (x.value = 1) } } else t
    (((u.reportSignals (signalBit i)).latchTest).evalRev .bus).handStateChange i
  else s

/-! ## Rule requests (R39, R40) -/

/-- A signal becomes NONE with its safe value and a stopped timer (R39, R40). -/
def Signal.toNone (x : Signal) (i : SignalId) : Signal := { x with value := safeValue i, state := .none, timer := none }

/-- The mask bit of a signal that is about to become NONE: set when that is a state change (R37). -/
def State.noneBit (s : State) (i : SignalId) : BitVec 7 := if (s.signal i).state = .none then 0 else signalBit i

/-- Signals become NONE; the state changes are reported in one SIGNAL_STATE (log 38) and handed on in code order (R37
to R40). -/
def State.clearSignals (s : State) (is : List SignalId) : State :=
  let mask := is.foldl (fun m i => m ||| s.noneBit i) 0
  let t := is.foldl (fun u i => u.putSignal i ((u.signal i).toNone i)) s
  let changed := signals.filter fun i => decide (mask &&& signalBit i ≠ 0)
  changed.foldl State.handStateChange ((t.reportSignals mask).evalRev .bus)

/-- The fields of a request or a sector, as checked, and the byte order legal. -/
def SetRule.toRule (f : SetRule) (target : SignalId) (order : ByteOrder) : Rule :=
  { enabled := f.enabled, extended := f.extended, identifier := f.identifier, target := target, startBit := f.startBit,
    length := f.length, order := order, signed := f.signed, factor := f.factor.toInt, shift := f.shift,
    offset := f.offset.toInt, timeout := clampNat 20 2000 f.timeout, invalidPattern := f.invalidPattern, alive := f.alive,
    lastAlive := none, accepted := 0, short := 0, invalid := 0, repeats := 0 }

/-- Whether an identifier is in the range its extended flag allows (R26). -/
def identifierFits (extended : Bool) (identifier : Nat) : Bool := decide (identifier < if extended then 536870912 else 2048)

/-- The checks of SET RULE on the alive counter (R39). -/
def aliveFits (order : ByteOrder) (start length : Nat) : Option Nat → Bool
  | none => true
  | some p => decide (p ≤ 63) && fieldFits order p 4 && !fieldsMeet order start length p 4

/-- The checks of SET RULE that a BAD_VALUE answers (R39), all passed: the rule number, the target and the byte order. -/
def SetRule.legal (f : SetRule) : Option (Fin 16 × SignalId × ByteOrder) :=
  match index 16 f.number, signalOf f.target, f.order with
  | some n, some i, .legal order =>
    if identifierFits f.extended f.identifier = true ∧ f.startBit ≤ 63 ∧ 1 ≤ f.length ∧ f.length ≤ 16 ∧ f.shift ≤ 15 ∧
        fieldFits order f.startBit f.length = true ∧ f.invalidPattern.all (fun p => decide (p < 2 ^ f.length)) = true ∧
        aliveFits order f.startBit f.length f.alive = true then
      some (n, i, order)
    else none
  | _, _, _ => none

/-- Whether an enabled rule other than one number names a target (R39). -/
def targetTaken (rules : Table Rule 16) (n : Fin 16) (i : SignalId) : Bool :=
  (List.finRange 16).any fun m => decide (m ≠ n) && (rules.sel m).enabled && decide ((rules.sel m).target = i)

/-- The timeout a signal takes when the rule that targets it is set or loaded (R35). -/
def State.takeTimeout (s : State) (r : Rule) : State :=
  if r.enabled then s.putSignal r.target { s.signal r.target with timeout := r.timeout } else s

/-- SET RULE, checked (R39). -/
def State.storeRule (s : State) (n : Fin 16) (r : Rule) : State :=
  let old := s.rule n
  let touched := if old.enabled ∧ old.target ≠ r.target then [old.target, r.target] else [r.target]
  ((s.putRule n r).takeTimeout r).clearSignals touched

/-- CLEAR RULE (R40). -/
def State.emptyRule (s : State) (n : Fin 16) : State :=
  let old := s.rule n
  (s.putRule n .cleared).clearSignals (if old.enabled then [old.target] else [])

/-! ## The reverse line (R43) -/

/-- REV_IN takes a level (R43): the debounce timer starts when it differs from the debounced level, and stops when it returns. -/
def State.lineChange (s : State) (level : Bool) : State :=
  { s with recv := { s.recv with
      rawLine := level
      debounce := if level = s.recv.line then none else some (s.recv.debounce.getD 0) } }

/-- The debounced level takes the raw level (R43). -/
def State.lineSettles (s : State) : State :=
  { s with recv := { s.recv with line := s.recv.rawLine, debounce := none } }

/-- The debounce timer reaches the debounce time (R43). -/
def State.debounced (s : State) : State :=
  if reached s.recv.debounce s.recv.debounceTime then s.lineSettles.evalRev .line else s

/-- The debouncer proceeds with a new debounce time (R43). -/
def State.debounceProceeds (s : State) : State := if reached s.recv.debounce s.recv.debounceTime then s.lineSettles else s

/-- A new reverse source and debounce time take effect (R47). -/
def State.takeReverseSource (s : State) (source : ReverseSource) (time : Nat) : State :=
  (State.debounceProceeds { s with recv := { s.recv with source := source, debounceTime := time } }).evalRev .setting

/-- The age of a signal in ms (R35). -/
def Signal.age (x : Signal) : Nat :=
  match x.timer with
  | some e => min 65535 (e / Config.perMs)
  | none => 65535

/-- The enabled rule that targets a signal (R42). -/
def State.ruleFor (s : State) (i : SignalId) : Option (Fin 16) :=
  (List.finRange 16).find? fun n => (s.rule n).enabled && decide ((s.rule n).target = i)

end Sys2Proof.Machine
end

