-- ==== Sys2Proof/Machine/Loading.lean ====
section
/-! DEFINITION. The Calibration Store: sector states, and the fields of the sectors as the blocks load them (R183, R185). -/

namespace Sys2Proof.Machine

open Sys2Proof

/-! ## Sector states (R185) -/

/-- Whether the check in bytes 254 and 255 matches bytes 0 to 253 (R185). -/
def checkMatches (bytes : List Byte) : Bool := decide ((check (bytes.take 254)).toNat = u16At bytes 254)

/-- The state a sector's content and mark give (R185). -/
def sectorStateOf (n : Fin 8) (bytes : List Byte) (mark : Bool) : SectorState :=
  if bytes.all (fun b => decide (b = 0xFF#8)) then .erased
  else if mark then .corrupt
  else if 5 ≤ n.1 then .valid
  else if checkMatches bytes then .valid
  else .corrupt

/-- A sector examined (R185). -/
def Sector.examine (n : Fin 8) (x : Sector) : Sector := { x with state := some (sectorStateOf n x.bytes x.mark) }

/-- A sector. -/
def State.sector (s : State) (n : Fin 8) : Sector := s.store.sectors.sel n

/-- A sector replaced. -/
def State.putSector (s : State) (n : Fin 8) (x : Sector) : State :=
  { s with store := { s.store with sectors := s.store.sectors.put n x } }

/-- The bytes of a sector, when it is VALID. -/
def State.validBytes (s : State) (n : Fin 8) : Option (List Byte) :=
  if (s.sector n).state = some .valid then some (s.sector n).bytes else none

/-- A bit of a byte. -/
def bitOf (b : Byte) (i : Nat) : Bool := b.getLsbD i

/-! ## Sector 2: the vehicle bus (R48, R183) -/

/-- A rule of sector 2 as the request that would set it (R183, R185). -/
def ruleRequest (b : List Byte) (n : Nat) : SetRule :=
  let o := 3 + 15 * n
  let head := u32At b o
  let b4 := byteAt b (o + 4)
  let b5 := byteAt b (o + 5)
  { number := n
    enabled := decide (head / 2147483648 % 2 = 1)
    extended := decide (head / 1073741824 % 2 = 1)
    identifier := head % 536870912
    target := b4.toNat / 32
    startBit := b5.toNat % 64
    length := b4.toNat % 16 + 1
    order := .legal (if head / 536870912 % 2 = 1 then .msbFirst else .lsbFirst)
    signed := bitOf b4 4
    factor := BitVec.ofNat 16 (u16At b (o + 8))
    shift := (byteAt b (o + 7)).toNat % 16
    offset := (BitVec.ofNat 16 (u16At b (o + 10))).signExtend 32
    timeout := (byteAt b (o + 14)).toNat * 10
    invalidPattern := if bitOf b5 7 then some (u16At b (o + 12)) else none
    alive := if bitOf b5 6 then some ((byteAt b (o + 6)).toNat % 64) else none }

/-- One rule loaded (R183): as SET RULE would store it, or empty where SET RULE would refuse it. -/
def State.loadRule (b : List Byte) (s : State) (n : Fin 16) : State :=
  let f := ruleRequest b n.1
  match SetRule.legal f with
  | some (_, i, order) =>
    if targetTaken s.recv.rules n i then s.putRule n .cleared else (s.putRule n (SetRule.toRule f i order)).takeTimeout (SetRule.toRule f i order)
  | none => s.putRule n .cleared

/-- The bit rate of a code; a code without a meaning gives the built-in rate (R183, R185). -/
def bitRateOf (code : Nat) : Nat := if code = 1 then 125 else if code = 2 then 250 else 500

/-- The reverse source of a code; a code without a meaning gives the built-in source (R183, R185). -/
def reverseSourceOf (code : Nat) : ReverseSource := if code = 1 then .bus else if code = 3 then .either else .line

/-- Step 3 (R182): the Signal Receiver loads sector 2; the debouncer proceeds and REV_EFF is evaluated (R48). -/
def State.loadReceiver (s : State) : State :=
  match s.validBytes 2 with
  | none => s.evalRev .setting
  | some b =>
    let t := { s with recv := { s.recv with bitRate := bitRateOf (byteAt b 0).toNat } }
    ((List.finRange 16).foldl (State.loadRule b) t).takeReverseSource (reverseSourceOf (byteAt b 1).toNat)
      (clampNat 10 200 (byteAt b 2).toNat)

/-! ## Sector 3: the outputs (R117, R183) -/

/-- A colour of three bytes. -/
def rgbAt (b : List Byte) (i : Nat) : Rgb := ⟨byteAt b i, byteAt b (i + 1), byteAt b (i + 2)⟩

/-- The host timing of a sector's fields (R183): sizes clamped, a refresh rate without a meaning replaced. -/
def timingAt (b : List Byte) (i : Nat) (o : Output) : Timing :=
  let f := (byteAt b (i + 4)).toNat
  { width := clampNat 320 1280 (u16At b i), height := clampNat 240 800 (u16At b (i + 2)),
    refresh := if f = 50 ∨ f = 60 then f else (builtInTiming o).refresh }

/-- An output's record as sector 3 gives it (R183, R185); a mirror bit for CENTRE is loaded clear. -/
def outputAt (b : List Byte) (o : Output) : OutputRec :=
  let i := 9 * (outputNo o).1
  .loaded (bitOf (byteAt b i) 0) (timingAt b (i + 1) o) (rgbAt b (i + 6)) (bitOf (byteAt b i) 1 && decide (o ≠ .centre))

/-- The Compositor as sector 3 gives it (R96, R117, R183). -/
def compositorOf (b : List Byte) : Compositor :=
  { outputs := ⟨#[outputAt b .centre, outputAt b .rearL, outputAt b .rearR], rfl⟩,
    policy :=
      { lingerTime := clampNat 0 10000 (u16At b 27), lingerSpeed := clampNat 0 3000 (u16At b 29),
        filmSpeedLimit := clampNat 0 1000 (u16At b 31), fills := ⟨#[rgbAt b 33, rgbAt b 36, rgbAt b 39], rfl⟩ },
    suppression := true, demand := false }

/-- Step 4 (R182): the Output Compositor loads sector 3, and camera demand is what its outputs give, absent (R106, R117). The
linger speed of the view policy changes with it, so the LOST latch is tested and REV_EFF evaluated, while suppression is on by
R117 and not tested: DESIGN CHOICE (unsafe, log 59). -/
def State.loadOutputs (s : State) : State :=
  let loaded := match s.validBytes 3 with
    | none => Compositor.builtIn
    | some b => compositorOf b
  (((State.recomputeDemand { s with comp := { loaded with demand := s.comp.demand } }).latchTest).evalRev .bus)

/-! ## Sector 1: the camera and the guide (R134, R135, R151, R183) -/

/-- A camera width: one out of range or odd takes the built-in width (R183). -/
def cameraWidthOf (w : Nat) : Nat := if 320 ≤ w ∧ w ≤ 1280 ∧ w % 2 = 0 then w else CameraSettings.builtIn.width

/-- A camera height: one out of range or odd takes the built-in height (R183). -/
def cameraHeightOf (h : Nat) : Nat := if 240 ≤ h ∧ h ≤ 960 ∧ h % 2 = 0 then h else CameraSettings.builtIn.height

/-- The camera settings of sector 1 (R183, R185). -/
def cameraSettingsOf (b : List Byte) : CameraSettings :=
  { width := cameraWidthOf (u16At b 0), height := cameraHeightOf (u16At b 2), format := .yuv422,
    frameTimeout := clampNat 40 500 (u16At b 4), wakeTimeout := clampNat 100 2000 (u16At b 6),
    freezeCount := clampNat 5 60 (byteAt b 8).toNat, keepWarm := bitOf (byteAt b 9) 0 }

/-- The geometry of sector 1 (R183, R185). -/
def geometryOf (b : List Byte) : Geometry :=
  let reach := clampNat 1000 5000 (u16At b 18)
  let m1 := u16At b 47
  let m2 := u16At b 49
  let m3 := u16At b 51
  let sound := decide (m1 < m2 ∧ m2 < m3 ∧ m3 < reach)
  { ratio := clampNat 1000 2500 (u16At b 10), wheelbase := clampNat 2000 3500 (u16At b 12),
    overhang := clampNat 300 1500 (u16At b 14), track := clampNat 1200 2000 (u16At b 16), reach := reach,
    homography := ⟨#[b24At b 20, b24At b 23, b24At b 26, b24At b 29, b24At b 32, b24At b 35, b24At b 38, b24At b 41,
      b24At b 44], rfl⟩,
    marker1 := if sound then m1 else reach / 4, marker2 := if sound then m2 else reach / 2,
    marker3 := if sound then m3 else 3 * reach / 4, staticLines := bitOf (byteAt b 9) 1 }

/-- The 16-bit colour at a place. -/
def colourAt (b : List Byte) (i : Nat) : BitVec 16 := BitVec.ofNat 16 (u16At b i)

/-- The style of sector 1 (R137, R185). -/
def styleOf (b : List Byte) : GuideStyle :=
  { track := colourAt b 53, marker1 := colourAt b 55, marker2 := colourAt b 57, marker3 := colourAt b 59, static := colourAt b 61 }

/-- Step 5 (R182): the Camera Monitor and the Generator load sector 1; keep-warm acts (R134). -/
def State.loadCamera (s : State) : State :=
  match s.validBytes 1 with
  | none =>
    State.followCamera { s with
      cam := .initial .builtIn
      guide := { Guide.initial .builtIn false .builtIn CameraSettings.builtIn.width CameraSettings.builtIn.height with
        demand := s.guide.demand } }
  | some b =>
    let c := cameraSettingsOf b
    State.followCamera { s with
      cam := .initial c
      guide := { Guide.initial (geometryOf b) true (styleOf b) c.width c.height with demand := s.guide.demand } }

/-! ## Sector 4: the mix and the park cadence (R165, R169, R183) -/

/-- The film source of a code; a code without a meaning gives the built-in source (R183). -/
def filmSourceOf (code : Nat) (builtIn : Option StreamId) : Option StreamId :=
  if code = 0 then none else if code = 1 then some .a else if code = 2 then some .b else builtIn

/-- The record of an audio output as sector 4 gives it (R183); the chime flag of CABIN is loaded set. The flag is
a byte whose coding R185 does not give, and any value but 0 is taken as set: DESIGN CHOICE (unsafe, log 52). -/
def mixOutAt (b : List Byte) (k : Fin 3) : MixOut :=
  let i := 4 * k.1
  { film := filmSourceOf (byteAt b i).toNat (Mixer.builtIn.outs.sel k).film,
    filmVolume := clampNat 0 63 (byteAt b (i + 1)).toNat,
    chimeFlag := decide (k = 0) || decide (byteAt b (i + 2) ≠ 0),
    chimeVolume := clampNat 0 63 (byteAt b (i + 3)).toNat, target := 0, applied := 0, clips := 0 }

/-- The park cadence of sector 4 (R183). -/
def cadenceOf (b : List Byte) : ParkCadence :=
  { near := clampNat 20 60 (byteAt b 14).toNat, far := clampNat 100 250 (byteAt b 15).toNat,
    halfPeriod := clampNat 6 255 (byteAt b 16).toNat, level := clampNat 0 63 (byteAt b 17).toNat }

/-- Step 6 (R182): the Mixer and the park cadence load sector 4; the targets are recomputed and taken at once (R169). -/
def State.loadMixer (s : State) : State :=
  match s.validBytes 4 with
  | none =>
    { s with
      mixer := Mixer.settle (Mixer.retarget { Mixer.builtIn with revEff := s.mixer.revEff, playing := s.mixer.playing })
      chime := { s.chime with cadence := .builtIn } }
  | some b =>
    { s with
      mixer := Mixer.settle (Mixer.retarget { s.mixer with
        outs := ⟨#[mixOutAt b 0, mixOutAt b 1, mixOutAt b 2], rfl⟩
        duck := clampNat 0 30 (byteAt b 12).toNat
        rev := clampNat 0 63 (byteAt b 13).toNat })
      chime := { s.chime with cadence := cadenceOf b } }

end Sys2Proof.Machine
end

