-- ==== Sys2Proof/Machine/StartUp.lean ====
section
/-! DEFINITION. Start-up and the entry into RUNNING (section 10.1). -/

namespace Sys2Proof.Machine

open Sys2Proof

/-! ## An abandoned store operation (R188) -/

/-- Bytes partly changed: from the byte numbered `i` on, each a free value of its own (log 10). -/
def abandonedBytes (count i : Nat) : List Byte → List Byte
  | [] => []
  | _ :: bs => Config.abandonedByte count i :: abandonedBytes count (i + 1) bs

/-- The bytes of a sector whose operation a start-up has abandoned (R188): an erase leaves every byte partly changed, a write
those of its half. -/
def abandonedContent (kind : StoreOpKind) (count : Nat) (bytes : List Byte) : List Byte :=
  match kind with
  | .erase => abandonedBytes count 0 bytes
  | .write half _ =>
    if half = 0 then abandonedBytes count 0 (bytes.take 128) ++ bytes.drop 128
    else bytes.take 128 ++ abandonedBytes count 128 (bytes.drop 128)

/-- The store operation in flight is abandoned (R188): the bytes partly changed, the mark set. -/
def State.abandonStore (s : State) : State :=
  match s.store.op with
  | none => s
  | some op =>
    let x := s.sector op.sector
    let t := s.putSector op.sector { x with bytes := abandonedContent op.kind s.free x.bytes, mark := true }
    { t with store := { t.store with op := none }, free := s.free + 1 }

/-! ## The steps of start-up (R182) -/

/-- The transaction under way, when a start-up begins: the part reads nothing and sends 0x00 for its rest (R181; log 25). -/
def Transaction.deafened (x : Transaction) : Transaction := { x with sending := false, deaf := true }

/-- The steps of a start-up after its first, in their order (R182). -/
def laterSteps : List StartUpStep := [.examine, .receiver, .outputs, .camera, .mixer]

/-- The beginning of a start-up (R181, R182): every block at its reset values, every sector UNEXAMINED, every output OFF. What
is kept: the store's bytes and marks, the level of REV_IN, frame memory, the commands that wait (log 6). A self-test in flight is
abandoned without a notice (R189), and the pages of its set hold what they held before it: DESIGN CHOICE (unsafe, log 56). -/
def State.beginStartUp (s : State) (cause : ResetCause) : State :=
  let t := s.abandonStore
  let off (o : Output) : OutputRec := .loaded false (builtInTiming o) ⟨0, 0, 0⟩ false
  let blank (x : Sector) : Sector := { x with state := none }
  { t with
    part := ⟨.starting, cause⟩
    steps := laterSteps
    link := { Link.initial with transaction := s.link.transaction.map Transaction.deafened }
    recv := .initial s.recv.rawLine
    pacer := .initial
    layers := .initial
    comp := { Compositor.builtIn with outputs := ⟨#[off .centre, off .rearL, off .rearR], rfl⟩ }
    cam := .initial .builtIn
    guide := .initial .builtIn false .builtIn CameraSettings.builtIn.width CameraSettings.builtIn.height
    chime := .initial .builtIn
    mixer := .builtIn
    store := { t.store with sectors := (List.finRange 8).foldl (fun x n => x.upd n blank) t.store.sectors }
    selfTest := none }

/-- Step 1 (R24, R182): the FMM initialises the page map and the camera reserve. -/
def State.initMemory (s : State) : State := { s with fmm := .initial, mem := s.mem.zeroPages 0 Config.reservePages }

/-- Step 2 (R182, R185): the store examines all eight sectors. -/
def State.examineSectors (s : State) : State :=
  { s with store := { s.store with
      sectors := (List.finRange 8).foldl (fun x n => x.upd n (Sector.examine n)) s.store.sectors } }

/-- A start-up begins, with its step 1 (R182). -/
def State.startUp (s : State) (cause : ResetCause) : State := (s.beginStartUp cause).initMemory

/-- What a later step of a start-up does (R182). -/
def State.doStep (s : State) : StartUpStep → State
  | .examine => s.examineSectors
  | .receiver => s.loadReceiver
  | .outputs => s.loadOutputs
  | .camera => s.loadCamera
  | .mixer => s.loadMixer

/-- The step of a start-up that is under way (R182). -/
def State.stepUnderWay (s : State) : Option StartUpStep := if s.isRunning then none else s.steps.head?

/-- The step under way ends. -/
def State.endStep (s : State) : State :=
  match s.stepUnderWay with
  | some x => { s with steps := s.steps.tail }.doStep x
  | none => s

/-- All steps that have not ended come to their ends, in their order. -/
def State.finishStartUp (s : State) : State := s.steps.foldl State.doStep { s with steps := [] }

/-! ## The entry into RUNNING (R184) -/

/-- The eight sector states, UNEXAMINED where not yet determined (R179). -/
def State.sectorStates (s : State) : Table (Option SectorState) 8 :=
  ⟨#[(s.sector 0).state, (s.sector 1).state, (s.sector 2).state, (s.sector 3).state, (s.sector 4).state, (s.sector 5).state,
    (s.sector 6).state, (s.sector 7).state], rfl⟩

/-- PART_STARTED as it stands: the eight sector states and the reset cause (R177, R184). -/
def State.partStarted (s : State) : Report := .partStarted s.sectorStates s.part.cause

/-- The part enters RUNNING at the end of step 6 (R184), so what is left of the steps before it has ended by then (log 6); in
RUNNING there is no such event (log 2). -/
def State.enterRunning (s : State) : State :=
  if s.isRunning then s
  else
    let u := s.finishStartUp
    let t := { u with
      part := { u.part with phase := .running }
      pacer := { u.pacer with paceTimer := true }
      link := { u.link with notices := ⟨u.partStarted, 0⟩ :: u.link.notices } }
    if t.recv.revEff then t.viewRise.chimeRise else t

end Sys2Proof.Machine
end

