-- ==== Sys2Proof/Machine/Wire.lean ====
section
/-! DEFINITION. What the link carries byte by byte: frames, notices, replies, and the bytes the part shifts out in a transaction
(chapter 9). -/

namespace Sys2Proof.Config

open Sys2Proof.Machine

/-- The number of body bytes of a reply whose layout the manual does not give. FREE VALUE, safe, log 47. -/
opaque replyLength : ReplyBody → Fin 249

/-- A body byte of a reply whose layout the manual does not give. FREE VALUE, safe, log 47. -/
opaque replyByte : ReplyBody → Nat → Byte

end Sys2Proof.Config

namespace Sys2Proof.Machine

open Sys2Proof

/-! ## Frames on the wire (section 9.9) -/

/-- A frame from its SYNC byte, TAG, third header byte and body (R171, section 9.9). -/
def linkFrame (sync tag third : Byte) (body : List Byte) : List Byte :=
  let inner := BitVec.ofNat 8 body.length :: tag :: third :: body
  sync :: inner ++ bytes16 (check inner).toNat

/-- A request frame. -/
def requestFrame (tag code : Byte) (body : List Byte) : List Byte := linkFrame 0xA5#8 tag code body

/-- The code of an outcome (R174). -/
def Result.code : Result → Byte
  | .done => 0
  | .adjusted => 1
  | .accepted => 2
  | .busy => 3
  | .notNow => 4
  | .badValue => 5
  | .noSpace => 6
  | .conflict => 7
  | .badFrame => 8
  | .unknown => 9

/-- A reply frame with the given body bytes. -/
def replyFrame (tag : Byte) (result : Result) (body : List Byte) : List Byte := linkFrame 0x5A#8 tag (Result.code result) body

/-- The code of an owner of pages (R3). -/
def Owner.code : Owner → Nat
  | .free => 0
  | .reserve => 1
  | .run (.stream .a) => 2
  | .run (.stream .b) => 3
  | .run (.layer n) => 16 + n.1
  | .run (.sample n) => 64 + n.1

/-- The code of a reader (R14). -/
def Reader.code : Reader → Nat
  | .scan o => (outputNo o).1
  | .chime => 3
  | .guide => 4
  | .selfTest => 5

/-- The code of a sector state; UNEXAMINED is 0 (R177, R179). -/
def sectorCode : Option SectorState → Nat
  | none => 0
  | some .erased => 1
  | some .valid => 2
  | some .corrupt => 3

/-- The code of a part state (R179). -/
def Phase.code : Phase → Nat
  | .starting => 0
  | .running => 1

/-- The code of a reset cause (R177). -/
def ResetCause.code : ResetCause → Nat
  | .power => 1
  | .line => 2
  | .request => 3

/-- The trouble flags as one byte, OVERRUN at bit 0 and on in the listed order. PRESUMED (unsafe, log 27): the manual lists
the flags and gives no bit places. -/
def Trouble.byte (f : Trouble) : Nat :=
  f.overrun.toNat + 2 * f.lateDrop.toNat + 4 * f.badTag.toNat + 8 * f.seqGap.toNat + 16 * f.shortFrame.toNat +
    32 * f.audioLoss.toNat + 64 * f.memory.toNat

/-- The fields of a notice's argument in the order listed, one byte each except the LAYER_EVENT masks and the MEMORY_ERROR
page (R177, section 9.9). -/
def Report.fields : Report → List Byte
  | .partStarted sectors cause => (sectors.toList.map fun x => BitVec.ofNat 8 (sectorCode x)) ++ [BitVec.ofNat 8 (ResetCause.code cause)]
  | .reverseChanged rev src =>
    [BitVec.ofNat 8 rev.toNat, match src with
      | .line => 1
      | .bus => 2
      | .both => 3
      | .setting => 4]
  | .signalState m => [BitVec.ofNat 8 m.toNat]
  | .cameraState st => [match st with
      | .off => 0
      | .waking => 1
      | .live => 2
      | .lost => 3
      | .frozen => 4]
  | .streamState _ st => [match st with
      | .closed => 0
      | .priming => 1
      | .running => 2
      | .paused => 3
      | .starved => 4]
  | .streamTrouble _ f => [BitVec.ofNat 8 (Trouble.byte f)]
  | .layerEvent l r d => bytes24 l.toNat ++ bytes24 r.toNat ++ bytes24 d.toNat
  | .memoryError page o rd => bytes16 page ++ [BitVec.ofNat 8 (Owner.code o), BitVec.ofNat 8 (Reader.code rd)]
  | .outputOwner _ st rs =>
    [(match st with
      | .off => 0
      | .normal => 1
      | .camera => 2
      | .linger => 3), match rs with
      | .reverse => 1
      | .request => 2
      | .reverseEnd => 3
      | .timer => 4
      | .speed => 5
      | .release => 6
      | .host => 7]
  | .chimeEnded _ tag rs => [tag, match rs with
      | .played => 1
      | .cancelled => 2
      | .evicted => 3
      | .preemptLimit => 4]
  | .storeDone sector op res =>
    [BitVec.ofNat 8 sector.1, (match op with
      | .erase => 1
      | .write => 2), BitVec.ofNat 8 (sectorCode (some res))]
  | .selfTestDone n => [BitVec.ofNat 8 n]

/-- A notice entry as the FETCH NOTICES reply carries it: 12 bytes, the argument filled with 0x00 (section 9.9). -/
def NoticeEntry.bytes (e : NoticeEntry) : List Byte :=
  let arg := Report.fields e.report
  [BitVec.ofNat 8 (Report.key e.report).1, BitVec.ofNat 8 (Report.key e.report).2, BitVec.ofNat 8 e.repeats] ++
    arg ++ List.replicate (9 - arg.length) 0#8

/-- The body of a FETCH NOTICES reply (section 9.9). -/
def noticesBody (removed : List NoticeEntry) (left : Nat) : List Byte :=
  [BitVec.ofNat 8 removed.length, BitVec.ofNat 8 left] ++ removed.flatMap NoticeEntry.bytes

/-! ## The body of GET LAYER (R93) -/

/-- A signed 16-bit quantity, most significant byte first. -/
def signed16 (x : Int) : List Byte := bytes16 (BitVec.ofInt 16 x).toNat

/-- A part of the GET LAYER reply that is there or not. -/
def partBytes {α : Type} (x : Option α) (f : α → List Byte) : List Byte :=
  match x with
  | some y => f y
  | none => []

/-- A placement as the reply carries it: x, y, z, alpha and visible, seven bytes (R93). -/
def Placement.bytes (p : Placement) : List Byte :=
  signed16 p.x ++ signed16 p.y ++ [BitVec.ofNat 8 p.z, BitVec.ofNat 8 p.alpha, BitVec.ofNat 8 p.visible.toNat]

/-- The code of a layer state, in the order R74 lists them. PRESUMED (unsafe, log 46). -/
def LayerState.code : LayerState → Nat
  | .unused => 0
  | .ready => 1
  | .damaged => 2

/-- The attributes byte: kind, format, plane count, camera-permitted. PRESUMED (unsafe, log 46): bits 0, 1, 2 and 3, 4. -/
def LayerReport.attributes (r : LayerReport) : Nat :=
  (match r.kind with
    | .menu => 0
    | .card => 1) +
  (match r.format with
    | .argb8888 => 0
    | .argb1555 => 2) + 4 * r.planes + 16 * r.permitted.toNat

/-- The status byte: front plane, flip-pending, VIN load present, plane 0 and plane 1 damaged. PRESUMED (unsafe, log 46): bits 0
to 4. -/
def LayerReport.status (r : LayerReport) : Nat :=
  r.front.1 + 2 * r.flipPending.toNat + 4 * r.vinLoad.toNat + 8 * (r.damaged.sel 0).toNat + 16 * (r.damaged.sel 1).toNat

/-- The byte of the card designations, STARTING, UNAVAILABLE and SUPPRESSED. PRESUMED (unsafe, log 46): bits 0 to 2. -/
def LayerReport.cards (r : LayerReport) : Nat :=
  (r.designations.sel 0).toNat + 2 * (r.designations.sel 1).toNat + 4 * (r.designations.sel 2).toNat

/-- The presence mask (R93): SIZE, RUN, MARK, and the placements of the three outputs. PRESUMED (unsafe, log 46): bits 0 to 5. -/
def LayerReport.mask (r : LayerReport) : Nat :=
  r.size.isSome.toNat + 2 * r.run.isSome.toNat + 4 * r.mark.isSome.toNat + 8 * (r.placements.sel 0).isSome.toNat +
    16 * (r.placements.sel 1).isSome.toNat + 32 * (r.placements.sel 2).isSome.toNat

/-- The body of a GET LAYER reply (R93): the fixed part of six bytes, then SIZE, RUN, MARK and the placements that are there. -/
def LayerReport.bytes (r : LayerReport) : List Byte :=
  [BitVec.ofNat 8 r.layer, BitVec.ofNat 8 r.state.code, BitVec.ofNat 8 r.attributes, BitVec.ofNat 8 r.status,
    BitVec.ofNat 8 r.cards, BitVec.ofNat 8 r.mask] ++
  partBytes r.size (fun x => bytes16 x.1 ++ bytes16 x.2) ++ partBytes r.run (fun x => bytes16 x.1 ++ bytes16 x.2) ++
  partBytes r.mark bytes24 ++ partBytes (r.placements.sel 0) Placement.bytes ++
  partBytes (r.placements.sel 1) Placement.bytes ++ partBytes (r.placements.sel 2) Placement.bytes

/-! ## The body of READ PAGE MAP (R11) -/

/-- An entry of the page map as the reply carries it: owner code, base page and page count, five bytes (R11). The code fits one
byte (R3), and base and count take two each. -/
def pageEntryBytes (e : Owner × Nat × Nat) : List Byte := BitVec.ofNat 8 e.1.code :: bytes16 e.2.1 ++ bytes16 e.2.2

/-- The body of a READ PAGE MAP reply (R11): low_top, high_bottom, the entry count, the MORE_RUNS flag, and the entries. DESIGN
CHOICE (unsafe, log 53): of the four fields before the entries R11 gives the order and not the lengths; here two, two, one and
one byte, and a set flag is 1. -/
def PageMapReport.bytes (r : PageMapReport) : List Byte :=
  bytes16 r.lowTop ++ bytes16 r.highBottom ++ [BitVec.ofNat 8 r.entries.length, BitVec.ofNat 8 r.moreRuns.toNat] ++
    r.entries.flatMap pageEntryBytes

/-! ## What the part shifts out (R170) -/

/-- The body bytes of a reply: laid out as the manual gives, where it does (R11, R93, section 9.9); of the others the manual lists the
fields and gives no layout: free values (log 47). -/
def ReplyBody.bytes : ReplyBody → List Byte
  | .empty => []
  | .notices removed left => noticesBody removed left
  | .layer r => r.bytes
  | .pageMap r => r.bytes
  | b => (List.range (Config.replyLength b).1).map (Config.replyByte b)

/-- The reply frame of a request that has been answered (R171); none before. -/
def Outstanding.frame (r : Outstanding) : List Byte :=
  match r.status with
  | .replied result body => replyFrame r.tag result body.bytes
  | .waiting => []
  | .executing => []

/-- The byte that the part shifts out at a place of the transaction under way (R170): of the oldest ready reply, when the
transaction sends one, from its first byte; 0x00 after its last, and throughout when it sends none. -/
def State.shiftedOut (s : State) (k : Nat) : Byte :=
  match s.link.transaction, s.replyQueue with
  | some x, r :: _ => if x.sending then byteAt r.frame k else 0
  | some _, [] => 0
  | none, _ => 0

end Sys2Proof.Machine
end

