-- ==== Sys2Proof/Machine/LinkCommands.lean ====
section
/-! DEFINITION. Start-up and Control Link commands: POWER_ON to GET_STATE (chapters 9 and 10). -/

namespace Sys2Proof.Machine

open Sys2Proof

/-- The outcome of a command. -/
abbrev Outcome := Host.Outcome State Fault Refusal

/-! ## Taking and collecting (R170 to R172, R181) -/

/-- A good frame is taken (R172); a RESET PART is judged at this moment (R181). -/
def State.takeGood (s : State) (tag code : Byte) (body : List Byte) : State :=
  if code = codeResetPart ∧ s.link.requests.length < Config.maxRequests then
    if s.isStarting then s.enlist tag code (some .busy)
    else if body ≠ [] then s.enlist tag code (some .badValue)
    else s.startUp .request
  else s.enlist tag code none

/-- A frame ends and is judged (R171). -/
def State.takeFrame (s : State) (received : List Byte) : State :=
  match judgeFrame received with
  | .noRequest => s
  | .bad tag => s.enlist tag 0 (some .badFrame)
  | .good tag code body => s.takeGood tag code body

/-- The list without its oldest REPLIED request (R170, R172). -/
def dropReplied : List Outstanding → List Outstanding
  | [] => []
  | r :: rs => if r.isReplied then rs else r :: dropReplied rs

/-- The oldest ready reply leaves (R172). -/
def State.collect (s : State) : State :=
  { s with link := { s.link with requests := dropReplied s.link.requests } }

/-! ## The commands -/

/-- POWER_ON (R182): a start-up with cause POWER, in either part state. -/
def execPowerOn (s : State) : Outcome := .next (s.startUp .power)

/-- RESET_LINE (R182): a start-up with cause LINE, in either part state. -/
def execResetLine (s : State) : Outcome := .next (s.startUp .line)

/-- ENTER_RUNNING (R184). -/
def execEnterRunning (s : State) : Outcome := .next s.enterRunning

/-- TRANSACTION_BEGIN (R170): what the part sends is fixed. While a transaction is under way no other begins (log 2). -/
def execTransactionBegin (s : State) : Outcome :=
  match s.link.transaction with
  | some _ => .next s
  | none => .next (s.setTransaction (some ⟨!s.replyQueue.isEmpty, false, false⟩))

/-- TRANSACTION_END (R170, R171): a partly received frame is judged, unless a frame has ended in the transaction or the part
reads nothing in it; a transaction that was not begun is taken as one of its own (log 5). -/
def execTransactionEnd (received : List Byte) (s : State) : Outcome :=
  match s.link.transaction with
  | some x =>
    let t := s.setTransaction none
    .next (if x.frameEnded || x.deaf then t else t.takeFrame received)
  | none => .next (s.takeFrame received)

/-- REQUEST_TAKEN (R170 to R173): a request frame ends; bytes after a frame's end in one transaction are ignored. -/
def execRequestTaken (frame : List Byte) (s : State) : Outcome := .next (s.frameEnds fun t => t.takeFrame frame)

/-- REPLY_COLLECTED (R170, R172): the reply that the transaction sends leaves, and its request with it. -/
def execReplyCollected (s : State) : Outcome :=
  match s.link.transaction with
  | some x => if x.sending then .next (s.collect.setTransaction (some { x with sending := false })) else .next s
  | none => .next s.collect

/-- GET_IDENTITY (R179): answered in every part state. -/
def execGetIdentity (s : State) : Outcome :=
  .next (request codeGetIdentity (fun t =>
    (t, .now .done (.identity Config.partCode Config.revision t.part.phase t.sectorStates))) s)

/-- FETCH_NOTICES (R178): the oldest entries, up to 8, leave the notice queue. -/
def execFetchNotices (s : State) : Outcome :=
  .next (request 0x02#8 (fun t =>
    let left := t.link.notices.drop Config.fetchLimit
    ({ t with link := { t.link with notices := left } },
      .now .done (.notices (t.link.notices.take Config.fetchLimit) left.length))) s)

/-- RESET_PART (R181): judged at the moment it is taken, so the row is its frame's end, whatever requests are before it (log 3):
performed with no reply, or answered BUSY while STARTING and BAD_VALUE for a body that is not empty, in its turn. -/
def execResetPart (body : List Byte) (s : State) : Outcome := .next (s.frameEnds fun t => t.takeGood 0#8 codeResetPart body)

/-- The reply of GET STATE (R180). -/
def State.stateReport (s : State) : StateReport :=
  { cause := s.part.cause, outstanding := s.link.requests.length, notTaken := s.link.notTaken, badFrames := s.link.badFrames,
    notices := s.link.notices.map fun e => Report.key e.report, revEff := s.recv.revEff,
    owners := ⟨#[(s.out .centre).owner, (s.out .rearL).owner, (s.out .rearR).owner], rfl⟩, camera := s.cam.status,
    streams := ⟨#[(s.stream .a).state, (s.stream .b).state], rfl⟩, storeOp := s.store.op.isSome,
    selfTest := s.selfTest.isSome }

/-- GET_STATE (R180). -/
def execGetState (s : State) : Outcome :=
  .next (request 0x04#8 (fun t => (t, .now .done (.state t.stateReport))) s)

end Sys2Proof.Machine
end

