-- ==== Sys2Proof/Machine/CameraCommands.lean ====
section
/-! DEFINITION. Camera commands: SET_CAMERA, GET_CAMERA, camera frames and timeouts (chapter 6). -/

namespace Sys2Proof.Machine

open Sys2Proof

/-- Whether a camera format is legal (R132). -/
def CameraFormat.legal (f : CameraFormat) : Bool :=
  decide (f.format = .legal .yuv422) && decide (320 ≤ f.width) && decide (f.width ≤ 1280) && decide (f.width % 2 = 0) &&
    decide (240 ≤ f.height) && decide (f.height ≤ 960)

/-- The camera settings with a request's fields stored, clamped (R132). -/
def SetCamera.store (f : SetCamera) (c : CameraSettings) : CameraSettings :=
  { c with
    width := (f.format.map CameraFormat.width).getD c.width
    height := (f.format.map CameraFormat.height).getD c.height
    frameTimeout := (clampOpt 40 500 f.frameTimeout).getD c.frameTimeout
    wakeTimeout := (clampOpt 100 2000 f.wakeTimeout).getD c.wakeTimeout
    freezeCount := (clampOpt 5 60 f.freezeCount).getD c.freezeCount
    keepWarm := f.keepWarm.getD c.keepWarm }

/-- Whether a camera setting was clamped (R132). -/
def SetCamera.clamped (f : SetCamera) : Bool :=
  decide (clampOpt 40 500 f.frameTimeout ≠ f.frameTimeout ∨ clampOpt 100 2000 f.wakeTimeout ≠ f.wakeTimeout ∨
    clampOpt 5 60 f.freezeCount ≠ f.freezeCount)

/-- A capture slot emptied; outputs still scanning it out hold it on (R130, R132). -/
def CaptureSlot.emptied (x : CaptureSlot) : CaptureSlot := { x with state := .empty }

/-- A new camera format takes effect (R132): every slot EMPTY, nothing newest or shown, and the Generator is handed it. -/
def State.formatChanged (s : State) : State :=
  let c := s.cam
  State.handGuide { s with cam := { c with
      slots := ((c.slots.upd 0 CaptureSlot.emptied).upd 1 CaptureSlot.emptied).upd 2 CaptureSlot.emptied
      order := []
      shown := none } }
    fun g => { g with camWidth := c.settings.width, camHeight := c.settings.height }

/-- A running frame timer that has reached a new timeout expires at once (R132). -/
def State.cameraDue (s : State) : State := if s.cam.status = .waking then s.wakeExpired else s.frameExpired

/-- SET CAMERA takes effect (R132): the format, then the timeouts, then keep-warm. Every format present is taken as a new one,
also one equal to the format held: DESIGN CHOICE (unsafe, log 50). A timer that has reached its new timeout expires before
keep-warm clear stops the camera: DESIGN CHOICE (unsafe, log 55). -/
def State.setCamera (s : State) (f : SetCamera) : State :=
  let t := { s with cam := { s.cam with settings := SetCamera.store f s.cam.settings } }
  let u := if f.format.isSome then t.formatChanged else t
  let v := if f.frameTimeout.isSome || f.wakeTimeout.isSome then u.cameraDue else u
  v.followCamera

/-- SET_CAMERA (R132). -/
def execSetCamera (body : Body SetCamera) (s : State) : Outcome :=
  .next (requestWith 0x60#8 body (fun f t =>
    if f.undefinedBit || !(f.format.all CameraFormat.legal) then (t, .plain .badValue)
    else if f.format.isSome = true ∧ t.cam.status ≠ .off then (t, .plain .notNow)
    else (t.setCamera f, .plain (doneOr (SetCamera.clamped f)))) s)

/-- A capture slot as GET CAMERA reports it (R133). -/
def Camera.slotReport (c : Camera) (k : Fin 3) : CaptureReport :=
  { state := (c.slots.sel k).state, place := if c.order.contains k then some (c.order.idxOf k) else none,
    holds := (c.slots.sel k).holds }

/-- The reply of GET CAMERA (R133). -/
def State.cameraReport (s : State) : CameraReport :=
  let c := s.cam
  { status := c.status, settings := c.settings, demand := s.comp.demand, runs := s.cameraRuns,
    timer := c.timer.map (· / Config.perMs), prevSig := c.prevSig, equalRun := c.equalRun, recovery := c.recovery,
    slots := [c.slotReport 0, c.slotReport 1, c.slotReport 2], newest := c.newest, shown := c.shown,
    lastWritten := c.lastWritten, good := c.good, short := c.short, frozen := c.frozen }

/-- GET_CAMERA (R133). -/
def execGetCamera (s : State) : Outcome :=
  .next (request 0x61#8 (fun t => (t, .now .done (.camera t.cameraReport))) s)

/-- CAMERA_FRAME_START (R118, R129). -/
def execCameraFrameStart (s : State) : Outcome := .next s.startCameraFrame

/-- CAMERA_LINE (R118, R125, R129); a line of a frame that is not being received is ignored. -/
def execCameraLine (line : List Byte) (s : State) : Outcome :=
  match s.cam.rx with
  | some rx => .next (s.captureLine rx line)
  | none => .next s

/-- CAMERA_FRAME_END (R118, R126, R129). -/
def execCameraFrameEnd (s : State) : Outcome := .next s.endCameraFrame

/-- WAKE_TIMEOUT (R122). -/
def execWakeTimeout (s : State) : Outcome := .next s.wakeExpired

/-- FRAME_TIMEOUT (R124, R126, R127). -/
def execFrameTimeout (s : State) : Outcome := .next s.frameExpired

end Sys2Proof.Machine
end

