-- ==== Sys2Proof/Machine/GuideCommands.lean ====
section
/-! DEFINITION. Guide commands: SET_GEOMETRY, GET_GEOMETRY, SET_GUIDE_STYLE, DRAWING_END (chapter 7). -/

namespace Sys2Proof.Machine

open Sys2Proof

/-- The geometry of a request, clamped (R136). -/
def SetGeometry.clamped (f : SetGeometry) : Geometry :=
  { ratio := clampNat 1000 2500 f.ratio, wheelbase := clampNat 2000 3500 f.wheelbase, overhang := clampNat 300 1500 f.overhang,
    track := clampNat 1200 2000 f.track, reach := clampNat 1000 5000 f.reach, homography := f.homography,
    marker1 := f.marker1, marker2 := f.marker2, marker3 := f.marker3, staticLines := f.staticLines }

/-- Whether a field of the geometry was clamped (R136). -/
def SetGeometry.adjusted (f : SetGeometry) : Bool :=
  let g := SetGeometry.clamped f
  decide (g.ratio ≠ f.ratio ∨ g.wheelbase ≠ f.wheelbase ∨ g.overhang ≠ f.overhang ∨ g.track ≠ f.track ∨ g.reach ≠ f.reach)

/-- Whether the markers rise and lie inside the guide reach (R136). -/
def Geometry.markersLawful (g : Geometry) : Bool :=
  decide (g.marker1 < g.marker2) && decide (g.marker2 < g.marker3) && decide (g.marker3 < g.reach)

/-- SET GEOMETRY takes effect (R136, R145). -/
def State.setGeometry (s : State) (g : Geometry) : State :=
  State.requestRecompute { s with guide := { s.guide with geometry := g, valid := true } }

/-- SET_GEOMETRY (R136). -/
def execSetGeometry (body : Body SetGeometry) (s : State) : Outcome :=
  .next (requestWith 0x68#8 body (fun f t =>
    if (SetGeometry.clamped f).markersLawful then
      (t.setGeometry (SetGeometry.clamped f), .plain (doneOr (SetGeometry.adjusted f)))
    else (t, .plain .badValue)) s)

/-- The name of a computation state (R144). -/
def GuideComp.name : GuideComp → GuideCompName
  | .idle => .idle
  | .waiting => .waiting
  | .drawing _ => .drawing
  | .flipPending _ _ => .flipPending

/-- The reply of GET GEOMETRY (R150). -/
def State.geometryReport (s : State) : GeometryReport :=
  let g := s.guide
  { geometry := g.geometry, valid := g.valid, style := g.style, active := g.active, comp := g.comp.name,
    recompute := g.recompute, lastAngle := g.lastAngle, front := g.front, content := g.content, holds := g.holds,
    camWidth := g.camWidth, camHeight := g.camHeight, onView := g.onView }

/-- GET_GEOMETRY (R150). -/
def execGetGeometry (s : State) : Outcome :=
  .next (request 0x69#8 (fun t => (t, .now .done (.geometry t.geometryReport))) s)

/-- The style with a request's colours stored (R137). -/
def SetGuideStyle.store (f : SetGuideStyle) (x : GuideStyle) : GuideStyle :=
  { track := f.track.getD x.track, marker1 := f.marker1.getD x.marker1, marker2 := f.marker2.getD x.marker2,
    marker3 := f.marker3.getD x.marker3, static := f.static.getD x.static }

/-- SET GUIDE STYLE takes effect (R137, R145). -/
def State.setStyle (s : State) (x : GuideStyle) : State :=
  State.requestRecompute { s with guide := { s.guide with style := x } }

/-- SET_GUIDE_STYLE (R137). -/
def execSetGuideStyle (body : Body SetGuideStyle) (s : State) : Outcome :=
  .next (requestWith 0x6A#8 body (fun f t =>
    if f.undefinedBit then (t, .plain .badValue)
    else (t.setStyle (SetGuideStyle.store f t.guide.style), .plain .done)) s)

/-- DRAWING_END (R146, R149). -/
def execDrawingEnd (s : State) : Outcome := .next s.endDrawing

end Sys2Proof.Machine
end

