-- ==== Sys2Proof/Machine/LayerCommands.lean ====
section
/-! DEFINITION. Layer commands: CREATE_LAYER to SET_CARD (chapter 4). -/

namespace Sys2Proof.Machine

open Sys2Proof

/-- A request that names a layer: a number above 23 is answered BAD_VALUE. -/
def withLayer (number : Nat) (s : State) (act : Fin 24 → State × Reply) : State × Reply :=
  match index 24 number with
  | none => (s, .plain .badValue)
  | some n => act n

/-- The layer CREATE LAYER describes, when its codes and size are legal (R76). -/
def CreateLayer.legal (f : CreateLayer) : Option Clearing :=
  match index 24 f.layer, f.kind, f.format with
  | some n, .legal kind, .legal format =>
    if (f.planes = 1 ∨ f.planes = 2) ∧ 1 ≤ f.width ∧ f.width ≤ 1280 ∧ 1 ≤ f.height ∧ f.height ≤ 800 then
      some ⟨n, kind, f.permitted, format, f.width, f.height, f.planes⟩
    else none
  | _, _, _ => none

/-- The pages of the run of a layer to be created (R6). -/
def Clearing.runPages (c : Clearing) : Nat := c.planes * planePages c.format c.width c.height

/-- CREATE_LAYER (R76): the run is placed and its clearing begins; the reply is sent once it has been cleared. -/
def execCreateLayer (body : Body CreateLayer) (s : State) : Outcome :=
  .next (requestWith 0x40#8 body (fun f t =>
    match CreateLayer.legal f with
    | none => (t, .plain .badValue)
    | some c =>
      if (t.layer c.layer).state ≠ .unused ∨ (t.fmm.runOf (.layer c.layer)).isSome = true then (t, .plain .notNow)
      else
        match allocate Fmm.placeHigh t (.layer c.layer) c.runPages with
        | .busy => (t, .plain .busy)
        | .noSpace => (t, .plain .noSpace)
        | .placed fmm => ({ t with fmm := fmm, layers := { t.layers with clearing := some c } }, .later)) s)

/-- The record of a new layer (R76). -/
def Clearing.newLayer (c : Clearing) : Layer :=
  { Layer.initial with
    state := .ready, kind := c.kind, permitted := c.permitted, format := c.format, width := c.width, height := c.height,
    planes := c.planes }

/-- The run of a new layer has been cleared (R76). -/
def State.finishClearing (s : State) (c : Clearing) : State :=
  let mem := match s.fmm.runOf (.layer c.layer) with
    | some r => s.mem.zeroPages r.base r.count
    | none => s.mem
  let t := State.putLayer { s with mem := mem } c.layer c.newLayer
  { t with layers := { t.layers with clearing := none } }

/-- LAYER_RUN_CLEARED (R76, R173): the layer is READY and CREATE LAYER is answered DONE; with no run being cleared it is no
event (log 2). -/
def execLayerRunCleared (s : State) : Outcome :=
  match s.layers.clearing with
  | none => .next s
  | some c => .next ((s.finishClearing c).answer 0x40#8 .done .empty)

/-- DELETE_LAYER (R90). -/
def execDeleteLayer (layer : Body Nat) (s : State) : Outcome :=
  .next (requestWith 0x41#8 layer (fun k t => withLayer k t fun n =>
    if (t.layer n).state = .unused then (t, .plain .done) else (t.deleteLayer n, .plain .done)) s)

/-- The placement part of an output. -/
def SetLayer.part (f : SetLayer) : Output → Option PlacementPart
  | .centre => f.centre
  | .rearL => f.rearL
  | .rearR => f.rearR

/-- Whether a placement part is a removal, or a placement with a z of 0 to 7 (R78). -/
def partLegal : Option PlacementPart → Bool
  | none => true
  | some .remove => true
  | some (.place _ _ z _ _) => decide (z ≤ 7)
  | some .undefined => false

/-- A placement with its x, y and alpha clamped (R78). -/
def placementOf (x y : Int) (z alpha : Nat) (visible : Bool) : Placement :=
  { x := clampInt (-2048) 2047 x, y := clampInt (-2048) 2047 y, z := z, alpha := clampNat 0 255 alpha, visible := visible }

/-- Whether a placement part has a value clamped (R78). -/
def partClamped : Option PlacementPart → Bool
  | some (.place x y _ alpha _) =>
    decide (clampInt (-2048) 2047 x ≠ x) || decide (clampInt (-2048) 2047 y ≠ y) || decide (clampNat 0 255 alpha ≠ alpha)
  | _ => false

/-- A placement after a part has been applied (R78). -/
def placementAfter (old : Option Placement) : Option PlacementPart → Option Placement
  | none => old
  | some .remove => none
  | some (.place x y z alpha visible) => some (placementOf x y z alpha visible)
  | some .undefined => old

/-- The placements of a layer after SET LAYER (R78). -/
def SetLayer.placements (f : SetLayer) (old : Table (Option Placement) 3) : Table (Option Placement) 3 :=
  ((old.upd 0 (placementAfter · f.centre)).upd 1 (placementAfter · f.rearL)).upd 2 (placementAfter · f.rearR)

/-- The kind of a layer after SET LAYER, when its code is legal (R78). -/
def SetLayer.kindAfter (f : SetLayer) (old : LayerKind) : Option LayerKind :=
  match f.kind with
  | none => some old
  | some (.legal k) => some k
  | some .undefined => none

/-- Whether a card designation names a layer. -/
def State.designated (s : State) (n : Fin 24) : Bool :=
  (List.finRange 3).any fun c => decide (s.layers.designations.sel c = some n)

/-- Whether a placement would be made on an output that already holds six (R78). -/
def State.outOfPlaces (s : State) (n : Fin 24) (f : SetLayer) (o : Output) : Bool :=
  ((s.layer n).placements.sel (outputNo o)).isNone &&
    (match SetLayer.part f o with
      | some (.place _ _ _ _ _) => decide (6 ≤ s.placedOn o)
      | _ => false)

/-- Whether a placement's z is that of another layer on an output (R78). -/
def State.depthTaken (s : State) (n : Fin 24) (f : SetLayer) (o : Output) : Bool :=
  match SetLayer.part f o with
  | some (.place _ _ z _ _) =>
    (List.finRange 24).any fun m => decide (m ≠ n) &&
      (match (s.layer m).placements.sel (outputNo o) with
        | some p => decide (p.z = z)
        | none => false)
  | _ => false

/-- SET LAYER on a layer that is not UNUSED: the refusal that comes first, or none (R78). -/
def State.setLayerRefusal (s : State) (n : Fin 24) (f : SetLayer) : Option Result :=
  match SetLayer.kindAfter f (s.layer n).kind with
  | none => some .badValue
  | some kind =>
    if !(outputs.all fun o => partLegal (SetLayer.part f o)) then some .badValue
    else if (kind = .card ∧ ((SetLayer.placements f (s.layer n).placements).toList.any Option.isSome) = true) ∨
        (kind = .menu ∧ (s.layer n).kind = .card ∧ s.designated n = true) then some .notNow
    else if outputs.any (s.outOfPlaces n f) then some .noSpace
    else if outputs.any (s.depthTaken n f) then some .conflict
    else none

/-- SET LAYER takes effect, and a pending flip follows when the layer goes off view (R78, R84). -/
def State.setLayer (s : State) (n : Fin 24) (f : SetLayer) : State :=
  let l := s.layer n
  State.settleFlips (s.putLayer n { l with
    kind := (SetLayer.kindAfter f l.kind).getD l.kind
    permitted := f.permitted.getD l.permitted
    placements := SetLayer.placements f l.placements })

/-- SET_LAYER (R78). -/
def execSetLayer (body : Body SetLayer) (s : State) : Outcome :=
  .next (requestWith 0x42#8 body (fun f t => withLayer f.layer t fun n =>
    if f.undefinedBit then (t, .plain .badValue)
    else if (t.layer n).state = .unused then (t, .plain .notNow)
    else
      match t.setLayerRefusal n f with
      | some r => (t, .plain r)
      | none => (t.setLayer n f, .plain (doneOr (outputs.any fun o => partClamped (SetLayer.part f o))))) s)

/-- The reply of GET LAYER (R93); an UNUSED layer gives the fixed part alone. -/
def State.layerReport (s : State) (n : Fin 24) : LayerReport :=
  let l := s.layer n
  let names (c : Fin 3) : Bool := decide (s.layers.designations.sel c = some n)
  let used := decide (l.state ≠ .unused)
  { layer := n.1, state := l.state, kind := l.kind, format := l.format, planes := l.planes, permitted := l.permitted,
    front := l.front, flipPending := l.flipPending, vinLoad := l.vinLoad.isSome, damaged := l.damaged,
    designations := ⟨#[names 0, names 1, names 2], rfl⟩,
    size := if used ∧ ¬(l.width = 0 ∧ l.height = 0) then some (l.width, l.height) else none,
    run := if used then (s.fmm.runOf (.layer n)).map fun r => (r.base, r.count) else none,
    mark := if used ∧ l.mark ≠ 0 then some l.mark else none,
    placements := if used then l.placements else Table.fill 3 none }

/-- GET_LAYER (R93). -/
def execGetLayer (layer : Body Nat) (s : State) : Outcome :=
  .next (requestWith 0x43#8 layer (fun k t => withLayer k t fun n => (t, .now .done (.layer (t.layerReport n)))) s)

/-- LOAD BLOCK's write, with the load mark raised and a full-plane load completed (R81, R82, R88). -/
def State.loadBlock (s : State) (n : Fin 24) (offset : Nat) (data : List Byte) : State :=
  let l := s.layer n
  let mark := raiseMark l.mark offset data.length
  let t := State.putLayer { s with mem := s.mem.write (pageAddress (s.planePage n l.target) + offset) data } n
    { l with mark := mark }
  if l.mark < l.planeSize ∧ mark = l.planeSize then (t.report (loadedEvent n)).repair n l.target else t

/-- LOAD_BLOCK (R82). -/
def execLoadBlock (body : Body LoadBlock) (s : State) : Outcome :=
  .next (requestWith 0x44#8 body (fun f t => withLayer f.layer t fun n =>
    let l := t.layer n
    if f.data = [] then (t, .plain .badValue)
    else if l.state = .unused then (t, .plain .notNow)
    else if l.planeSize < f.offset.toNat + f.data.length then (t, .plain .badValue)
    else if l.flipPending = true ∨ l.vinLoad.isSome = true then (t, .plain .busy)
    else (t.loadBlock n f.offset.toNat f.data, .plain .done)) s)

/-- PRESENT (R83). -/
def execPresent (layer : Body Nat) (s : State) : Outcome :=
  .next (requestWith 0x45#8 layer (fun k t => withLayer k t fun n =>
    let l := t.layer n
    if l.state = .unused ∨ l.planes ≠ 2 then (t, .plain .notNow)
    else if l.flipPending = true ∨ l.vinLoad.isSome = true then (t, .plain .busy)
    else
      let u := t.requestFlip n
      (u.1, .plain (if u.2 then .accepted else .done))) s)

/-- A card's designation takes a layer or becomes absent; a layer that goes off view performs its pending flip (R84, R92). -/
def State.designate (s : State) (c : Card) (n : Option (Fin 24)) : State :=
  State.settleFlips { s with layers := { s.layers with designations := s.layers.designations.put (cardNo c) n } }

/-- SET_CARD (R92). -/
def execSetCard (body : Body SetCard) (s : State) : Outcome :=
  .next (requestWith 0x46#8 body (fun f t =>
    match f.card, f.layer with
    | .undefined, _ => (t, .plain .badValue)
    | .legal c, none => (t.designate c none, .plain .done)
    | .legal c, some k =>
      withLayer k t fun n =>
        if (t.layer n).state = .unused ∨ (t.layer n).kind = .menu then (t, .plain .notNow)
        else (t.designate c (some n), .plain .done)) s)

end Sys2Proof.Machine
end

