-- ==== Sys2Proof/Machine/MemoryCommands.lean ====
section
/-! DEFINITION. Frame memory commands: READ_PAGE_MAP, GET_MEMORY_ERROR, CORRECTED_ERROR, UNCORRECTABLE_ERROR (chapter 1). -/

namespace Sys2Proof.Machine

open Sys2Proof

/-- READ_PAGE_MAP (R11). -/
def execReadPageMap (firstPage : Body Nat) (s : State) : Outcome :=
  .next (requestWith 0x10#8 firstPage (fun first t =>
    if Config.pages ≤ first then (t, .plain .badValue) else (t, .now .done (.pageMap (t.fmm.pageMap first)))) s)

/-- GET_MEMORY_ERROR (R23): the record is reported and cleared; the corrected-error count stays. -/
def execGetMemoryError (s : State) : Outcome :=
  .next (request 0x11#8 (fun t =>
    ({ t with fmm := { t.fmm with record := .clear } }, .now .done (.memoryError t.fmm.record t.fmm.corrected))) s)

/-- CORRECTED_ERROR (R12): a read is corrected in one bit and counted; the word is not rewritten. -/
def execCorrectedError (s : State) : Outcome :=
  .next { s with fmm := { s.fmm with corrected := satInc s.fmm.corrected } }

/-- UNCORRECTABLE_ERROR (R13, R21, R22): a reader finds a word that cannot be corrected. -/
def execUncorrectableError (reader : Reader) (word : BitVec 24) (s : State) : Outcome := .next (s.findError reader word.toNat)

end Sys2Proof.Machine
end

