-- ==== Sys2Proof/Machine/OutputCommands.lean ====
section
/-! DEFINITION. Output commands: SET_OUTPUT to SET_VIEW_POLICY, linger timers and refresh events (chapter 5). -/

namespace Sys2Proof.Machine

open Sys2Proof

/-- A request that names an output: a number above 2 is answered BAD_VALUE. -/
def withOutput (number : Nat) (s : State) (act : Output → State × Reply) : State × Reply :=
  match outputOf number with
  | none => (s, .plain .badValue)
  | some o => act o

/-- A host timing with its size clamped (R104). -/
def Timing.clamped (t : Timing) : Timing :=
  { width := clampNat 320 1280 t.width, height := clampNat 240 800 t.height, refresh := t.refresh }

/-- The picture source of a request over the one held, when its code is legal (R104). -/
def sourceAfter (old : Option StreamId) : Option (Coded (Option StreamId)) → Option (Option StreamId)
  | none => some old
  | some (.legal x) => some x
  | some .undefined => none

/-- The refresh rate of a request is 50 or 60, and mirror is not set for CENTRE (R104). -/
def SetOutput.codesLegal (f : SetOutput) (o : Output) : Bool :=
  (match f.timing with
    | some t => decide (t.refresh = 50 ∨ t.refresh = 60)
    | none => true) && !(decide (o = .centre) && decide (f.mirror = some true))

/-- An output record with the request's fields stored (R104). -/
def SetOutput.store (f : SetOutput) (source : Option StreamId) (r : OutputRec) : OutputRec :=
  { r with
    hostTiming := (f.timing.map Timing.clamped).getD r.hostTiming
    background := f.background.getD r.background
    source := source
    mirror := f.mirror.getD r.mirror }

/-- SET OUTPUT takes effect on an output, by its owner state (R104, R105). -/
def State.setOutput (s : State) (o : Output) (f : SetOutput) (source : Option StreamId) : State :=
  let r := SetOutput.store f source (s.out o)
  match r.owner, f.enabled with
  | .off, some true =>
    (s.setOwner o { r with enabled := true, owner := .normal, activeTiming := r.hostTiming } .host).refresh o
  | .normal, some false => (s.putOut o r).turnOff o .host
  | .camera, some true => s.putOut o { r with wasOff := false }
  | .linger, some true => s.putOut o { r with wasOff := false }
  | _, _ => s.putOut o r

/-- SET_OUTPUT (R104, R105). -/
def execSetOutput (body : Body SetOutput) (s : State) : Outcome :=
  .next (requestWith 0x50#8 body (fun f t => withOutput f.output t fun o =>
    match sourceAfter (t.out o).source f.source with
    | none => (t, .plain .badValue)
    | some source =>
      if f.undefinedBit || !(SetOutput.codesLegal f o) then (t, .plain .badValue)
      else if f.enabled = some false ∧ (t.out o).inView = true then (t, .plain .notNow)
      else (t.setOutput o f source, .plain (doneOr (decide (f.timing.map Timing.clamped ≠ f.timing))))) s)

/-- The reply of GET OUTPUT (R116). -/
def State.outputReport (s : State) (o : Output) : OutputReport :=
  let r := s.out o
  { enabled := r.enabled, hostTiming := r.hostTiming, activeTiming := r.activeTiming, background := r.background,
    source := r.source, mirror := r.mirror, owner := r.owner, reason := r.reason, wasOff := r.wasOff,
    linger := r.linger.map (· / Config.perMs), fit := r.lastFit, shownCard := r.shownCard, placements := s.placedOn o,
    policy := s.comp.policy, hysteresis := Config.hysteresis, suppression := if o = .centre then some s.comp.suppression else none }

/-- GET_OUTPUT (R116). -/
def execGetOutput (output : Body Nat) (s : State) : Outcome :=
  .next (requestWith 0x51#8 output (fun k t => withOutput k t fun o => (t, .now .done (.output (t.outputReport o)))) s)

/-- Whether a set of outputs is empty or has a member beyond the three (R101). -/
def Members.unlawful (m : Members) : Bool := m.undefinedMember || OutputSet.isEmpty m.set

/-- SHOW CAMERA for one member (R101). -/
def State.showOn (set : OutputSet) (s : State) (o : Output) : State :=
  let r := s.out o
  if set.has o = true ∧ r.owner = .normal then s.setOwner o { r with owner := .camera, reason := .request } .request else s

/-- SHOW_CAMERA (R101). -/
def execShowCamera (body : Body Members) (s : State) : Outcome :=
  .next (requestWith 0x52#8 body (fun f t =>
    if Members.unlawful f then (t, .plain .badValue)
    else if outputs.any fun o => f.set.has o && decide ((t.out o).owner = .off) then (t, .plain .notNow)
    else (outputs.foldl (State.showOn f.set) t, .plain .done)) s)

/-- RELEASE VIEW for one member (R102). -/
def State.releaseOn (set : OutputSet) (s : State) (o : Output) : State :=
  let r := s.out o
  if set.has o then
    (match r.owner with
      | .linger => s.afterView o .release
      | .camera => if r.reason = .request then s.toNormal o .release else s
      | .off => s
      | .normal => s)
  else s

/-- The members RELEASE VIEW refuses (R102). -/
def State.refusedOf (s : State) (set : OutputSet) : OutputSet :=
  outputsWhere fun o => set.has o && decide ((s.out o).owner = .camera) && decide ((s.out o).reason = .reverse)

/-- RELEASE_VIEW (R102). -/
def execReleaseView (body : Body Members) (s : State) : Outcome :=
  .next (requestWith 0x53#8 body (fun f t =>
    if Members.unlawful f then (t, .plain .badValue)
    else
      let refused := t.refusedOf f.set
      (outputs.foldl (State.releaseOn f.set) t,
        .now (if OutputSet.isEmpty refused then .done else .notNow) (.refused refused))) s)

/-- The view policy with a request's settings stored, clamped (R96). -/
def SetViewPolicy.store (f : SetViewPolicy) (p : ViewPolicy) : ViewPolicy :=
  { lingerTime := (clampOpt 0 10000 f.lingerTime).getD p.lingerTime
    lingerSpeed := (clampOpt 0 3000 f.lingerSpeed).getD p.lingerSpeed
    filmSpeedLimit := (clampOpt 0 1000 f.filmSpeedLimit).getD p.filmSpeedLimit
    fills := ((p.fills.upd 0 fun c => f.startingFill.getD c).upd 1 fun c => f.unavailableFill.getD c).upd 2 fun c =>
      f.suppressedFill.getD c }

/-- Whether a setting of the view policy was clamped (R96). -/
def SetViewPolicy.clamped (f : SetViewPolicy) : Bool :=
  decide (clampOpt 0 10000 f.lingerTime ≠ f.lingerTime ∨ clampOpt 0 3000 f.lingerSpeed ≠ f.lingerSpeed ∨
    clampOpt 0 1000 f.filmSpeedLimit ≠ f.filmSpeedLimit)

/-- A new linger speed: the LOST latch is tested against it, REV_EFF evaluated, and the speed test made (R44, R45, R96). -/
def State.lingerSpeedChanged (s : State) : State := ((s.latchTest).evalRev .bus).speedTest

/-- SET VIEW POLICY takes effect (R96): linger timers, then the linger speed where it changed, then the film speed limit. -/
def State.setPolicy (s : State) (f : SetViewPolicy) : State :=
  let p := SetViewPolicy.store f s.comp.policy
  let t := { s with comp := { s.comp with policy := p } }
  let u := if f.lingerTime.isSome then outputs.foldl State.lingerDue t else t
  let v := if p.lingerSpeed = s.comp.policy.lingerSpeed then u else u.lingerSpeedChanged
  if p.filmSpeedLimit = s.comp.policy.filmSpeedLimit then v else v.suppressionTest

/-- SET_VIEW_POLICY (R96). -/
def execSetViewPolicy (body : Body SetViewPolicy) (s : State) : Outcome :=
  .next (requestWith 0x54#8 body (fun f t =>
    if f.undefinedBit then (t, .plain .badValue)
    else (t.setPolicy f, .plain (doneOr (SetViewPolicy.clamped f)))) s)

/-- LINGER_TIMER_EXPIRY (R100); with no linger timer running it is no event (log 2). -/
def execLingerTimerExpiry (output : Output) (s : State) : Outcome := .next (s.lingerDue output)

/-- REFRESH_EVENT (R107). -/
def execRefreshEvent (output : Output) (s : State) : Outcome := .next (s.refresh output)

end Sys2Proof.Machine
end

