-- ==== Sys2Proof/Machine/SoundCommands.lean ====
section
/-! DEFINITION. Chime and mixer commands: PLAY_CHIME to SET_PARK_CADENCE, sample periods and ramp ticks (chapter 8). -/

namespace Sys2Proof.Machine

open Sys2Proof

/-- The sound of PLAY CHIME with its quantities clamped, when its codes are legal (R153, R154). -/
def soundOf : Coded ChimeSound → Option Sound
  | .undefined => none
  | .legal (.tone n on off level) =>
    some (.tone (clampNat 6 255 n) (clampNat 10 2000 on) (clampNat 0 2000 off) (clampNat 0 63 level))
  | .legal (.sample k level) => (index 16 k).map fun n => .sample n (clampNat 0 63 level)

/-- Whether a quantity of PLAY CHIME's sound was clamped (R153). -/
def soundClamped : Coded ChimeSound → Bool
  | .undefined => false
  | .legal (.tone n on off level) =>
    decide (clampNat 6 255 n ≠ n) || decide (clampNat 10 2000 on ≠ on) || decide (clampNat 0 2000 off ≠ off) ||
      decide (clampNat 0 63 level ≠ level)
  | .legal (.sample _ level) => decide (clampNat 0 63 level ≠ level)

/-- Whether an entry is a HOST entry with a sound (R153). -/
def ChimeEntry.sameSound (sound : Sound) (e : ChimeEntry) : Bool := decide (e.origin = .host) && decide (e.sound = sound)

/-- The larger of two repeat counts, 0 being larger than any other (R154). -/
def moreRepeats (a b : Nat) : Nat := if a = 0 ∨ b = 0 then 0 else max a b

/-- The higher of two classes (R154). -/
def higherClass (a b : ChimeClass) : ChimeClass := if classRank a < classRank b then b else a

/-- A merge (R154, first way): the entry takes the larger count and the higher class. -/
def ChimeEntry.merged (e : ChimeEntry) (cls : ChimeClass) (repeats : Nat) : ChimeEntry :=
  { e with repetitions := moreRepeats e.repetitions repeats, cls := higherClass e.cls cls }

/-- What follows an admission (R154): the preemption of R156 where an entry has newly become SAFETY and QUEUED, else the choice
of R155. -/
def State.afterAdmission (s : State) (newSafety : Bool) : State :=
  (if newSafety then s.preempt else s.chooseChime).syncPlaying

/-- The admission of a chime (R154): by merge, by a free entry, or by eviction; with the entry's id, or none for NO_SPACE. -/
def State.admitHost (s : State) (cls : ChimeClass) (sound : Sound) (repeats : Nat) (tag : Byte) : State × Option (Fin 8) :=
  match s.findEntry (ChimeEntry.sameSound sound) with
  | some i =>
    (match s.entry i with
      | some e =>
        let f := e.merged cls repeats
        ((s.putEntry i (some f)).afterAdmission (f.queued && decide (f.cls = .safety) && decide (e.cls ≠ .safety)), some i)
      | none => (s, none))
  | none =>
    match s.freeEntry with
    | some i => ((s.makeEntry i cls .host sound repeats tag).afterAdmission (decide (cls = .safety)), some i)
    | none =>
      match s.evictee with
      | some (i, e) =>
        if classRank e.cls < classRank cls then
          let t := ((s.endEntry i .evicted).makeEntry i cls .host sound repeats tag)
          (((if cls = .safety then t.preempt else t.chooseChime).retryPark).syncPlaying, some i)
        else (s, none)
      | none => (s, none)

/-- The refusal of a sound by the state of its sample, if any (R154). -/
def State.soundRefusal (s : State) : Sound → Option Result
  | .tone _ _ _ _ => none
  | .sample n _ =>
    match (s.sample n).state with
    | .undefined => some .badValue
    | .damaged => some .badValue
    | .loading => some .notNow
    | .ready => none

/-- PLAY_CHIME (R153 to R156). -/
def execPlayChime (body : Body PlayChime) (s : State) : Outcome :=
  .next (requestWith 0x70#8 body (fun f t =>
    match f.cls, soundOf f.sound with
    | .legal cls, some sound =>
      (match t.soundRefusal sound with
        | some r => (t, .plain r)
        | none =>
          let u := t.admitHost cls sound (clampNat 0 15 f.repeats) f.tag
          (match u.2 with
            | some i => (u.1, .now (doneOr (soundClamped f.sound || decide (clampNat 0 15 f.repeats ≠ f.repeats))) (.chimeEntry i))
            | none => (t, .plain .noSpace)))
    | _, _ => (t, .plain .badValue)) s)

/-- CANCEL_CHIME (R157). -/
def execCancelChime (body : Body CancelChime) (s : State) : Outcome :=
  .next (requestWith 0x71#8 body (fun f t =>
    match index 8 f.entry with
    | none => (t, .plain .badValue)
    | some i =>
      (match t.entry i with
        | none => (t, .plain .notNow)
        | some e =>
          if e.tag ≠ f.tag ∨ e.origin = .park then (t, .plain .notNow)
          else ((t.endEntry i .cancelled).afterEnd.syncPlaying, .plain .done))) s)

/-- The reply of GET CHIMES (R168). -/
def State.chimesReport (s : State) : ChimesReport :=
  { entries := s.chime.entries, samples := s.chime.samples, cadence := s.chime.cadence, mode := s.chime.mode,
    sensorGiven := s.chime.sensorGiven, nearest := s.nearest }

/-- GET_CHIMES (R168). -/
def execGetChimes (s : State) : Outcome :=
  .next (request 0x72#8 (fun t => (t, .now .done (.chimes t.chimesReport))) s)

/-- A request that names a sample slot: a number above 15 is answered BAD_VALUE. -/
def withSample (number : Nat) (s : State) (act : Fin 16 → State × Reply) : State × Reply :=
  match index 16 number with
  | none => (s, .plain .badValue)
  | some n => act n

/-- DEFINE_SAMPLE (R159). -/
def execDefineSample (body : Body DefineSample) (s : State) : Outcome :=
  .next (requestWith 0x73#8 body (fun f t => withSample f.slot t fun n =>
    if (t.sample n).state ≠ .undefined ∨ (t.fmm.runOf (.sample n)).isSome = true then (t, .plain .notNow)
    else
      let count := clampNat 1 192000 f.count
      match allocate Fmm.placeHigh t (.sample n) (samplePages count) with
      | .busy => (t, .plain .busy)
      | .noSpace => (t, .plain .noSpace)
      | .placed fmm =>
        (State.putSample { t with fmm := fmm } n { state := .loading, count := count, mark := 0 },
          .plain (doneOr (decide (count ≠ f.count))))) s)

/-- A sample slot as LOAD SAMPLE BLOCK finds it: a READY one first becomes LOADING with its mark at 0 (R160). -/
def Sample.reopened (x : Sample) : Sample := if x.state = .ready then { x with state := .loading, mark := 0 } else x

/-- A sample slot after a block of `n` bytes from an offset (R160). -/
def Sample.loaded (x : Sample) (offset n : Nat) : Sample :=
  let y := x.reopened
  let mark := raiseMark y.mark offset n
  { y with mark := mark, state := if mark = 2 * y.count then .ready else y.state }

/-- LOAD SAMPLE BLOCK takes effect (R160). -/
def State.loadSample (s : State) (n : Fin 16) (offset : Nat) (data : List Byte) : State :=
  let base := match s.fmm.runOf (.sample n) with
    | some r => r.base
    | none => 0
  State.putSample { s with mem := s.mem.write (pageAddress base + offset) data } n ((s.sample n).loaded offset data.length)

/-- LOAD_SAMPLE_BLOCK (R160). -/
def execLoadSampleBlock (body : Body LoadSample) (s : State) : Outcome :=
  .next (requestWith 0x74#8 body (fun f t => withSample f.slot t fun n =>
    let x := t.sample n
    if f.data = [] then (t, .plain .badValue)
    else if x.state = .undefined then (t, .plain .notNow)
    else if 2 * x.count < f.offset + f.data.length then (t, .plain .badValue)
    else if x.state = .ready ∧ t.sampleNamed n = true then (t, .plain .notNow)
    else (t.loadSample n f.offset f.data, .plain .done)) s)

/-- FREE_SAMPLE (R161). -/
def execFreeSample (slot : Body Nat) (s : State) : Outcome :=
  .next (requestWith 0x75#8 slot (fun k t => withSample k t fun n =>
    if (t.sample n).state = .undefined then (t, .plain .done)
    else if t.sampleNamed n then (t, .plain .notNow)
    else
      (State.putSample { t with fmm := t.fmm.free (.sample n) } n { state := .undefined, count := 0, mark := 0 }, .plain .done)) s)

/-- The film source of a request over the one held, when its code is legal (R165). -/
def filmAfter (old : Option StreamId) : Option (Coded (Option StreamId)) → Option (Option StreamId)
  | none => some old
  | some (.legal x) => some x
  | some .undefined => none

/-- The Mixer with a request's fields stored and the targets recomputed (R165, R166). -/
def SetMix.store (f : SetMix) (k : Fin 3) (film : Option StreamId) (m : Mixer) : Mixer :=
  Mixer.retarget { m with
    outs := m.outs.upd k fun x => { x with
      film := film
      filmVolume := (clampOpt 0 63 f.filmVolume).getD x.filmVolume
      chimeFlag := f.chimeFlag.getD x.chimeFlag
      chimeVolume := (clampOpt 0 63 f.chimeVolume).getD x.chimeVolume }
    duck := (clampOpt 0 30 f.duck).getD m.duck
    rev := (clampOpt 0 63 f.rev).getD m.rev }

/-- Whether a quantity of SET MIX was clamped (R165). -/
def SetMix.clamped (f : SetMix) : Bool :=
  decide (clampOpt 0 63 f.filmVolume ≠ f.filmVolume ∨ clampOpt 0 63 f.chimeVolume ≠ f.chimeVolume ∨
    clampOpt 0 30 f.duck ≠ f.duck ∨ clampOpt 0 63 f.rev ≠ f.rev)

/-- SET_MIX (R165). -/
def execSetMix (body : Body SetMix) (s : State) : Outcome :=
  .next (requestWith 0x76#8 body (fun f t =>
    match index 3 f.output with
    | none => (t, .plain .badValue)
    | some k =>
      match filmAfter (t.mixer.outs.sel k).film f.film with
      | none => (t, .plain .badValue)
      | some film =>
        if f.undefinedBit = true ∨ (k = 0 ∧ f.chimeFlag = some false) then (t, .plain .badValue)
        else ({ t with mixer := SetMix.store f k film t.mixer }, .plain (doneOr (SetMix.clamped f)))) s)

/-- GET_MIX (R168). -/
def execGetMix (s : State) : Outcome :=
  .next (request 0x77#8 (fun t => (t, .now .done
    (.mix { outs := t.mixer.outs, duck := t.mixer.duck, rev := t.mixer.rev, revEff := t.mixer.revEff,
            playing := t.mixer.playing }))) s)

/-- The park cadence with a request's fields stored, clamped (R164). -/
def SetParkCadence.store (f : SetParkCadence) (c : ParkCadence) : ParkCadence :=
  { near := (clampOpt 20 60 f.near).getD c.near, far := (clampOpt 100 250 f.far).getD c.far,
    halfPeriod := (clampOpt 6 255 f.halfPeriod).getD c.halfPeriod, level := (clampOpt 0 63 f.level).getD c.level }

/-- Whether a field of SET PARK CADENCE was clamped (R164). -/
def SetParkCadence.clamped (f : SetParkCadence) : Bool :=
  decide (clampOpt 20 60 f.near ≠ f.near ∨ clampOpt 100 250 f.far ≠ f.far ∨ clampOpt 6 255 f.halfPeriod ≠ f.halfPeriod ∨
    clampOpt 0 63 f.level ≠ f.level)

/-- SET_PARK_CADENCE (R164). -/
def execSetParkCadence (body : Body SetParkCadence) (s : State) : Outcome :=
  .next (requestWith 0x78#8 body (fun f t =>
    if f.undefinedBit then (t, .plain .badValue)
    else
      (State.parkEvent { t with chime := { t.chime with cadence := SetParkCadence.store f t.chime.cadence } },
        .plain (doneOr (SetParkCadence.clamped f)))) s)

/-- The film sample pairs of a sample period, gated by the streams as they stand (R69; log 19). -/
def State.filmPairs (s : State) : Table StereoIn 2 :=
  (s.pacer.film.put 0 (s.filmSamples .a (s.pacer.film.sel 0))).put 1 (s.filmSamples .b (s.pacer.film.sel 1))

/-- The sample of an output sample period is formed: the chime voice and the mix (R158, R167). -/
def State.formSample (s : State) : State := State.sampleFormed { s with mixer := s.mixer.mix s.filmPairs s.voice }

/-- OUTPUT_SAMPLE_PERIOD (R20, R158, R167): due consequences, the voice and the mix, then the position moves on. -/
def execOutputSamplePeriod (s : State) : Outcome := .next (((s.handDue .chime).formSample.advanceVoice).syncPlaying)

/-- MIXER_RAMP_TICK (R166). -/
def execMixerRampTick (s : State) : Outcome := .next { s with mixer := s.mixer.rampTick }

end Sys2Proof.Machine
end

