-- ==== Sys2Proof/Machine/Checks.lean ====
section
/-! DEFINITION. The self-test (section 10.4). -/

namespace Sys2Proof.Machine

open Sys2Proof

/-- Test 1 (R189): sector 0's check matches its bytes. -/
def State.test1 (s : State) : Bool := checkMatches (s.sector 0).bytes

/-- Test 2 (R189): sectors 1 to 4 are each VALID. -/
def State.test2 (s : State) : Bool := ([1, 2, 3, 4] : List (Fin 8)).all fun n => decide ((s.sector n).state = some .valid)

/-- Test 4 (R189): two sums by the Mixer's arithmetic. -/
def test4 : Bool :=
  decide (mixSum 0 63 32767 6 = 16422) && decide (mixSum 32767 0 32767 0 = 65532) &&
    decide (saturate (mixSum 32767 0 32767 0) = 32767) && decide (clipped (mixSum 32767 0 32767 0) = 1)

/-- The geometry of the worked case (section 7.7). -/
def workedGeometry : Geometry :=
  { ratio := 1600, wheelbase := 2700, overhang := 1000, track := 1600, reach := 3000,
    homography := ⟨#[BitVec.ofInt 24 (-500), 640#24, 640000#24, 0#24, 200#24, 800000#24, 0#24, 1#24, 1000#24], rfl⟩,
    marker1 := 1000, marker2 := 2000, marker3 := 2500, staticLines := false }

/-- Test 5 (R189): the left track point at d = 1000 of the worked case. -/
def test5 : Bool :=
  (workedGeometry.tracks (roadAngle workedGeometry.ratio 2400)).1.any fun p =>
    decide (p.marker = some 0) && decide (p.u = 403) && decide (p.v = 500)

/-- The self-test begins (R189, R190): tests 1 and 2 run, and when they pass, test 3 fixes its page set. -/
def State.beginSelfTest (s : State) : State :=
  let early := if !s.test1 then 1 else if !s.test2 then 2 else 0
  { s with selfTest := some ⟨early, if early = 0 then s.fmm.freePages else [], false, []⟩ }

/-- The first failing test of a self-test that ends, or 0 (R189). -/
def SelfTest.verdict (t : SelfTest) (readBackDiffers : Bool) : Nat :=
  if t.early ≠ 0 then t.early
  else if t.errorFound || readBackDiffers then 3
  else if !test4 then 4
  else if !test5 then 5
  else 0

/-- The self-test ends (R189, R190): the pages of test 3 keep the complement pattern, but for the words its last
read-back found uncorrectable (R21), and SELF_TEST_DONE is queued. -/
def State.endSelfTest (s : State) (readBackDiffers : Bool) : State :=
  match s.selfTest with
  | none => s
  | some t =>
    let u := State.handDue { s with mem := s.mem.patternPages t.pages t.late } .selfTest
    State.report { u with selfTest := none } (.selfTestDone (t.verdict readBackDiffers))

end Sys2Proof.Machine
end

