-- ==== Sys2Proof/Machine/StoreCommands.lean ====
section
/-! DEFINITION. Calibration Store and self-test commands: READ_SECTOR to SELF_TEST_END (sections 10.3 and 10.4). -/

namespace Sys2Proof.Machine

open Sys2Proof

/-- The bytes of a half of a sector (R186). -/
def halfOf (bytes : List Byte) (half : Fin 2) : List Byte := if half = 0 then bytes.take 128 else bytes.drop 128

/-- READ_SECTOR (R186). -/
def execReadSector (body : Body ReadSector) (s : State) : Outcome :=
  .next (requestWith 0x80#8 body (fun f t =>
    match index 8 f.sector, index 2 f.half with
    | some n, some half =>
      if t.store.op.isSome then (t, .plain .busy)
      else (t, .now .done (.sectorHalf (halfOf (t.sector n).bytes half) (t.sector n).state))
    | _, _ => (t, .plain .badValue)) s)

/-- A store operation begins (R187): the mark is set. -/
def State.beginStoreOp (s : State) (n : Fin 8) (kind : StoreOpKind) : State :=
  let t := s.putSector n { s.sector n with mark := true }
  { t with store := { t.store with op := some ⟨n, kind⟩ } }

/-- ERASE_SECTOR (R187). -/
def execEraseSector (sector : Body Nat) (s : State) : Outcome :=
  .next (requestWith 0x81#8 sector (fun k t =>
    match index 8 k with
    | none => (t, .plain .badValue)
    | some n =>
      if n = 0 then (t, .plain .notNow)
      else if t.store.op.isSome then (t, .plain .busy)
      else (t.beginStoreOp n .erase, .plain .accepted)) s)

/-- Whether every byte of a half is 0xFF (R187). -/
def halfErased (bytes : List Byte) (half : Fin 2) : Bool := (halfOf bytes half).all fun b => decide (b = 0xFF#8)

/-- WRITE_SECTOR (R187). -/
def execWriteSector (body : Body WriteSector) (s : State) : Outcome :=
  .next (requestWith 0x82#8 body (fun f t =>
    match index 8 f.sector, index 2 f.half with
    | some n, some half =>
      if n = 0 then (t, .plain .notNow)
      else if t.store.op.isSome then (t, .plain .busy)
      else if !halfErased (t.sector n).bytes half then (t, .plain .notNow)
      else (t.beginStoreOp n (.write half (f.data.take 128)), .plain .accepted)
    | _, _ => (t, .plain .badValue)) s)

/-- A sector's bytes after a completed operation (R187). -/
def StoreOpKind.complete (kind : StoreOpKind) (bytes : List Byte) : List Byte :=
  match kind with
  | .erase => Config.erasedSector
  | .write half data => if half = 0 then data ++ bytes.drop 128 else bytes.take 128 ++ data

/-- The name of an operation in STORE_DONE (R177). -/
def StoreOpKind.name : StoreOpKind → StoreOpName
  | .erase => .erase
  | .write _ _ => .write

/-- The end of a store operation (R187): the bytes changed, the mark cleared, the state determined, STORE_DONE queued. -/
def State.finishStoreOp (s : State) (op : StoreOp) : State :=
  let bytes := op.kind.complete (s.sector op.sector).bytes
  let state := sectorStateOf op.sector bytes false
  let t := s.putSector op.sector { bytes := bytes, mark := false, state := some state }
  State.report { t with store := { t.store with op := none } } (.storeDone op.sector op.kind.name state)

/-- STORE_OPERATION_END (R187); with no operation in flight it is no event (log 2). -/
def execStoreOperationEnd (s : State) : Outcome :=
  match s.store.op with
  | none => .next s
  | some op => .next (s.finishStoreOp op)

/-- RUN_SELF_TEST (R189). -/
def execRunSelfTest (s : State) : Outcome :=
  .next (request 0x83#8 (fun t =>
    if t.selfTest.isSome then (t, .plain .busy) else (t.beginSelfTest, .plain .accepted)) s)

/-- SELF_TEST_END (R189, R190): the operand says whether a word read back in test 3 differed from what was written. With no
self-test in flight it is no event (log 2). -/
def execSelfTestEnd (readBackDiffers : Bool) (s : State) : Outcome := .next (s.endSelfTest readBackDiffers)

end Sys2Proof.Machine
end

