-- ==== Sys2Proof/Machine/StreamCommands.lean ====
section
/-! DEFINITION. Stream commands: OPEN_STREAM to GET_STREAM, pace ticks, VIN frames and film sound (chapter 3). -/

namespace Sys2Proof.Machine

open Sys2Proof

/-- The streams in order. -/
def streamIds : List StreamId := [.a, .b]

/-- A request that names a stream: a stream number other than 0 or 1 is answered BAD_VALUE. -/
def withStream (number : Nat) (s : State) (act : StreamId → State × Reply) : State × Reply :=
  match streamOf number with
  | none => (s, .plain .badValue)
  | some i => act i

/-- The frame format of OPEN STREAM, when it is legal (R52). -/
def OpenStream.legal (f : OpenStream) : Option PixelFormat :=
  match f.format with
  | .undefined => none
  | .legal p =>
    if 16 ≤ f.width ∧ f.width ≤ 1280 ∧ 16 ≤ f.height ∧ f.height ≤ 720 ∧ (p = .yuv422 → f.width % 2 = 0) then some p else none

/-- A frame begun on a port before an OPEN STREAM was taken (R52). -/
def VinFrame.outdated : VinFrame → VinFrame
  | .started _ => .started true
  | f => f

/-- OPEN STREAM takes effect, with its run placed (R52). -/
def State.openStream (s : State) (i : StreamId) (f : OpenStream) (format : PixelFormat) (slots : Nat) (fmm : Fmm) : State :=
  let r := s.stream i
  let t := State.putStream { s with fmm := fmm } i { r with
    width := f.width
    height := f.height
    format := format
    slotCount := slots
    ring := List.replicate slots Slot.free
    lastWritten := slots - 1
    clock := 0
    fraction := 0
    lastStamp := none
    lastSequence := none
    endMark := false
    counters := .zero }
  (t.putVin i (t.vin i).outdated).setStreamState i .priming

/-- OPEN_STREAM (R52). -/
def execOpenStream (body : Body OpenStream) (s : State) : Outcome :=
  .next (requestWith 0x30#8 body (fun f t => withStream f.stream t fun i =>
    match OpenStream.legal f with
    | none => (t, .plain .badValue)
    | some p =>
      if (t.stream i).state ≠ .closed ∨ (t.fmm.runOf (.stream i)).isSome = true then (t, .plain .notNow)
      else
        let slots := clampNat 2 8 f.slots
        match allocate Fmm.placeLow t (.stream i) (slots * slotPages f.width f.height) with
        | .busy => (t, .plain .busy)
        | .noSpace => (t, .plain .noSpace)
        | .placed fmm => (t.openStream i f p slots fmm, .plain (doneOr (decide (slots ≠ f.slots))))) s)

/-- An output frame begun from a closed stream shows its background for its rest (R53). -/
def OutputFrame.withoutFilm (i : StreamId) (f : OutputFrame) : OutputFrame :=
  match f.base with
  | .film c j _ _ _ _ _ _ => if j = i then { f with base := .background c } else f
  | _ => f

/-- CLOSE STREAM takes effect (R53). The last accepted stamp and sequence stay until the next OPEN STREAM: DESIGN CHOICE (unsafe,
log 45). -/
def State.closeStream (s : State) (i : StreamId) : State :=
  let t := s.putVin i (s.vin i).dropPicture
  let u := State.putStream { t with fmm := t.fmm.free (.stream i) } i { t.stream i with
    slotCount := 0
    ring := []
    lastWritten := 0
    clock := 0
    fraction := 0
    endMark := false }
  (u.mapFrames (OutputFrame.withoutFilm i)).setStreamState i .closed

/-- CLOSE_STREAM (R53). -/
def execCloseStream (stream : Body Nat) (s : State) : Outcome :=
  .next (requestWith 0x31#8 stream (fun k t => withStream k t fun i =>
    if (t.stream i).state = .closed then (t, .plain .done) else (t.closeStream i, .plain .done)) s)

/-- SET_CLOCK (R58). -/
def execSetClock (body : Body SetClock) (s : State) : Outcome :=
  .next (requestWith 0x32#8 body (fun f t => withStream f.stream t fun i =>
    if (t.stream i).state = .closed then (t, .plain .notNow)
    else (t.putStream i { t.stream i with clock := f.value.toNat, fraction := 0 }, .plain .done)) s)

/-- RUN_STREAM (R54). -/
def execRunStream (stream : Body Nat) (s : State) : Outcome :=
  .next (requestWith 0x33#8 stream (fun k t => withStream k t fun i =>
    match (t.stream i).state with
    | .priming => (t.setStreamState i .running, .plain .done)
    | .paused => (t.setStreamState i .running, .plain .done)
    | .running => (t, .plain .done)
    | .starved => (t, .plain .done)
    | .closed => (t, .plain .notNow)) s)

/-- PAUSE_STREAM (R55). -/
def execPauseStream (stream : Body Nat) (s : State) : Outcome :=
  .next (requestWith 0x34#8 stream (fun k t => withStream k t fun i =>
    match (t.stream i).state with
    | .running => (t.setStreamState i .paused, .plain .done)
    | .starved => (t.setStreamState i .paused, .plain .done)
    | .paused => (t, .plain .done)
    | .priming => (t, .plain .notNow)
    | .closed => (t, .plain .notNow)) s)

/-- A slot after FLUSH STREAM: READY and FILLING slots are EMPTY (R56). -/
def Slot.emptied (x : Slot) : Slot := x.flushed.unfilled

/-- FLUSH_STREAM (R56). -/
def execFlushStream (stream : Body Nat) (s : State) : Outcome :=
  .next (requestWith 0x35#8 stream (fun k t => withStream k t fun i =>
    if (t.stream i).state = .closed then (t, .plain .notNow)
    else
      let r := t.stream i
      ((t.putVin i (t.vin i).dropPicture).putStream i { r with
        ring := r.ring.map Slot.emptied, lastStamp := none, lastSequence := none }, .plain .done)) s)

/-- SET_STREAM (R59). -/
def execSetStream (body : Body SetStream) (s : State) : Outcome :=
  .next (requestWith 0x36#8 body (fun f t => withStream f.stream t fun i =>
    if f.undefinedBit then (t, .plain .badValue)
    else
      let r := t.stream i
      let tolerance := f.tolerance.map (clampNat 0 100)
      let trim := f.trim.map (clampInt (-1000) 1000)
      (t.putStream i { r with tolerance := tolerance.getD r.tolerance, trim := trim.getD r.trim },
        .plain (doneOr (decide (tolerance ≠ f.tolerance ∨ trim ≠ f.trim))))) s)

/-- The reply of GET STREAM (R71). -/
def State.streamReport (s : State) (i : StreamId) : StreamReport :=
  let r := s.stream i
  { state := r.state, width := r.width, height := r.height, format := r.format, slotCount := r.slotCount, slots := r.ring,
    lastWritten := r.lastWritten, clock := r.clock, clockRunning := r.clockRunning, trim := r.trim, tolerance := r.tolerance,
    lastStamp := r.lastStamp, lastSequence := r.lastSequence, endMark := r.endMark, counters := r.counters,
    lead := s.lead i, audio := s.pacer.audio }

/-- GET_STREAM (R71). -/
def execGetStream (stream : Body Nat) (s : State) : Outcome :=
  .next (requestWith 0x37#8 stream (fun k t => withStream k t fun i =>
    (t, .now .done (.stream (t.streamReport i)))) s)

/-- A tick of the internal pace timer for one stream (R64): a pace event when it has no lead output. -/
def State.timerPace (s : State) (i : StreamId) : State := if (s.lead i).isNone then s.pace i timerWindow else s

/-- PACE_TIMER_TICK (R64); the timer does not tick before the entry into RUNNING (R72, log 2). DESIGN CHOICE (unsafe, log 39): of
two streams paced at one tick stream A comes first; the manual gives no order. -/
def execPaceTimerTick (s : State) : Outcome := .next (if s.pacer.paceTimer then streamIds.foldl State.timerPace s else s)

/-- The frame in progress on a port ends (R62, R86), at its frame end or at a frame start before it; a LAYER frame that a frame
start ends is short. -/
def State.endVinFrame (s : State) (port : StreamId) (early : Bool) : State :=
  let t := s.putVin port .idle
  match s.vin port with
  | .picture k short => t.endPicture port k short
  | .layer n lines autoPresent =>
    if !early && decide (lines = (s.layer n).height) then t.completeLayerFrame n autoPresent else t.failLayerFrame n
  | .idle => t
  | .started _ => t
  | .ignored => t

/-- VIN_FRAME_START (R62, R86). -/
def execVinFrameStart (port : StreamId) (s : State) : Outcome := .next ((s.endVinFrame port true).putVin port (.started false))

/-- What the tag line of a VIN frame says (R60, section 9.9): a bad tag, a LAYER frame, or a PICTURE frame of a stream. -/
inductive TagLine where
  | bad
  | layer (target width height : Nat) (autoPresent : Bool)
  | picture (target width height : Nat) (tag : FrameTag)
  deriving DecidableEq, Repr

/-- The tag record in the first 32 bytes of line 0 (R60, section 9.9). -/
def readTag (line : List Byte) : TagLine :=
  if line.length < 32 ∨ byteAt line 0 ≠ 0xC3#8 ∨ byteAt line 1 ≠ 0x5A#8 ∨
      (check (line.take 16)).toNat ≠ u16At line 16 then .bad
  else
    let flags := byteAt line 4
    let target := (byteAt line 3).toNat
    if byteAt line 2 = 1#8 then
      .picture target (u16At line 6) (u16At line 8)
        { stamp := u32At line 10, sequence := u16At line 14, discontinuity := flags.getLsbD 0, last := flags.getLsbD 1,
          autoPresent := flags.getLsbD 2 }
    else if byteAt line 2 = 2#8 then .layer target (u16At line 6) (u16At line 8) (flags.getLsbD 2)
    else .bad

/-- A frame on a port that carries no good tag for its stream (R60): counted unless the stream is CLOSED, or was when the frame
began (R52). -/
def State.refuseTag (s : State) (port : StreamId) (stale : Bool) : State :=
  if stale || decide ((s.stream port).state = .closed) then s.putVin port .ignored else s.badTag port

/-- The tag line decides what a frame is (R60). -/
def State.readTagLine (s : State) (port : StreamId) (stale : Bool) (line : List Byte) : State :=
  match readTag line with
  | .bad => s.refuseTag port stale
  | .layer target width height autoPresent => s.beginLayerFrame port target width height autoPresent
  | .picture target width height tag =>
    let r := s.stream port
    if stale || decide (r.state = .closed) then s.putVin port .ignored
    else if streamOf target = some port ∧ width = r.width ∧ height = r.height then s.selectSlot port tag
    else s.badTag port

/-- VIN_LINE0_COMPLETE (R60, R61, R85); with no frame start before it, it is no event of the port (log 2). -/
def execVinLine0Complete (port : StreamId) (line : List Byte) (s : State) : Outcome :=
  match s.vin port with
  | .started stale => .next (s.readTagLine port stale line)
  | .idle => .next s
  | .ignored => .next s
  | .picture _ _ => .next s
  | .layer _ _ _ => .next s

/-- VIN_PICTURE_LINE (R62, R86). -/
def execVinPictureLine (port : StreamId) (line : List Byte) (s : State) : Outcome :=
  match s.vin port with
  | .picture k false => .next (s.pictureLine port k line)
  | .picture _ true => .next s
  | .layer n lines autoPresent => .next (s.layerLine port n lines autoPresent line)
  | .started _ => .next s
  | .idle => .next s
  | .ignored => .next s

/-- VIN_FRAME_END (R62, R63, R86). -/
def execVinFrameEnd (port : StreamId) (s : State) : Outcome := .next (s.endVinFrame port false)

/-- SAI_SAMPLE_PERIOD (R69, R70): a complete sample period makes the input PRESENT, and the gated pairs are handed on. -/
def execSaiSamplePeriod (aLeft aRight bLeft bRight : BitVec 16) (s : State) : Outcome :=
  let t := { s with pacer := { s.pacer with audio := .present } }
  .next { t with pacer := { t.pacer with
    film := (t.pacer.film.put 0 (t.filmSamples .a ⟨aLeft, aRight⟩)).put 1 (t.filmSamples .b ⟨bLeft, bRight⟩) } }

/-- AUDIO_LOSS is raised for a stream that is not CLOSED (R70). -/
def State.reportAudioLoss (s : State) (i : StreamId) : State :=
  if (s.stream i).state = .closed then s else s.report (.streamTrouble i { audioLoss := true })

/-- AUDIO_INPUT_LOST (R69, R70); an input that is not PRESENT does not become LOST. DESIGN CHOICE (unsafe, log 39): the report for
stream A comes before that for stream B; the manual gives no order. -/
def execAudioInputLost (s : State) : Outcome :=
  if s.pacer.audio = .present then
    .next (streamIds.foldl State.reportAudioLoss { s with pacer := { s.pacer with
      audio := .lost, film := (s.pacer.film.put 0 ⟨0, 0⟩).put 1 ⟨0, 0⟩ } })
  else .next s

end Sys2Proof.Machine
end

