-- ==== Sys2Proof/Machine/VehicleCommands.lean ====
section
/-! DEFINITION. Vehicle commands: SET_RULE to SET_REVERSE_SOURCE, bus frames, ageing and the reverse line (chapter 2). -/

namespace Sys2Proof.Machine

open Sys2Proof

/-- SET_RULE (R39). -/
def execSetRule (body : Body SetRule) (s : State) : Outcome :=
  .next (requestWith 0x20#8 body (fun f t =>
    match SetRule.legal f with
    | none => (t, .plain .badValue)
    | some (n, i, order) =>
      if targetTaken t.recv.rules n i then (t, .plain .conflict)
      else
        (t.storeRule n (SetRule.toRule f i order), .plain (doneOr (decide (clampNat 20 2000 f.timeout ≠ f.timeout))))) s)

/-- CLEAR_RULE (R40). -/
def execClearRule (number : Body Nat) (s : State) : Outcome :=
  .next (requestWith 0x21#8 number (fun k t =>
    match index 16 k with
    | none => (t, .plain .badValue)
    | some n => (t.emptyRule n, .plain .done)) s)

/-- READ_RULES (R41): up to 8 rules from the first upward. -/
def execReadRules (first : Body Nat) (s : State) : Outcome :=
  .next (requestWith 0x22#8 first (fun k t =>
    match index 16 k with
    | none => (t, .plain .badValue)
    | some _ =>
      (t, .now .done (.rules
        ((((List.finRange 16).filter fun n => decide (k ≤ n.1)).take 8).map fun n => (n.1, t.rule n))))) s)

/-- The reply of READ SIGNALS (R42). -/
def State.signalsReport (s : State) : SignalsReport :=
  { signals := signals.map fun i => ⟨(s.signal i).value, (s.signal i).state, (s.signal i).age, s.ruleFor i⟩,
    rawLine := s.recv.rawLine, line := s.recv.line, busTerm := s.busTerm, lostLatch := s.recv.lostLatch,
    revEff := s.recv.revEff, source := s.recv.source, debounceTime := s.recv.debounceTime, goodFrames := s.recv.goodFrames,
    busErrors := s.recv.busErrors }

/-- READ_SIGNALS (R42). -/
def execReadSignals (s : State) : Outcome :=
  .next (request 0x23#8 (fun t => (t, .now .done (.signals t.signalsReport))) s)

/-- SET_REVERSE_SOURCE (R47). -/
def execSetReverseSource (body : Body SetReverseSource) (s : State) : Outcome :=
  .next (requestWith 0x24#8 body (fun f t =>
    match f.source with
    | .undefined => (t, .plain .badValue)
    | .legal src =>
      (t.takeReverseSource src (clampNat 10 200 f.debounceTime),
        .plain (doneOr (decide (clampNat 10 200 f.debounceTime ≠ f.debounceTime))))) s)

/-- BUS_FRAME (R25, R27). -/
def execBusFrame (reception : Reception) (s : State) : Outcome := .next (s.receive reception)

/-- SIGNAL_HELD (R36). -/
def execSignalHeld (sig : SignalId) (s : State) : Outcome := .next (s.signalHeld sig)

/-- SIGNAL_LOST (R36, R44). -/
def execSignalLost (sig : SignalId) (s : State) : Outcome := .next (s.signalLost sig)

/-- REV_IN_CHANGE (R43). -/
def execRevInChange (level : Bool) (s : State) : Outcome := .next (s.lineChange level)

/-- DEBOUNCE_EXPIRY (R43, R45, R46). -/
def execDebounceExpiry (s : State) : Outcome := .next s.debounced

end Sys2Proof.Machine
end

