-- ==== Sys2Proof/Machine/Dispatch.lean ====
section
/-! DEFINITION. The dispatch: one arm per command, each one direct call of its meaning. -/

namespace Sys2Proof.Machine

open Sys2Proof

def exec (i : Instr) (s : State) : Host.Outcome State Fault Refusal :=
  match i with
  | .powerOn => Sys2Proof.Machine.execPowerOn s
  | .resetLine => Sys2Proof.Machine.execResetLine s
  | .enterRunning => Sys2Proof.Machine.execEnterRunning s
  | .transactionBegin => Sys2Proof.Machine.execTransactionBegin s
  | .transactionEnd received => Sys2Proof.Machine.execTransactionEnd received s
  | .requestTaken frame => Sys2Proof.Machine.execRequestTaken frame s
  | .replyCollected => Sys2Proof.Machine.execReplyCollected s
  | .getIdentity => Sys2Proof.Machine.execGetIdentity s
  | .fetchNotices => Sys2Proof.Machine.execFetchNotices s
  | .resetPart body => Sys2Proof.Machine.execResetPart body s
  | .getState => Sys2Proof.Machine.execGetState s
  | .readPageMap firstPage => Sys2Proof.Machine.execReadPageMap firstPage s
  | .getMemoryError => Sys2Proof.Machine.execGetMemoryError s
  | .setRule body => Sys2Proof.Machine.execSetRule body s
  | .clearRule number => Sys2Proof.Machine.execClearRule number s
  | .readRules first => Sys2Proof.Machine.execReadRules first s
  | .readSignals => Sys2Proof.Machine.execReadSignals s
  | .setReverseSource body => Sys2Proof.Machine.execSetReverseSource body s
  | .openStream body => Sys2Proof.Machine.execOpenStream body s
  | .closeStream stream => Sys2Proof.Machine.execCloseStream stream s
  | .setClock body => Sys2Proof.Machine.execSetClock body s
  | .runStream stream => Sys2Proof.Machine.execRunStream stream s
  | .pauseStream stream => Sys2Proof.Machine.execPauseStream stream s
  | .flushStream stream => Sys2Proof.Machine.execFlushStream stream s
  | .setStream body => Sys2Proof.Machine.execSetStream body s
  | .getStream stream => Sys2Proof.Machine.execGetStream stream s
  | .createLayer body => Sys2Proof.Machine.execCreateLayer body s
  | .layerRunCleared => Sys2Proof.Machine.execLayerRunCleared s
  | .deleteLayer layer => Sys2Proof.Machine.execDeleteLayer layer s
  | .setLayer body => Sys2Proof.Machine.execSetLayer body s
  | .getLayer layer => Sys2Proof.Machine.execGetLayer layer s
  | .loadBlock body => Sys2Proof.Machine.execLoadBlock body s
  | .present layer => Sys2Proof.Machine.execPresent layer s
  | .setCard body => Sys2Proof.Machine.execSetCard body s
  | .setOutput body => Sys2Proof.Machine.execSetOutput body s
  | .getOutput output => Sys2Proof.Machine.execGetOutput output s
  | .showCamera body => Sys2Proof.Machine.execShowCamera body s
  | .releaseView body => Sys2Proof.Machine.execReleaseView body s
  | .setViewPolicy body => Sys2Proof.Machine.execSetViewPolicy body s
  | .setCamera body => Sys2Proof.Machine.execSetCamera body s
  | .getCamera => Sys2Proof.Machine.execGetCamera s
  | .setGeometry body => Sys2Proof.Machine.execSetGeometry body s
  | .getGeometry => Sys2Proof.Machine.execGetGeometry s
  | .setGuideStyle body => Sys2Proof.Machine.execSetGuideStyle body s
  | .playChime body => Sys2Proof.Machine.execPlayChime body s
  | .cancelChime body => Sys2Proof.Machine.execCancelChime body s
  | .getChimes => Sys2Proof.Machine.execGetChimes s
  | .defineSample body => Sys2Proof.Machine.execDefineSample body s
  | .loadSampleBlock body => Sys2Proof.Machine.execLoadSampleBlock body s
  | .freeSample slot => Sys2Proof.Machine.execFreeSample slot s
  | .setMix body => Sys2Proof.Machine.execSetMix body s
  | .getMix => Sys2Proof.Machine.execGetMix s
  | .setParkCadence body => Sys2Proof.Machine.execSetParkCadence body s
  | .readSector body => Sys2Proof.Machine.execReadSector body s
  | .eraseSector sector => Sys2Proof.Machine.execEraseSector sector s
  | .writeSector body => Sys2Proof.Machine.execWriteSector body s
  | .storeOperationEnd => Sys2Proof.Machine.execStoreOperationEnd s
  | .runSelfTest => Sys2Proof.Machine.execRunSelfTest s
  | .selfTestEnd readBackDiffers => Sys2Proof.Machine.execSelfTestEnd readBackDiffers s
  | .busFrame reception => Sys2Proof.Machine.execBusFrame reception s
  | .signalHeld sig => Sys2Proof.Machine.execSignalHeld sig s
  | .signalLost sig => Sys2Proof.Machine.execSignalLost sig s
  | .revInChange level => Sys2Proof.Machine.execRevInChange level s
  | .debounceExpiry => Sys2Proof.Machine.execDebounceExpiry s
  | .lingerTimerExpiry output => Sys2Proof.Machine.execLingerTimerExpiry output s
  | .refreshEvent output => Sys2Proof.Machine.execRefreshEvent output s
  | .drawingEnd => Sys2Proof.Machine.execDrawingEnd s
  | .paceTimerTick => Sys2Proof.Machine.execPaceTimerTick s
  | .vinFrameStart port => Sys2Proof.Machine.execVinFrameStart port s
  | .vinLine0Complete port line => Sys2Proof.Machine.execVinLine0Complete port line s
  | .vinPictureLine port line => Sys2Proof.Machine.execVinPictureLine port line s
  | .vinFrameEnd port => Sys2Proof.Machine.execVinFrameEnd port s
  | .saiSamplePeriod aLeft aRight bLeft bRight => Sys2Proof.Machine.execSaiSamplePeriod aLeft aRight bLeft bRight s
  | .audioInputLost => Sys2Proof.Machine.execAudioInputLost s
  | .outputSamplePeriod => Sys2Proof.Machine.execOutputSamplePeriod s
  | .mixerRampTick => Sys2Proof.Machine.execMixerRampTick s
  | .cameraFrameStart => Sys2Proof.Machine.execCameraFrameStart s
  | .cameraLine line => Sys2Proof.Machine.execCameraLine line s
  | .cameraFrameEnd => Sys2Proof.Machine.execCameraFrameEnd s
  | .wakeTimeout => Sys2Proof.Machine.execWakeTimeout s
  | .frameTimeout => Sys2Proof.Machine.execFrameTimeout s
  | .correctedError => Sys2Proof.Machine.execCorrectedError s
  | .uncorrectableError reader word => Sys2Proof.Machine.execUncorrectableError reader word s

end Sys2Proof.Machine
end

