-- ==== Sys2Proof/Machine/Time.lean ====
section
/-! DEFINITION. The passing of 100 µs, for what the table has no row for: the stream clocks and the elapsed timers that requests
read (log 1). -/

namespace Sys2Proof.Machine

open Sys2Proof

/-- A running timer after 100 µs more. -/
def tickTimer (t : Option Nat) : Option Nat := t.map (· + 1)

/-- A signal's timer after 100 µs more (R36). -/
def Signal.tick (x : Signal) : Signal := { x with timer := tickTimer x.timer }

/-- An output's linger timer after 100 µs more (R95). -/
def OutputRec.tick (r : OutputRec) : OutputRec := { r with linger := tickTimer r.linger }

/-- 100 µs pass on an empty queue: the stream clocks advance (R57), and the running signal, linger, camera and debounce timers.
DESIGN CHOICE (log 1): no expiry happens here; each is a command of its own. -/
def State.tick (s : State) : State :=
  { s with
    pacer := { s.pacer with streams := (s.pacer.streams.upd 0 Stream.tick).upd 1 Stream.tick }
    recv := { s.recv with
      signals := (List.finRange 7).foldl (fun t i => t.upd i Signal.tick) s.recv.signals
      debounce := tickTimer s.recv.debounce }
    comp := { s.comp with
      outputs := ((s.comp.outputs.upd 0 OutputRec.tick).upd 1 OutputRec.tick).upd 2 OutputRec.tick }
    cam := { s.cam with timer := tickTimer s.cam.timer } }

/-- An idle step: 100 µs pass, and in a start-up the step under way may end in them (R182). Whether it does is a free value
(log 58). -/
def State.idle (s : State) : State :=
  match s.stepUnderWay with
  | none => s.tick
  | some _ =>
    let t := { s.tick with free := s.free + 1 }
    if Config.startUpStepEnds s.free then t.endStep else t

end Sys2Proof.Machine
end

