-- ==== Sys2Proof/Machine/Scan.lean ====
section
/-! DEFINITION. What a display output sends: the pixels of the output frame under way (R108 to R111, R114, R115). They are a
view of State: nothing is stored for them but the frame as decided at its refresh event (log 15). -/

namespace Sys2Proof.Machine

open Sys2Proof

/-- A colour component of 0 to 255, clamped (R110). -/
def component (x : Int) : Byte := BitVec.ofNat 8 (clampInt 0 255 x).toNat

/-- The RGB of a YUV422 pixel (R110). -/
def yuvColour (y u v : Nat) : Rgb :=
  let yd : Int := (y : Int) - 16
  let ud : Int := (u : Int) - 128
  let vd : Int := (v : Int) - 128
  { red := component ((298 * yd + 409 * vd + 128) >>> 8),
    green := component ((298 * yd - 100 * ud - 208 * vd + 128) >>> 8),
    blue := component ((298 * yd + 516 * ud + 128) >>> 8) }

/-- The RGB of an RGB565 pixel (R110). -/
def rgb565Colour (p : Nat) : Rgb :=
  { red := BitVec.ofNat 8 (p / 2048 % 32 * 255 / 31), green := BitVec.ofNat 8 (p / 32 % 64 * 255 / 63),
    blue := BitVec.ofNat 8 (p % 32 * 255 / 31) }

/-- The 16-bit value at an address of frame memory. -/
def FrameMemory.read16 (m : FrameMemory) (a : Nat) : Nat := be16 (m.read a) (m.read (a + 1))

/-- The colour of a picture pixel (R110). -/
def FrameMemory.pictureColour (m : FrameMemory) (page width : Nat) (format : PixelFormat) (col row : Nat) : Rgb :=
  let a := pageAddress page + (row * width + col) * 2
  match format with
  | .rgb565 => rgb565Colour (m.read16 a)
  | .yuv422 =>
    let pair := pageAddress page + (row * width + col / 2 * 2) * 2
    yuvColour (m.read a).toNat (m.read (pair + 1)).toNat (m.read (pair + 3)).toNat

/-- The picture pixel an output pixel takes, when it is covered (R109). -/
def Fit.source (f : Fit) (ws hs x y : Nat) : Option (Nat × Nat) :=
  if f.ox ≤ x ∧ x < f.ox + f.sw ∧ f.oy ≤ y ∧ y < f.oy + f.sh then
    some ((x - f.ox) * ws / f.sw, (y - f.oy) * hs / f.sh)
  else none

/-- The alpha and colour of an ARGB1555 pixel (R75, R111). -/
def argb1555Colour (p : Nat) : Nat × Rgb :=
  (if p / 32768 = 0 then 0 else 255,
    { red := BitVec.ofNat 8 (p / 1024 % 32 * 255 / 31), green := BitVec.ofNat 8 (p / 32 % 32 * 255 / 31),
      blue := BitVec.ofNat 8 (p % 32 * 255 / 31) })

/-- The alpha and colour of a layer pixel (R75, R111). -/
def FrameMemory.layerColour (m : FrameMemory) (format : LayerFormat) (a : Nat) : Nat × Rgb :=
  match format with
  | .argb8888 => ((m.read a).toNat, { red := m.read (a + 1), green := m.read (a + 2), blue := m.read (a + 3) })
  | .argb1555 => argb1555Colour (m.read16 a)

/-- One component blended with alpha `a` (R111). -/
def blendByte (a : Nat) (layer below : Byte) : Byte := BitVec.ofNat 8 ((layer.toNat * a + below.toNat * (255 - a)) / 255)

/-- A colour blended over another (R111). -/
def blend (a : Nat) (layer below : Rgb) : Rgb :=
  { red := blendByte a layer.red below.red, green := blendByte a layer.green below.green,
    blue := blendByte a layer.blue below.blue }

/-- A layer laid over the colour below at an output pixel (R111). -/
def LayerDraw.over (d : LayerDraw) (m : FrameMemory) (x y : Nat) (below : Rgb) : Rgb :=
  let c : Int := (x : Int) - d.x
  let r : Int := (y : Int) - d.y
  if 0 ≤ c ∧ c < d.width ∧ 0 ≤ r ∧ r < d.height then
    let p := m.layerColour d.format (pageAddress d.page + (r.toNat * d.width + c.toNat) * LayerFormat.bytes d.format)
    blend (p.1 * d.alpha / 255) p.2 below
  else below

/-- The guide overlay over the colour below at a pixel of the camera picture (R114, R137). -/
def overlayOver (m : FrameMemory) (plane : Fin 2) (width col row : Nat) (below : Rgb) : Rgb :=
  let p := argb1555Colour (m.read16 (pageAddress (guidePage plane) + (row * width + col) * 2))
  if p.1 = 0 then below else p.2

/-- The colour of what lies below the layers at an output pixel (R108, R113 to R115). -/
def FrameBase.colour (b : FrameBase) (m : FrameMemory) (x y : Nat) : Rgb :=
  match b with
  | .background c => c
  | .film c _ _ page width height format f =>
    (match f.source width height x y with
      | some (col, row) => m.pictureColour page width format col row
      | none => c)
  | .card _ fill graphic =>
    (match graphic with
      | some d => d.over m x y fill
      | none => fill)
  | .camera slot width height f overlay =>
    (match f.source width height x y with
      | some (col, row) =>
        let below : Rgb := match slot with
          | some k => m.pictureColour (capturePage k) width .yuv422 col row
          | none => ⟨0, 0, 0⟩
        (match overlay with
          | some p => overlayOver m p width col row below
          | none => below)
      | none => ⟨0, 0, 0⟩)

/-- A pixel of an output frame (R108, R111, R114). -/
def OutputFrame.colour (f : OutputFrame) (m : FrameMemory) (x y : Nat) : Rgb :=
  f.layers.foldl (fun below d => d.over m x y below) (f.base.colour m x y)

/-- The pixel an output sends at a column and a line, when a frame is under way and they lie in it. -/
def State.pixel (s : State) (o : Output) (x y : Nat) : Option Rgb :=
  match (s.out o).frame with
  | some f => if x < f.timing.width ∧ y < f.timing.height then some (f.colour s.mem x y) else none
  | none => none

end Sys2Proof.Machine
end

