-- ==== Sys2Proof/Safety.lean ====
section
/-! DEFINITION. What claims about the part are stated in: which request a command is, what a command may change, and the laws
of the manual that hold of every state a run reaches. -/

namespace Sys2Proof.Machine

open Sys2Proof

/-! ## Requests -/

/-- The request code of a command, for the commands that are requests (section 9.9). -/
def requestCode : Instr → Option Byte
  | .getIdentity => some 0x01#8
  | .fetchNotices => some 0x02#8
  | .resetPart _ => some 0x03#8
  | .getState => some 0x04#8
  | .readPageMap _ => some 0x10#8
  | .getMemoryError => some 0x11#8
  | .setRule _ => some 0x20#8
  | .clearRule _ => some 0x21#8
  | .readRules _ => some 0x22#8
  | .readSignals => some 0x23#8
  | .setReverseSource _ => some 0x24#8
  | .openStream _ => some 0x30#8
  | .closeStream _ => some 0x31#8
  | .setClock _ => some 0x32#8
  | .runStream _ => some 0x33#8
  | .pauseStream _ => some 0x34#8
  | .flushStream _ => some 0x35#8
  | .setStream _ => some 0x36#8
  | .getStream _ => some 0x37#8
  | .createLayer _ => some 0x40#8
  | .deleteLayer _ => some 0x41#8
  | .setLayer _ => some 0x42#8
  | .getLayer _ => some 0x43#8
  | .loadBlock _ => some 0x44#8
  | .present _ => some 0x45#8
  | .setCard _ => some 0x46#8
  | .setOutput _ => some 0x50#8
  | .getOutput _ => some 0x51#8
  | .showCamera _ => some 0x52#8
  | .releaseView _ => some 0x53#8
  | .setViewPolicy _ => some 0x54#8
  | .setCamera _ => some 0x60#8
  | .getCamera => some 0x61#8
  | .setGeometry _ => some 0x68#8
  | .getGeometry => some 0x69#8
  | .setGuideStyle _ => some 0x6A#8
  | .playChime _ => some 0x70#8
  | .cancelChime _ => some 0x71#8
  | .getChimes => some 0x72#8
  | .defineSample _ => some 0x73#8
  | .loadSampleBlock _ => some 0x74#8
  | .freeSample _ => some 0x75#8
  | .setMix _ => some 0x76#8
  | .getMix => some 0x77#8
  | .setParkCadence _ => some 0x78#8
  | .readSector _ => some 0x80#8
  | .eraseSector _ => some 0x81#8
  | .writeSector _ => some 0x82#8
  | .runSelfTest => some 0x83#8
  | _ => none

/-- Whether a body is shorter than the fields its request carries. -/
def Body.isShort {α : Type} : Body α → Bool
  | .short => true
  | .whole _ => false

/-- Whether a command is a request with a body shorter than its fields (R173). -/
def shortRequest : Instr → Bool
  | .readPageMap b | .clearRule b | .readRules b | .closeStream b | .runStream b | .pauseStream b | .flushStream b
  | .getStream b | .deleteLayer b | .getLayer b | .present b | .getOutput b | .freeSample b | .eraseSector b => Body.isShort b
  | .setRule b => Body.isShort b
  | .setReverseSource b => Body.isShort b
  | .openStream b => Body.isShort b
  | .setClock b => Body.isShort b
  | .setStream b => Body.isShort b
  | .createLayer b => Body.isShort b
  | .setLayer b => Body.isShort b
  | .loadBlock b => Body.isShort b
  | .setCard b => Body.isShort b
  | .setOutput b => Body.isShort b
  | .showCamera b => Body.isShort b
  | .releaseView b => Body.isShort b
  | .setViewPolicy b => Body.isShort b
  | .setCamera b => Body.isShort b
  | .setGeometry b => Body.isShort b
  | .setGuideStyle b => Body.isShort b
  | .playChime b => Body.isShort b
  | .cancelChime b => Body.isShort b
  | .defineSample b => Body.isShort b
  | .loadSampleBlock b => Body.isShort b
  | .setMix b => Body.isShort b
  | .setParkCadence b => Body.isShort b
  | .readSector b => Body.isShort b
  | .writeSector b => Body.isShort b
  | _ => false

/-! ## Pieces of the state, and what a command may change -/

/-- The pieces of the state that a frame speaks of. -/
inductive Piece
  | part | steps | requests | notices
  | rules | signals | reverse | lostLatch | revEff | busCounts
  | pageMap | consequences | errorRecord | memory
  | rings | vin | audioIn | paceTimer
  | layers | designations | clearing
  | owners | outSettings | outRun | policy | suppression | demand
  | camSettings | camera | capture
  | geometry | guide
  | entries | samples | cadence | park | mixer
  | store | selfTest | free | queue
  deriving DecidableEq, Repr

/-- Two states agree on a piece. -/
def Piece.same (s t : State) : Piece → Prop
  | .part => t.part = s.part
  | .steps => t.steps = s.steps
  | .requests => t.link.requests = s.link.requests ∧ t.link.notTaken = s.link.notTaken ∧ t.link.badFrames = s.link.badFrames ∧
      t.link.transaction = s.link.transaction ∧ t.link.lastAnswer = s.link.lastAnswer
  | .notices => t.link.notices = s.link.notices
  | .rules => t.recv.rules = s.recv.rules
  | .signals => t.recv.signals = s.recv.signals
  | .reverse => t.recv.rawLine = s.recv.rawLine ∧ t.recv.line = s.recv.line ∧ t.recv.debounce = s.recv.debounce ∧
      t.recv.debounceTime = s.recv.debounceTime ∧ t.recv.source = s.recv.source
  | .lostLatch => t.recv.lostLatch = s.recv.lostLatch
  | .revEff => t.recv.revEff = s.recv.revEff
  | .busCounts => t.recv.bitRate = s.recv.bitRate ∧ t.recv.goodFrames = s.recv.goodFrames ∧ t.recv.busErrors = s.recv.busErrors
  | .pageMap => t.fmm.runs = s.fmm.runs ∧ t.fmm.lowTop = s.fmm.lowTop ∧ t.fmm.highBottom = s.fmm.highBottom
  | .consequences => t.fmm.pending = s.fmm.pending
  | .errorRecord => t.fmm.record = s.fmm.record ∧ t.fmm.corrected = s.fmm.corrected
  | .memory => t.mem = s.mem
  | .rings => t.pacer.streams = s.pacer.streams
  | .vin => t.pacer.vin = s.pacer.vin
  | .audioIn => t.pacer.audio = s.pacer.audio ∧ t.pacer.film = s.pacer.film
  | .paceTimer => t.pacer.paceTimer = s.pacer.paceTimer
  | .layers => t.layers.layers = s.layers.layers
  | .designations => t.layers.designations = s.layers.designations
  | .clearing => t.layers.clearing = s.layers.clearing
  | .owners => ∀ o, (t.out o).enabled = (s.out o).enabled ∧ (t.out o).owner = (s.out o).owner ∧
      (t.out o).reason = (s.out o).reason ∧ (t.out o).wasOff = (s.out o).wasOff
  | .outSettings => ∀ o, (t.out o).hostTiming = (s.out o).hostTiming ∧ (t.out o).background = (s.out o).background ∧
      (t.out o).source = (s.out o).source ∧ (t.out o).mirror = (s.out o).mirror
  | .outRun => ∀ o, (t.out o).activeTiming = (s.out o).activeTiming ∧ (t.out o).linger = (s.out o).linger ∧
      (t.out o).frame = (s.out o).frame ∧ (t.out o).shownCard = (s.out o).shownCard ∧ (t.out o).lastFit = (s.out o).lastFit
  | .policy => t.comp.policy = s.comp.policy
  | .suppression => t.comp.suppression = s.comp.suppression
  | .demand => t.comp.demand = s.comp.demand
  | .camSettings => t.cam.settings = s.cam.settings
  | .camera => t.cam.status = s.cam.status ∧ t.cam.timer = s.cam.timer ∧ t.cam.prevSig = s.cam.prevSig ∧
      t.cam.equalRun = s.cam.equalRun ∧ t.cam.recovery = s.cam.recovery ∧ t.cam.frozen = s.cam.frozen ∧
      t.cam.good = s.cam.good ∧ t.cam.short = s.cam.short
  | .capture => t.cam.slots = s.cam.slots ∧ t.cam.order = s.cam.order ∧ t.cam.shown = s.cam.shown ∧
      t.cam.lastWritten = s.cam.lastWritten ∧ t.cam.rx = s.cam.rx
  | .geometry => t.guide.geometry = s.guide.geometry ∧ t.guide.valid = s.guide.valid ∧ t.guide.style = s.guide.style
  | .guide => t.guide.comp = s.guide.comp ∧ t.guide.recompute = s.guide.recompute ∧ t.guide.lastAngle = s.guide.lastAngle ∧
      t.guide.front = s.guide.front ∧ t.guide.content = s.guide.content ∧ t.guide.camWidth = s.guide.camWidth ∧
      t.guide.camHeight = s.guide.camHeight ∧ t.guide.camStatus = s.guide.camStatus ∧ t.guide.demand = s.guide.demand ∧
      t.guide.holds = s.guide.holds ∧ t.guide.onView = s.guide.onView
  | .entries => t.chime.entries = s.chime.entries ∧ t.chime.nextAge = s.chime.nextAge
  | .samples => t.chime.samples = s.chime.samples
  | .cadence => t.chime.cadence = s.chime.cadence
  | .park => t.chime.mode = s.chime.mode ∧ t.chime.sensorGiven = s.chime.sensorGiven
  | .mixer => t.mixer = s.mixer
  | .store => t.store = s.store
  | .selfTest => t.selfTest = s.selfTest
  | .free => t.free = s.free
  | .queue => t.pending = s.pending

/-- A state differs from another at most in the pieces listed. -/
def Changes (ps : List Piece) (s t : State) : Prop := ∀ p, p ∉ ps → Piece.same s t p

/-- What the choice among chimes and the park chime may change. -/
def chimePieces : List Piece := [.entries, .park, .mixer, .notices]

/-- What handing over a memory error consequence may change (R16 to R20). -/
def handPieces : List Piece := [.consequences, .rings, .layers, .capture, .guide, .samples] ++ chimePieces

/-- What follows an owner change (R97): the notice, flips, camera demand, the camera and the Generator. -/
def ownerPieces : List Piece := [.notices, .layers, .demand, .camera, .capture, .guide, .consequences]

/-- What a change of views may change. -/
def viewPieces : List Piece := [.owners, .outRun] ++ ownerPieces ++ handPieces

/-- What a refresh event may change (R107). -/
def refreshPieces : List Piece := [.outRun, .free] ++ handPieces

/-- What a change of REV_EFF may change (R46). -/
def reversePieces : List Piece := [.revEff, .free] ++ viewPieces

/-- What a state change of a signal may change (R37, R38). -/
def signalPieces : List Piece := [.signals, .suppression] ++ reversePieces

/-- What the camera state machine may change. -/
def cameraPieces : List Piece := [.camera, .guide, .consequences, .notices]

/-- What a start-up may change: everything but the commands that wait. -/
def startPieces : List Piece :=
  [.part, .steps, .requests, .notices, .rules, .signals, .reverse, .lostLatch, .revEff, .busCounts, .pageMap, .consequences,
   .errorRecord, .memory, .rings, .vin, .audioIn, .paceTimer, .layers, .designations, .clearing, .owners, .outSettings, .outRun,
   .policy, .suppression, .demand, .camSettings, .camera, .capture, .geometry, .guide, .entries, .samples, .cadence, .park,
   .mixer, .store, .selfTest, .free]

/-- What the later steps of a start-up may change (R182, R183): the sector states, and what the blocks load. -/
def loadPieces : List Piece :=
  [.store, .rules, .reverse, .busCounts, .lostLatch, .outSettings, .policy, .camSettings, .geometry, .cadence] ++ signalPieces

/-- The pieces a command may change. Everything else stays as it was, whatever the state and the operands. -/
def footprint : Instr → List Piece
  | .powerOn | .resetLine | .resetPart _ | .transactionEnd _ | .requestTaken _ => startPieces
  | .enterRunning => [.part, .steps, .paceTimer] ++ loadPieces
  | .transactionBegin | .replyCollected => [.requests]
  | .getIdentity | .getState | .readPageMap _ | .readRules _ | .readSignals | .getStream _ | .getLayer _ | .getOutput _
  | .getCamera | .getGeometry | .getChimes | .getMix | .readSector _ => [.requests]
  | .fetchNotices => [.requests, .notices]
  | .getMemoryError => [.requests, .errorRecord]
  | .setRule _ | .clearRule _ => [.requests, .rules] ++ signalPieces
  | .setReverseSource _ => [.requests, .reverse] ++ reversePieces
  | .openStream _ => [.requests, .pageMap, .rings, .vin, .notices]
  | .closeStream _ => [.requests, .pageMap, .consequences, .rings, .vin, .outRun, .notices]
  | .setClock _ | .setStream _ => [.requests, .rings]
  | .runStream _ | .pauseStream _ => [.requests, .rings, .notices]
  | .flushStream _ => [.requests, .rings, .vin]
  | .createLayer _ => [.requests, .pageMap, .clearing]
  | .layerRunCleared => [.requests, .memory, .layers, .clearing]
  | .deleteLayer _ => [.requests, .pageMap, .consequences, .layers, .designations, .vin, .outRun]
  | .setLayer _ | .present _ => [.requests, .layers, .notices]
  | .loadBlock _ => [.requests, .memory, .layers, .notices]
  | .setCard _ => [.requests, .designations, .layers, .notices]
  | .setOutput _ => [.requests, .outSettings, .free] ++ viewPieces
  | .showCamera _ => [.requests, .owners] ++ ownerPieces
  | .releaseView _ => .requests :: viewPieces
  | .setViewPolicy _ => [.requests, .policy, .suppression, .lostLatch] ++ reversePieces
  | .setCamera _ => [.requests, .camSettings, .capture] ++ cameraPieces
  | .setGeometry _ | .setGuideStyle _ => [.requests, .geometry, .guide]
  | .playChime _ | .cancelChime _ => .requests :: chimePieces
  | .defineSample _ => [.requests, .pageMap, .samples]
  | .loadSampleBlock _ => [.requests, .memory, .samples]
  | .freeSample _ => [.requests, .pageMap, .consequences, .samples]
  | .setMix _ => [.requests, .mixer]
  | .setParkCadence _ => [.requests, .cadence] ++ chimePieces
  | .eraseSector _ | .writeSector _ => [.requests, .store]
  | .storeOperationEnd => [.store, .notices]
  | .runSelfTest => [.requests, .selfTest]
  | .selfTestEnd _ => [.memory, .selfTest] ++ handPieces
  | .busFrame _ => [.rules, .busCounts, .lostLatch] ++ signalPieces
  | .signalHeld _ => signalPieces
  | .signalLost _ => .lostLatch :: signalPieces
  | .revInChange _ => [.reverse]
  | .debounceExpiry => .reverse :: reversePieces
  | .lingerTimerExpiry _ => viewPieces
  | .refreshEvent _ => refreshPieces
  | .drawingEnd => [.memory, .guide, .consequences]
  | .paceTimerTick => [.rings, .notices]
  | .vinFrameStart _ | .vinLine0Complete _ _ | .vinFrameEnd _ => [.vin, .rings, .layers, .notices]
  | .vinPictureLine _ _ => [.memory, .vin, .rings, .layers, .notices]
  | .saiSamplePeriod _ _ _ _ => [.audioIn]
  | .audioInputLost => [.audioIn, .notices]
  | .outputSamplePeriod => handPieces
  | .mixerRampTick => [.mixer]
  | .cameraFrameStart | .cameraFrameEnd => .capture :: cameraPieces
  | .cameraLine _ => [.memory, .capture]
  | .wakeTimeout | .frameTimeout => cameraPieces
  | .correctedError => [.errorRecord]
  | .uncorrectableError _ _ => [.memory, .errorRecord, .consequences, .selfTest, .free, .notices]

/-! ## How a statement says what a command does -/

/-- The part is RUNNING. -/
def Running (s : State) : Prop := s.part.phase = .running

/-- The request code of a command that is a request. -/
def codeOf (c : Instr) : Byte := (requestCode c).getD 0#8

/-- A command answers a next state that differs at most in the pieces listed, and of which a property holds. -/
def Makes (c : Instr) (s : State) (ps : List Piece) (P : State → Prop) : Prop :=
  ∃ t, exec c s = .next t ∧ Changes ps s t ∧ P t

/-- The transaction under way, if there is one, takes a request frame: none has ended in it, and it is not deaf (R170, R181). -/
def FrameHeard (s : State) : Prop := ∀ x, s.link.transaction = some x → x.frameEnded = false ∧ x.deaf = false

/-- A request comes to its block (R173): it is the one EXECUTING, or the row is its frame's end too (log 3) and nothing hinders it:
a place is left in the list, the transaction under way takes a frame, and the part is RUNNING (or it is GET IDENTITY). -/
def Comes (c : Instr) (s : State) : Prop := (s.taking (codeOf c)).handsOver (codeOf c) = true

/-- A request that comes to its block is answered with an outcome and a body: the list of requests and the answer kept are what R173
makes of the state before it, and beside them it changes at most the pieces listed. -/
def Answers (c : Instr) (s : State) (result : Result) (body : ReplyBody) (ps : List Piece) (P : State → Prop) : Prop :=
  Comes c s → Makes c s (.requests :: ps) fun t =>
    Piece.same ((s.taking (codeOf c)).answer (codeOf c) result body) t .requests ∧ P t

/-- A request is turned away: an outcome without a body, and nothing changes but the list of requests. -/
def TurnsAway (c : Instr) (s : State) (result : Result) : Prop := Answers c s result .empty [] fun _ => True

/-- A request does nothing and is answered: an outcome with a body, and nothing changes but the list of requests. -/
def Reports (c : Instr) (s : State) (body : ReplyBody) : Prop := Answers c s .done body [] fun _ => True

/-- A layer after a flip (R84): its load target in front, the mark 0, no flip pending, and DAMAGED when it was READY and the plane
brought to the front is damaged. -/
def Layer.flipped (l : Layer) : Layer :=
  let plane : Fin 2 := if l.planes = 2 ∧ l.front = 0 then 1 else 0
  { l with
    front := plane, mark := 0, flipPending := false
    state := if l.state = .ready ∧ l.damaged.sel plane = true then .damaged else l.state }

/-- A layer whose load target has just been loaded whole (R88): the plane is no longer damaged, and a DAMAGED layer is READY, with
that plane brought to the front and the mark 0 when its front plane is still damaged. -/
def Layer.mended (l : Layer) : Layer :=
  let plane : Fin 2 := if l.planes = 2 ∧ l.front = 0 then 1 else 0
  let x := { l with damaged := l.damaged.put plane false }
  if l.state = .damaged then
    (if x.damaged.sel l.front = true then { x with state := .ready, front := plane, mark := 0, flipPending := false }
      else { x with state := .ready })
  else x

/-- What a pace event with due window `e` makes of the record `r` of a RUNNING stream, whose SHOWING slot the outputs `holds` scan:
the choice of R65 at its clock, its drops and supersessions counted, and STARVED with its clock stopped when the starvation test
of R66 says so, reported (R51, R68). -/
def Paced (t : State) (i : StreamId) (r : Stream) (holds : OutputSet) (e : Nat) : Prop :=
  let x := choose r.clock e (r.tolerance * 10) holds (r.ring.length + 1) ⟨r.ring, 0, 0, false⟩
  let starves := x.starved = true ∧ r.endMark = false ∧
    ∀ k stamp, showingSlot x.ring = some (k, stamp) → stamp + 2000 < r.clock
  (starves → (t.stream i).state = .starved ∧ (t.stream i).clockRunning = false) ∧
  (¬ starves → (t.stream i).state = .running ∧ (t.stream i).clockRunning = r.clockRunning) ∧
  t.stream i = { r with
    state := (t.stream i).state, clockRunning := (t.stream i).clockRunning, ring := x.ring
    counters := { r.counters with
      lateDrop := satAdd r.counters.lateDrop x.late, superseded := satAdd r.counters.superseded x.superseded } } ∧
  (x.late ≠ 0 → (6, (streamNo i).1) ∈ t.link.notices.map fun n => Report.key n.report) ∧
  (starves → (5, (streamNo i).1) ∈ t.link.notices.map fun n => Report.key n.report)

/-- The road-wheel angle that STEER_ANGLE gives with a steering ratio, while it is FRESH or HELD (R138, R146). -/
def State.steerDelta (s : State) (ratio : Nat) : Option Int :=
  match (s.signal .steerAngle).state with
  | .fresh | .held => some (max (-4500) (min 4500 (Int.tdiv ((s.signal .steerAngle).value * 1000) ratio)))
  | .lost | .none => none

/-- What a request for a recompute makes of a Generator `g` (R145, R146): nothing while it is inactive or WAITING, recompute-pending
set while it is DRAWING or FLIP_PENDING, and in IDLE a computation: WAITING while an output holds the back plane, else drawing on
the inputs as they stand, with `angle` the road-wheel angle of its dynamic tracks, if it has any. -/
def Recomputes (g : Guide) (angle : Option Int) (h : Guide) : Prop :=
  let active := g.valid = true ∧ g.demand = true ∧ g.camStatus = .live
  let held := ∃ o, (g.holds.sel (1 - g.front)).has o = true
  (¬ active ∨ g.comp = .waiting → h = g) ∧
  (∀ d, active → (g.comp = .drawing d ∨ ∃ b, g.comp = .flipPending d b) → h = { g with recompute := true }) ∧
  (active → g.comp = .idle → held → h = { g with comp := .waiting }) ∧
  (active → g.comp = .idle → ¬ held →
    h = { g with comp := .drawing ⟨g.geometry, g.style, g.camWidth, g.camHeight, angle⟩, lastAngle := angle })

/-- A Generator that has stopped (R148): IDLE, nothing pending, no last angle, its content HIDDEN; its planes and holds stay. -/
def Guide.stopped (g : Guide) : Guide :=
  { g with comp := .idle, recompute := false, lastAngle := none, content := .hidden, onView := .none }

/-- What a new camera state or demand makes of the Generator (R145, R148): `g` before, `u` with what it was handed. -/
def GuideFollows (g u : Guide) (angle : Option Int) (h : Guide) : Prop :=
  (g.active = true → u.active = false → h = u.stopped) ∧ (g.active = false → u.active = true → Recomputes u angle h) ∧
  (g.active = u.active → h = u)

/-- A chime entry as it starts a repetition (R155, R162): PLAYING from position 0, a pending cadence taken. -/
def ChimeEntry.started (e : ChimeEntry) : ChimeEntry :=
  { e with playing := true, position := 0, sound := e.cadence.getD e.sound, cadence := none }

/-- The QUEUED entry that the choice of R155 makes PLAYING: of the highest class, and of that class the oldest. -/
def Chosen (s : State) (j : Fin 8) (f : ChimeEntry) : Prop :=
  s.entry j = some f ∧ f.playing = false ∧ ∀ k g, s.entry k = some g → g.playing = false → k ≠ j →
    classRank g.cls < classRank f.cls ∨ (classRank g.cls = classRank f.cls ∧ f.age < g.age)

/-- What the decision on the park chime makes of the chime table (R162, R163), with a cadence setting, the sensor-chime-given flag and
the nearest counted distance, if any distance counts: from ABSENT, with an entry free and a chime PLAYING; or with one PARK entry,
and, where a new entry follows it, another chime PLAYING. -/
def ParkDecided (s t : State) (d : ParkCadence) (given : Bool) (m : Option Int) : Prop :=
  let beat (v : Int) : Sound :=
    .tone d.halfPeriod 60 (if v ≤ (d.near : Int) then 0 else 40 + (v.toNat - d.near) * 560 / (d.far - d.near)) d.level
  let want (v : Int) : ParkMode := if v ≤ (d.near : Int) then .continuous else .beeping
  let sensor : Sound := .tone 120 400 200 d.level
  let stays := (∀ i, t.entry i = s.entry i) ∧ t.chime.mode = s.chime.mode ∧ t.chime.sensorGiven = given
  let made (i : Fin 8) (sound : Sound) (reps : Nat) (mode : ParkMode) : Prop := t.chime.mode = mode ∧
    t.entry i = some ⟨.warning, .park, sound, reps, 0#8, false, s.chime.nextAge, 0, 0, none⟩
  (s.chime.mode = .absent →
    (∀ v, m = some v → (d.far : Int) ≤ v → stays) ∧ (m = none → given = true → stays) ∧
    ∀ i, s.entry i = none → (∀ j, j < i → s.entry j ≠ none) → s.playingEntry.isSome = true →
      (∀ v, m = some v → v < (d.far : Int) → made i (beat v) 0 (want v) ∧ t.chime.sensorGiven = given ∧
        ∀ j, j ≠ i → t.entry j = s.entry j) ∧
      (m = none → given = false → made i sensor 2 .sensor ∧ t.chime.sensorGiven = true ∧
        ∀ j, j ≠ i → t.entry j = s.entry j)) ∧
  ∀ i e, s.entry i = some e → e.origin = .park → (∀ j g, s.entry j = some g → g.origin = .park → j = i) →
    let noticed := ∃ x ∈ t.link.notices, x.report = .chimeEnded i e.tag .cancelled
    let ended := t.chime.mode = .absent ∧ t.entry i = none ∧ t.chime.sensorGiven = given ∧ noticed
    let next (k : Fin 8) : Prop := (s.entry k = none ∨ k = i) ∧ (∀ j, j < k → s.entry j ≠ none ∧ j ≠ i) ∧
      ∃ p, s.playingEntry = some p ∧ p ≠ i
    let others (k : Fin 8) : Prop := (∀ j, j ≠ i → j ≠ k → t.entry j = s.entry j) ∧ noticed
    (s.chime.mode = .beeping ∨ s.chime.mode = .continuous →
      (∀ v, m = some v → v < (d.far : Int) → t.chime.mode = want v ∧ t.entry i = some { e with cadence := some (beat v) } ∧
        t.chime.sensorGiven = given ∧ ∀ j, j ≠ i → t.entry j = s.entry j) ∧
      (∀ v, m = some v → (d.far : Int) ≤ v → ended) ∧ (m = none → given = true → ended) ∧
      (m = none → given = false → ∀ k, next k → made k sensor 2 .sensor ∧ t.chime.sensorGiven = true ∧ others k)) ∧
    (s.chime.mode = .sensor → (m = none → stays) ∧ (∀ v, m = some v → (d.far : Int) ≤ v → ended) ∧
      ∀ v k, m = some v → v < (d.far : Int) → next k → made k (beat v) 0 (want v) ∧ t.chime.sensorGiven = given ∧ others k)

/-- A notice as it stands in the queue after a report of its kind and source (R176, R177). -/
def Noted (s t : State) (r : Report) : Prop := t.link.notices = queueReport r s.link.notices

/-- An output's record after it has left a camera view (R99, R100): OFF, with Enabled and was-off clear and no frame, when
was-off is set; else NORMAL at its host timing. -/
def OutputRec.left (r : OutputRec) : OutputRec :=
  if r.wasOff then { r with owner := .off, enabled := false, wasOff := false, linger := none, frame := none }
  else { r with owner := .normal, linger := none, activeTiming := r.hostTiming }

/-- The latest owner change of an output is in the notice queue with a reason (R97). -/
def OwnerNoticed (t : State) (o : Output) (why : OwnerReason) : Prop :=
  ∃ e ∈ t.link.notices, e.report = .outputOwner o (t.out o).owner why

/-! ## Laws of the manual -/

/-- The list of outstanding requests (R172, R173): REPLIED ones first, then at most one EXECUTING, then WAITING ones, which
wait behind an EXECUTING one. -/
def inOrder : List Outstanding → Prop
  | [] => True
  | r :: rs =>
    match r.status with
    | .replied _ _ => inOrder rs
    | .executing => ∀ q ∈ rs, q.status = .waiting
    | .waiting => False

/-- The law of the outstanding-request list (R172, R173); while a run is being cleared the request EXECUTING is its CREATE LAYER
(R76). -/
def RequestsLawful (s : State) : Prop :=
  s.link.requests.length ≤ 4 ∧ inOrder s.link.requests ∧
  (s.layers.clearing.isSome = true → ∃ r ∈ s.link.requests, r.status = .executing ∧ r.code = 0x40#8)

/-- The kinds and sources that the notice queue holds. -/
def State.noticeKeys (s : State) : List (Nat × Nat) := s.link.notices.map fun e => Report.key e.report

/-- The law of the notice queue (R176), and no PART_STARTED before the part enters RUNNING (R184). -/
def NoticesLawful (s : State) : Prop :=
  s.noticeKeys.Nodup ∧ s.link.notices.length ≤ 23 ∧ (s.part.phase = .starting → (1, 0) ∉ s.noticeKeys)

/-- The law of R97: while the part is RUNNING and REV_EFF is set, CENTRE's owner state is CAMERA, with reason REVERSE. -/
def ReverseShown (s : State) : Prop :=
  s.part.phase = .running → s.recv.revEff = true → (s.out .centre).owner = .camera ∧ (s.out .centre).reason = .reverse

/-- REV_EFF is what the source and the terms give (R45), and the LOST latch is clear when it should be (R44). -/
def ReverseSettled (s : State) : Prop :=
  s.recv.revEff = revOf s.recv.source s.recv.line s.busTerm ∧
  ((s.signal .reverse).state = .lost → s.speedEnds = true → s.recv.lostLatch = false)

/-- No two enabled receive rules name the same target (R39). -/
def TargetsUnique (s : State) : Prop :=
  ∀ m n : Fin 16, (s.rule m).enabled = true → (s.rule n).enabled = true → (s.rule m).target = (s.rule n).target → m = n

/-- The stamp of a READY slot. -/
def Slot.readyStamp : Slot → Option Nat
  | .ready stamp _ => some stamp
  | _ => none

/-- Whether a slot is SHOWING. -/
def Slot.isShowing : Slot → Bool
  | .showing _ _ => true
  | _ => false

/-- Whether a slot is FILLING. -/
def Slot.isFilling : Slot → Bool
  | .filling _ _ => true
  | _ => false

/-- The law of a frame ring (R50, R63): as many slots as the slot count, none while CLOSED, at most one SHOWING; the FILLING slot
is the one the port writes; the stamps of the READY slots differ and are at most the last accepted stamp. -/
def RingLawful (s : State) (i : StreamId) : Prop :=
  let r := s.stream i
  r.ring.length = r.slotCount ∧ (r.state = .closed → r.ring = []) ∧ (r.ring.filter Slot.isShowing).length ≤ 1 ∧
  (∀ k x, r.ring[k]? = some x → (x.isFilling = true ↔ ∃ short, s.vin i = .picture k short)) ∧
  (∀ k short, s.vin i = .picture k short → k < r.ring.length) ∧
  (r.ring.filterMap Slot.readyStamp).Nodup ∧
  (∀ stamp ∈ r.ring.filterMap Slot.readyStamp, ∃ last, r.lastStamp = some last ∧ stamp ≤ last)

/-- The laws of the VIN ports (R50, R85, R76): both rings are lawful; a layer's VIN load names the port that is loading it, and
no other; an UNUSED layer has no VIN load, and the layer whose run is being cleared is UNUSED. -/
def PortsLawful (s : State) : Prop :=
  RingLawful s .a ∧ RingLawful s .b ∧
  (∀ n p, (s.layer n).vinLoad = some p ↔ ∃ lines autoPresent, s.vin p = .layer n lines autoPresent) ∧
  (∀ n, (s.layer n).state = .unused → (s.layer n).vinLoad = none) ∧
  (∀ c, s.layers.clearing = some c → (s.layer c.layer).state = .unused)

/-- The law of R112: suppression is on while SPEED is NONE or LOST or its value is at or above the film speed limit. -/
def SuppressionCautious (s : State) : Prop :=
  ((s.signal .speed).state = .none ∨ (s.signal .speed).state = .lost ∨
    (s.comp.policy.filmSpeedLimit : Int) ≤ (s.signal .speed).value) → s.comp.suppression = true

/-- Whether a chime entry is the PARK entry. -/
def ChimeEntry.isPark (e : ChimeEntry) : Bool := decide (e.origin = .park)

/-- The law of the chime table (R152): at most one PLAYING entry, at most one PARK entry, no two HOST entries with the same
sound, and a PARK entry only while REV_EFF is set. With it stand: no entry in use while STARTING (R169), no PARK entry in park
mode ABSENT (R162), and no pending cadence on a HOST entry (R162). -/
def ChimesLawful (s : State) : Prop :=
  (∀ i j : Fin 8, s.entryIs ChimeEntry.playing i = true → s.entryIs ChimeEntry.playing j = true → i = j) ∧
  (∀ i j : Fin 8, s.entryIs ChimeEntry.isPark i = true → s.entryIs ChimeEntry.isPark j = true → i = j) ∧
  (∀ i j e f, s.entry i = some e → s.entry j = some f → e.origin = .host → f.origin = .host → e.sound = f.sound → i = j) ∧
  (∀ i : Fin 8, s.entryIs ChimeEntry.isPark i = true → s.recv.revEff = true ∧ s.chime.mode ≠ .absent) ∧
  (s.part.phase = .starting → ∀ i, s.entry i = none) ∧
  (∀ i e, s.entry i = some e → e.origin = .host → e.cadence = none)

/-- The targets of R166 stand, with REV_EFF as the Signal Receiver holds it and the PLAYING flag as the chime table gives it
(R165). -/
def TargetsFollow (s : State) : Prop :=
  s.mixer.revEff = s.recv.revEff ∧ s.mixer.playing = s.playingEntry.isSome ∧
  (s.mixer.outs.sel 0).target = min 63 ((s.mixer.outs.sel 0).filmVolume +
    max (if s.mixer.playing then s.mixer.duck else 0) (if s.mixer.revEff then s.mixer.rev else 0)) ∧
  (s.mixer.outs.sel 1).target = (s.mixer.outs.sel 1).filmVolume ∧
  (s.mixer.outs.sel 2).target = (s.mixer.outs.sel 2).filmVolume

/-- Demand is present while an output is in a camera view (R106), the Generator holds it as handed (R144) and the camera runs
exactly while demand is present or keep-warm is set (R120). -/
def CameraFollows (s : State) : Prop :=
  s.comp.demand = outputs.any (fun o => (s.out o).inView) ∧ s.guide.demand = s.comp.demand ∧
  s.guide.camStatus = s.cam.status ∧ (s.cam.status = .off ↔ s.cameraRuns = false)

/-- An output is OFF exactly when it is not enabled, its linger timer runs exactly in LINGER, and was-off is set only in a camera
view with reason REVERSE (R95, R98, R100). -/
def OutputsLawful (s : State) : Prop :=
  ∀ o, ((s.out o).owner = .off ↔ (s.out o).enabled = false) ∧ ((s.out o).linger.isSome = true ↔ (s.out o).owner = .linger) ∧
    ((s.out o).wasOff = true → (s.out o).inView = true ∧ (s.out o).reason = .reverse)

end Sys2Proof.Machine
end

