-- ==== Sys2Proof/Certificates/Slice0/Obligations.lean ====
section
/-! DEFINITION. The statements for the provers, chapter by chapter. In all of them that an answer is kept as the link's last
answer is the model's own choice (log 3). -/

open Sys2Proof Sys2Proof.Machine

/-- A step executes the command at the front of the queue on the state whose queue is the rest
(09_the_control_link_and_notices.md 9.2). The model's own choice in it: log 1. -/
def Obligations.StepRunsFrontCommand : Prop :=
  ∀ (c : Instr) (rest : List Instr) (s : State), step { s with pending := c :: rest } = exec c { s with pending := rest }

/-- On an empty queue a running stream clock advances by 1 + trim / 1,000,000 units per 100 µs, exactly, and the running
timers with it (R57, 03_film_streams_and_frame_pacing.md 3.3). The model's own choice in it: log 1. -/
def Obligations.ClockAdvancesExactly : Prop :=
  ∀ (s : State) (n : Nat), s.pending = [] → (s.part.phase = .starting → s.steps = []) →
    ∃ t, Host.Core.run Sys2Proof.core n s = .next t ∧ Changes [.rings, .signals, .reverse, .outRun, .camera] s t ∧
      t.recv = { s.recv with signals := t.recv.signals, debounce := s.recv.debounce.map (· + n) } ∧
      (∀ j, t.signal j = { s.signal j with timer := (s.signal j).timer.map (· + n) }) ∧
      (∀ o, t.out o = { s.out o with linger := (s.out o).linger.map (· + n) }) ∧
      t.cam = { s.cam with timer := s.cam.timer.map (· + n) } ∧
      ∀ i, t.stream i = { s.stream i with clock := (t.stream i).clock, fraction := (t.stream i).fraction } ∧
        ((s.stream i).clockRunning = false → t.stream i = s.stream i) ∧
        ((s.stream i).clockRunning = true → -1000 ≤ (s.stream i).trim → (s.stream i).trim ≤ 1000 → (s.stream i).fraction < 1000000 →
          let total : Int := ((s.stream i).clock * 1000000 + (s.stream i).fraction : Int) + n * (1000000 + (s.stream i).trim)
          (total < (Config.clockMax : Int) * 1000000 →
            ((t.stream i).clock * 1000000 + (t.stream i).fraction : Int) = total ∧ (t.stream i).fraction < 1000000) ∧
          ((Config.clockMax : Int) * 1000000 ≤ total → (s.stream i).clock ≤ Config.clockMax → (t.stream i).clock = Config.clockMax))

/-- A start-up leaves the part STARTING, every block at its reset values or as its VALID sector gives them, repaired;
high memory kept (R24, R48, R72, R94, R117, R134, R151, R169, R181, R182, R183, R185). The model's own choice in it: log
3, log 5, log 6, log 13, log 21, log 25, log 43, log 52, log 56, log 58. -/
def Obligations.StartUpInitialisesEveryBlock : Prop :=
  ∀ (s : State) (c : Instr) (cause : ResetCause), s.store.op = none →
    ((c = .powerOn ∧ cause = .power) ∨ (c = .resetLine ∧ cause = .line) ∨
      (c = .resetPart [] ∧ cause = .request ∧ Running s ∧ s.link.requests.length < 4 ∧ FrameHeard s)) →
    Makes c s startPieces fun u =>
      u.steps = [.examine, .receiver, .outputs, .camera, .mixer] ∧ (∀ n, (u.sector n).state = none) ∧
      u.recv = { Receiver.initial s.recv.rawLine with bitRate := 500, source := .line, debounceTime := 50, revEff := false } ∧
      (∀ o, (u.out o).owner = .off ∧ (u.out o).enabled = false) ∧ u.cam.status = .off ∧ u.mixer = Mixer.builtIn ∧
      u.chime.cadence = ⟨30, 150, 60, 6⟩ ∧
      let t := u.finishStartUp
      t.part = ⟨.starting, cause⟩ ∧ t.steps = [] ∧ t.link.requests = [] ∧ t.link.notTaken = 0 ∧ t.link.badFrames = 0 ∧
      (s.link.transaction = none → t.link.transaction = none) ∧
      (∀ x, s.link.transaction = some x → ∃ y, t.link.transaction = some y ∧ y.sending = false ∧ y.deaf = true) ∧
      (∀ e ∈ t.link.notices, Report.key e.report = (2, 0) ∨ Report.key e.report = (4, 0)) ∧
      (∀ i, (t.signal i).state = .none ∧ (t.signal i).value = safeValue i ∧ (t.signal i).timer = none) ∧
      t.fmm = ⟨[], 190, 2048, [], MemErrorRecord.clear, 0⟩ ∧
      (∀ a, t.mem.read a = if a < 190 * 65536 then 0#8 else s.mem.read a) ∧
      (∀ i, t.stream i = Stream.initial ∧ t.vin i = .idle) ∧ t.pacer.paceTimer = false ∧ t.pacer.audio = .absent ∧
      (∀ k, t.pacer.film.sel k = ⟨0, 0⟩) ∧
      (∀ n, t.layer n = Layer.initial) ∧ (∀ k, t.layers.designations.sel k = none) ∧ t.layers.clearing = none ∧
      t.comp.demand = false ∧ t.comp.suppression = true ∧
      (∀ i, t.entry i = none) ∧ (∀ n, t.sample n = ⟨.undefined, 0, 0⟩) ∧ t.chime.mode = .absent ∧ t.chime.sensorGiven = false ∧
      t.selfTest = none ∧ t.store.op = none ∧
      (∀ n, (t.sector n).bytes = (s.sector n).bytes ∧ (t.sector n).mark = (s.sector n).mark ∧
        (t.sector n).state = some (sectorStateOf n (s.sector n).bytes (s.sector n).mark)) ∧
      -- step 3: the Signal Receiver and sector 2
      (let b := (s.sector 2).bytes
       let valid := sectorStateOf 2 b (s.sector 2).mark = .valid
       t.recv = { Receiver.initial s.recv.rawLine with
         rules := t.recv.rules, signals := t.recv.signals
         bitRate := if valid then (if b.getD 0 0 = 1 then 125 else if b.getD 0 0 = 2 then 250 else 500) else 500
         source := if valid then (if b.getD 1 0 = 1 then .bus else if b.getD 1 0 = 3 then .either else .line) else .line
         debounceTime := if valid then max 10 (min 200 (b.getD 2 0).toNat) else 50 } ∧
       (∀ n, (t.rule n).enabled = true → (t.signal (t.rule n).target).timeout = (t.rule n).timeout) ∧
       (¬ valid → ∀ n, t.rule n = Rule.cleared) ∧
       (valid → ∀ n : Fin 16, let f := ruleRequest b n.1
         (SetRule.legal f = none → t.rule n = Rule.cleared) ∧
         ∀ m i order, SetRule.legal f = some (m, i, order) →
           ((∃ k, k < n ∧ (t.rule k).enabled = true ∧ (t.rule k).target = i) → t.rule n = Rule.cleared) ∧
           ((∀ k, k < n → (t.rule k).enabled = true → (t.rule k).target ≠ i) → t.rule n = SetRule.toRule f i order))) ∧
      -- step 4: the Output Compositor and sector 3
      (let b := (s.sector 3).bytes
       let valid := sectorStateOf 3 b (s.sector 3).mark = .valid
       (¬ valid → t.comp.policy = ViewPolicy.builtIn ∧ ∀ o, t.out o = OutputRec.loaded true (builtInTiming o) ⟨0, 0, 0⟩ false) ∧
       (valid → (∀ o, let k := 9 * (outputNo o).1
           let rate := (b.getD (k + 5) 0).toNat
           t.out o = OutputRec.loaded ((b.getD k 0).getLsbD 0)
             ⟨max 320 (min 1280 (u16At b (k + 1))), max 240 (min 800 (u16At b (k + 3))), if rate = 50 ∨ rate = 60 then rate else 60⟩
             ⟨b.getD (k + 6) 0, b.getD (k + 7) 0, b.getD (k + 8) 0⟩ ((b.getD k 0).getLsbD 1 && decide (o ≠ .centre))) ∧
         t.comp.policy.lingerTime = min 10000 (u16At b 27) ∧ t.comp.policy.lingerSpeed = min 3000 (u16At b 29) ∧
         t.comp.policy.filmSpeedLimit = min 1000 (u16At b 31) ∧
         ∀ k : Fin 3, t.comp.policy.fills.sel k = ⟨b.getD (33 + 3 * k.1) 0, b.getD (34 + 3 * k.1) 0, b.getD (35 + 3 * k.1) 0⟩)) ∧
      -- step 5: the Camera Monitor, the Guide Line Generator and sector 1
      (let b := (s.sector 1).bytes
       let valid := sectorStateOf 1 b (s.sector 1).mark = .valid
       let x := t.cam.settings
       let g := t.guide.geometry
       t.cam = { Camera.initial x with
         status := if x.keepWarm then .waking else .off, timer := if x.keepWarm then some 0 else none } ∧
       t.guide = { Guide.initial g (decide valid) t.guide.style x.width x.height with camStatus := t.cam.status } ∧
       (¬ valid → x = CameraSettings.builtIn ∧ g = Geometry.builtIn ∧ t.guide.style = GuideStyle.builtIn) ∧
       (valid →
         let w := u16At b 0
         let h := u16At b 2
         x = ⟨if 320 ≤ w ∧ w ≤ 1280 ∧ w % 2 = 0 then w else 1280, if 240 ≤ h ∧ h ≤ 960 ∧ h % 2 = 0 then h else 800, .yuv422,
           max 40 (min 500 (u16At b 4)), max 100 (min 2000 (u16At b 6)), max 5 (min 60 (b.getD 8 0).toNat), (b.getD 9 0).getLsbD 0⟩ ∧
         g.ratio = max 1000 (min 2500 (u16At b 10)) ∧ g.wheelbase = max 2000 (min 3500 (u16At b 12)) ∧
         g.overhang = max 300 (min 1500 (u16At b 14)) ∧ g.track = max 1200 (min 2000 (u16At b 16)) ∧
         g.reach = max 1000 (min 5000 (u16At b 18)) ∧ (∀ i, g.homography.sel i = b24At b (20 + 3 * i.1)) ∧
         (u16At b 47 < u16At b 49 ∧ u16At b 49 < u16At b 51 ∧ u16At b 51 < g.reach →
           g.marker1 = u16At b 47 ∧ g.marker2 = u16At b 49 ∧ g.marker3 = u16At b 51) ∧
         (¬ (u16At b 47 < u16At b 49 ∧ u16At b 49 < u16At b 51 ∧ u16At b 51 < g.reach) →
           g.marker1 = g.reach / 4 ∧ g.marker2 = g.reach / 2 ∧ g.marker3 = 3 * g.reach / 4) ∧
         g.staticLines = (b.getD 9 0).getLsbD 1 ∧
         t.guide.style = ⟨BitVec.ofNat 16 (u16At b 53), BitVec.ofNat 16 (u16At b 55), BitVec.ofNat 16 (u16At b 57),
           BitVec.ofNat 16 (u16At b 59), BitVec.ofNat 16 (u16At b 61)⟩)) ∧
      -- step 6: the Audio Mixer, the park cadence and sector 4
      (let b := (s.sector 4).bytes
       let valid := sectorStateOf 4 b (s.sector 4).mark = .valid
       t.mixer.revEff = false ∧ t.mixer.playing = false ∧ (∀ k, t.mixer.samples.sel k = ⟨0, 0⟩) ∧
       (¬ valid → t.mixer.duck = 12 ∧ t.mixer.rev = 63 ∧ t.chime.cadence = ⟨30, 150, 60, 6⟩ ∧
         t.mixer.outs.sel 0 = ⟨none, 20, true, 6, 20, 20, 0⟩ ∧ t.mixer.outs.sel 1 = ⟨some .a, 24, false, 12, 24, 24, 0⟩ ∧
         t.mixer.outs.sel 2 = ⟨some .b, 24, false, 12, 24, 24, 0⟩) ∧
       (valid → t.mixer.duck = min 30 (b.getD 12 0).toNat ∧ t.mixer.rev = min 63 (b.getD 13 0).toNat ∧
         t.chime.cadence = ⟨max 20 (min 60 (b.getD 14 0).toNat), max 100 (min 250 (b.getD 15 0).toNat),
           max 6 (b.getD 16 0).toNat, min 63 (b.getD 17 0).toNat⟩ ∧
         ∀ k : Fin 3, let code := (b.getD (4 * k.1) 0).toNat
           let volume := min 63 (b.getD (4 * k.1 + 1) 0).toNat
           let builtIn : Option StreamId := if k = 0 then none else if k = 1 then some .a else some .b
           t.mixer.outs.sel k = ⟨if code = 0 then none else if code = 1 then some .a else if code = 2 then some .b else builtIn,
             volume, decide (k = 0) || decide (b.getD (4 * k.1 + 2) 0 ≠ 0), min 63 (b.getD (4 * k.1 + 3) 0).toNat, volume, volume, 0⟩))

/-- A start-up that abandons an erase or write leaves the mark set: the sector is ERASED when every byte is 0xFF, else
CORRUPT (R188). The model's own choice in it: log 10. -/
def Obligations.AbandonedStoreOperation : Prop :=
  ∀ (s : State) (c : Instr) (n : Fin 8) (kind : StoreOpKind), s.store.op = some ⟨n, kind⟩ → (c = .powerOn ∨ c = .resetLine) →
    Makes c s startPieces fun u =>
      let t := u.finishStartUp
      u.store.op = none ∧ t.store.op = none ∧ (t.sector n).mark = true ∧
      (t.sector n).state =
        some (if (t.sector n).bytes.all (fun b => decide (b = 0xFF#8)) then .erased else .corrupt) ∧
      (∀ m, m ≠ n → (t.sector m).bytes = (s.sector m).bytes ∧ (t.sector m).mark = (s.sector m).mark) ∧
      (∀ data, kind = .write 0 data → (t.sector n).bytes.drop 128 = (s.sector n).bytes.drop 128) ∧
      (∀ data, kind = .write 1 data → (t.sector n).bytes.take 128 = (s.sector n).bytes.take 128)

/-- ENTER_RUNNING ends the start-up, puts PART_STARTED first, starts the pace timer and, with REV_EFF set, shows CENTRE
the camera (R97, R98, R182, R184). The model's own choice in it: log 2, log 6, log 58. -/
def Obligations.EntryIntoRunning : Prop :=
  (∀ (s : State) (x : StartUpStep) (rest : List StartUpStep), s.part.phase = .starting → s.steps = x :: rest →
    exec .enterRunning s = exec .enterRunning s.finishStartUp ∧
    (s.pending = [] →
      let t := { s.tick with free := s.free + 1 }
      step s = .next (if Config.startUpStepEnds s.free then { t with steps := rest }.doStep x else t))) ∧
  (∀ s : State, s.part.phase = .starting → s.steps = [] → s.recv.revEff = false →
    Makes .enterRunning s [.part, .paceTimer, .notices] fun t =>
      t.part = ⟨.running, s.part.cause⟩ ∧ t.pacer.paceTimer = true ∧
      t.link.notices = ⟨.partStarted s.sectorStates s.part.cause, 0⟩ :: s.link.notices) ∧
  (∀ s : State, s.part.phase = .starting → s.steps = [] → s.recv.revEff = true → (s.out .centre).owner ≠ .camera →
    Makes .enterRunning s ([.part, .paceTimer, .free] ++ viewPieces) fun t =>
      t.part = ⟨.running, s.part.cause⟩ ∧ t.pacer.paceTimer = true ∧
      t.link.notices.head? = some ⟨.partStarted s.sectorStates s.part.cause, 0⟩ ∧
      (t.out .centre).owner = .camera ∧ (t.out .centre).reason = .reverse ∧ t.comp.demand = true ∧
      ((s.out .centre).owner = .off → (t.out .centre).enabled = true ∧ (t.out .centre).wasOff = true)) ∧
  ∀ s : State, Running s → exec .enterRunning s = .next s

/-- A transaction fixes what it sends, takes at most one request frame into the list of four, and removes the reply it
has sent (R170, R171, R172, R173, R181). -/
def Obligations.TransactionsTakeRequestsAndSendReplies : Prop :=
  (∀ s : State, s.link.transaction = none → Makes .transactionBegin s [.requests] fun t =>
    t.link = { s.link with transaction := some ⟨s.link.requests.any Outstanding.isReplied, false, false⟩ }) ∧
  (∀ (s : State) (x : Transaction) (k : Nat), s.link.transaction = some x →
    (x.sending = false ∨ s.link.requests.any Outstanding.isReplied = false → s.shiftedOut k = 0#8) ∧
    ∀ (pre post : List Outstanding) (r : Outstanding) (result : Result) (body : ReplyBody), x.sending = true →
      s.link.requests = pre ++ r :: post → (∀ q ∈ pre, q.isReplied = false) → r.status = .replied result body →
      let inner := BitVec.ofNat 8 body.bytes.length :: r.tag :: Result.code result :: body.bytes
      s.shiftedOut k = (0x5A#8 :: inner ++ bytes16 (check inner).toNat).getD k 0#8) ∧
  (∀ (s : State) (x : Transaction) (pre post : List Outstanding) (r : Outstanding), s.link.transaction = some x → x.sending = true →
    s.link.requests = pre ++ r :: post → (∀ q ∈ pre, q.isReplied = false) → r.isReplied = true →
    Makes .replyCollected s [.requests] fun t =>
      t.link = { s.link with requests := pre ++ post, transaction := some { x with sending := false } }) ∧
  (∀ (s : State) (x : Transaction) (c : Instr) (frame : List Byte) (after : Option Transaction),
    s.link.transaction = some x → x.frameEnded = false → x.deaf = false → RequestsLawful s →
    (c = .requestTaken frame ∧ after = some { x with frameEnded := true }) ∨ (c = .transactionEnd frame ∧ after = none) →
    let starting := s.part.phase = .starting
    let reset (body : List Byte) : Prop := ∃ tag, judgeFrame frame = .good tag codeResetPart body
    (judgeFrame frame = .noRequest → Makes c s [.requests] fun t => t.link = { s.link with transaction := after }) ∧
    (judgeFrame frame ≠ .noRequest → s.link.requests.length = 4 → Makes c s [.requests] fun t =>
      t.link = { s.link with transaction := after, notTaken := satInc s.link.notTaken }) ∧
    (∀ (tag code : Byte) (fixed answer : Option Result), s.link.requests.length < 4 →
      (judgeFrame frame = .bad tag ∧ code = 0#8 ∧ fixed = some .badFrame ∧ answer = some .badFrame) ∨
      (∃ body, judgeFrame frame = .good tag code body ∧ code ∉ requestCodes ∧ fixed = none ∧ answer = some .unknown) ∨
      (∃ body, judgeFrame frame = .good tag code body ∧ code ∈ requestCodes ∧ code ≠ codeResetPart ∧ fixed = none ∧
        answer = if starting ∧ code ≠ codeGetIdentity then some .busy else none) ∨
      (∃ body, judgeFrame frame = .good tag codeResetPart body ∧ code = codeResetPart ∧ answer = fixed ∧
        (starting ∧ fixed = some .busy ∨ Running s ∧ body ≠ [] ∧ fixed = some .badValue)) →
      Makes c s [.requests] fun t =>
        let first := s.link.requests.all Outstanding.isReplied
        t.link = { s.link with
          transaction := after
          badFrames := satAdd s.link.badFrames (if first = true ∧ answer = some .badFrame then 1 else 0)
          requests := s.link.requests ++ [⟨tag, code, fixed, if first = true then (match answer with
            | some a => .replied a .empty
            | none => .executing) else .waiting⟩] }) ∧
    (reset [] → Running s → s.link.requests.length < 4 → Makes c s startPieces fun t =>
      t.part = ⟨.starting, .request⟩ ∧ t.link.requests = [] ∧ t.link.transaction = after.map fun y => ⟨false, y.frameEnded, true⟩)) ∧
  (∀ (s : State) (x : Transaction) (frame : List Byte), s.link.transaction = some x → x.frameEnded = true ∨ x.deaf = true →
    exec (.requestTaken frame) s = .next s ∧
    Makes (.transactionEnd frame) s [.requests] fun t => t.link = { s.link with transaction := none })

/-- A request frame as section 9.9 lays it out is judged good with its tag, code and body; a wrong check or a short
frame is not (R171, 09_the_control_link_and_notices.md 9.9). -/
def Obligations.RequestFramesAreJudged : Prop :=
  (∀ (tag code : Byte) (body : List Byte), body.length ≤ 248 → judgeFrame (requestFrame tag code body) = .good tag code body) ∧
  (∀ (tag code : Byte) (body : List Byte) (hi lo : Byte), body.length ≤ 248 →
    be16 hi lo ≠ (check (BitVec.ofNat 8 body.length :: tag :: code :: body)).toNat →
    judgeFrame (0xA5#8 :: BitVec.ofNat 8 body.length :: tag :: code :: body ++ [hi, lo]) = .bad tag) ∧
  (∀ (tag code : Byte) (body : List Byte) (n : Nat), body.length ≤ 248 → 3 ≤ n → n < body.length + 6 →
    judgeFrame ((requestFrame tag code body).take n) = .bad tag) ∧
  (∀ (len tag : Byte) (rest : List Byte), 248 < len.toNat → judgeFrame (0xA5#8 :: len :: tag :: rest) = .bad tag) ∧
  ∀ (sync : Byte) (rest : List Byte), sync ≠ 0xA5#8 → judgeFrame (sync :: rest) = .noRequest

/-- An answer makes the EXECUTING request REPLIED with its outcome and body, and the next WAITING request becomes
EXECUTING (R172, R173, R174). -/
def Obligations.AnswerClosesExecutingRequest : Prop :=
  ∀ (s : State) (pre post : List Outstanding) (tag k : Byte) (fixed : Option Result) (result : Result) (body : ReplyBody),
    Running s → s.link.requests = pre ++ ⟨tag, k, fixed, .executing⟩ :: post → (∀ q ∈ pre, q.isReplied = true) →
    (∀ q ∈ post, q.status = .waiting) →
    let t := s.answer k result body
    Changes [.requests] s t ∧ t.link.lastAnswer = some ⟨k, result, body⟩ ∧
    (post = [] → t.link.requests = pre ++ [⟨tag, k, fixed, .replied result body⟩]) ∧
    (∀ q qs, post = q :: qs → q.fixed = none → q.code ∈ requestCodes →
      t.link.requests = pre ++ ⟨tag, k, fixed, .replied result body⟩ :: { q with status := .executing } :: qs) ∧
    (∀ q, post = [q] → q.fixed = none → q.code ∉ requestCodes →
      t.link.requests = pre ++ [⟨tag, k, fixed, .replied result body⟩, { q with status := .replied .unknown .empty }]) ∧
    (∀ j, j ≠ k → (s.answer j result body).link.requests = s.link.requests)

/-- While STARTING every request but GET IDENTITY is answered BUSY; a short body is BAD_VALUE; no request acts out of
its turn (R172, R173, R181). The model's own choice in it: log 3, log 5. -/
def Obligations.StartingAndShortRequestsAreTurnedAway : Prop :=
  (∀ (c : Instr) (s : State), (requestCode c).isSome = true → Running s → shortRequest c = true → TurnsAway c s .badValue) ∧
  (∀ (c : Instr) (s : State) (k : Byte), requestCode c = some k → k ≠ codeResetPart → RequestsLawful s →
    ((∃ r ∈ s.link.requests, r.status = .executing ∧ (r.code ≠ k ∨ s.layers.clearing.isSome = true)) → exec c s = .next s) ∧
    (s.link.requests.all Outstanding.isReplied = true →
      ((∃ x, s.link.transaction = some x ∧ (x.frameEnded = true ∨ x.deaf = true)) → exec c s = .next s) ∧
      (FrameHeard s →
        let heard := s.link.transaction.map fun x => { x with frameEnded := true }
        (s.link.requests.length = 4 → Makes c s [.requests] fun t =>
          t.link = { s.link with transaction := heard, notTaken := satInc s.link.notTaken }) ∧
        (s.link.requests.length < 4 → s.part.phase = .starting → k ≠ codeGetIdentity → Makes c s [.requests] fun t =>
          t.link.requests = s.link.requests ++ [⟨0#8, k, none, .replied .busy .empty⟩] ∧ t.link.transaction = heard ∧
          t.link.notTaken = s.link.notTaken ∧ t.link.lastAnswer = s.link.lastAnswer) ∧
        (∀ frame body, s.link.requests.length < 4 → Running s ∨ k = codeGetIdentity → judgeFrame frame = .good 0#8 k body →
          Comes c s ∧ ∃ u, exec (.requestTaken frame) s = .next u ∧ exec c u = exec c s)))) ∧
  ∀ (s : State) (body : List Byte), RequestsLawful s → FrameHeard s → s.link.requests.length < 4 →
    s.part.phase = .starting ∨ body ≠ [] → Makes (.resetPart body) s [.requests] fun t =>
      let a := if s.part.phase = .starting then Result.busy else .badValue
      t.link.requests = s.link.requests ++ [⟨0#8, codeResetPart, some a,
        if s.link.requests.all Outstanding.isReplied then .replied a .empty else .waiting⟩] ∧
      t.link.notTaken = s.link.notTaken ∧ t.link.transaction = s.link.transaction.map fun x => { x with frameEnded := true }

/-- Every command answers a next state, from every state, and changes no piece of the state outside its listed footprint
(00_scope.md, 95_what_each_step_holds.md). The model's own choice in it: log 2, log 5. -/
def Obligations.EveryCommandKeepsToItsFootprint : Prop :=
  ∀ (c : Instr) (s : State), ∃ t, exec c s = .next t ∧ Changes (footprint c) s t

/-- A report joins the queue at its tail, or merges into the entry of its kind and source, which keeps its place (R176,
R177). -/
def Obligations.NoticeQueueMergesReports : Prop :=
  (∀ (r : Report) (q : List NoticeEntry), (∀ e ∈ q, Report.key e.report ≠ Report.key r) → queueReport r q = q ++ [⟨r, 0⟩]) ∧
  (∀ (r : Report) (pre post : List NoticeEntry) (e : NoticeEntry), (∀ d ∈ pre, Report.key d.report ≠ Report.key r) →
    Report.key e.report = Report.key r →
    queueReport r (pre ++ e :: post) =
      pre ++ ⟨Report.merge e.report r, if e.repeats < 255 then e.repeats + 1 else 255⟩ :: post) ∧
  (∀ m m', Report.merge (.signalState m) (.signalState m') = .signalState (m ||| m')) ∧
  (∀ i (f g : Trouble), Report.merge (.streamTrouble i f) (.streamTrouble i g) = .streamTrouble i
    ⟨f.overrun || g.overrun, f.lateDrop || g.lateDrop, f.badTag || g.badTag, f.seqGap || g.seqGap,
      f.shortFrame || g.shortFrame, f.audioLoss || g.audioLoss, f.memory || g.memory⟩) ∧
  (∀ l r d l' r' d', Report.merge (.layerEvent l r d) (.layerEvent l' r' d') = .layerEvent (l ||| l') (r ||| r') (d ||| d')) ∧
  ∀ old new : Report, Report.key old = Report.key new → (Report.key new).1 ∉ [3, 6, 7] → Report.merge old new = new

/-- FETCH NOTICES answers the oldest entries, up to 8, with the number left, and removes them (R178). -/
def Obligations.FetchNoticesRemovesTheOldest : Prop :=
  ∀ (s : State), Running s →
    Answers .fetchNotices s .done (.notices (s.link.notices.take 8) (s.link.notices.length - 8)) [.notices] fun t =>
      t.link.notices = s.link.notices.drop 8

/-- A low-region call takes the lowest free stretch below low_top that is long enough, else the gap's bottom, else no
space (R5, R7, R8). -/
def Obligations.LowRunTakesTheLowestFreeStretch : Prop :=
  (∀ (f : Fmm) (o : RunOwner) (n : Nat), f.lawful → f.runOf o = none → 0 < n →
    let fits (b : Nat) : Prop := 190 ≤ b ∧ b + n ≤ f.lowTop ∧ ∀ p, b ≤ p → p < b + n → f.ownerOf p = .free
    (∀ b, fits b → (∀ c, c < b → ¬ fits c) → ∃ g, f.placeLow o n = some g ∧ g.runOf o = some ⟨o, b, n⟩ ∧
      g.lowTop = f.lowTop ∧ g.highBottom = f.highBottom ∧
      ∀ p, g.ownerOf p = if b ≤ p ∧ p < b + n then .run o else f.ownerOf p) ∧
    ((∀ b, ¬ fits b) → f.lowTop + n ≤ f.highBottom → ∃ g, f.placeLow o n = some g ∧ g.runOf o = some ⟨o, f.lowTop, n⟩ ∧
      g.lowTop = f.lowTop + n ∧ g.highBottom = f.highBottom ∧
      ∀ p, g.ownerOf p = if f.lowTop ≤ p ∧ p < f.lowTop + n then .run o else f.ownerOf p) ∧
    ((∀ b, ¬ fits b) → f.highBottom < f.lowTop + n → f.placeLow o n = none)) ∧
  ∀ (s : State) (o : RunOwner) (n : Nat), s.selfTest.isSome = true → allocate Fmm.placeLow s o n = .busy

/-- A high-region call takes the highest free stretch at or above high_bottom that is long enough, else the gap's top,
else no space (R5, R7, R9). -/
def Obligations.HighRunTakesTheHighestFreeStretch : Prop :=
  (∀ (f : Fmm) (o : RunOwner) (n : Nat), f.lawful → f.runOf o = none → 0 < n →
    let fits (b : Nat) : Prop := f.highBottom ≤ b ∧ b + n ≤ 2048 ∧ ∀ p, b ≤ p → p < b + n → f.ownerOf p = .free
    (∀ b, fits b → (∀ c, b < c → ¬ fits c) → ∃ g, f.placeHigh o n = some g ∧ g.runOf o = some ⟨o, b, n⟩ ∧
      g.lowTop = f.lowTop ∧ g.highBottom = f.highBottom ∧
      ∀ p, g.ownerOf p = if b ≤ p ∧ p < b + n then .run o else f.ownerOf p) ∧
    ((∀ b, ¬ fits b) → f.lowTop + n ≤ f.highBottom → ∃ g, f.placeHigh o n = some g ∧
      g.runOf o = some ⟨o, f.highBottom - n, n⟩ ∧ g.lowTop = f.lowTop ∧ g.highBottom = f.highBottom - n ∧
      ∀ p, g.ownerOf p = if f.highBottom - n ≤ p ∧ p < f.highBottom then .run o else f.ownerOf p) ∧
    ((∀ b, ¬ fits b) → f.highBottom < f.lowTop + n → f.placeHigh o n = none)) ∧
  ∀ (s : State) (o : RunOwner) (n : Nat), s.selfTest.isSome = true → allocate Fmm.placeHigh s o n = .busy

/-- A free makes the owner's pages FREE, drops its consequences and retracts both boundaries through every free page
(R10). -/
def Obligations.FreeReturnsPagesAndRetractsBoundaries : Prop :=
  ∀ (f : Fmm) (o : RunOwner), f.lawful →
    (f.runOf o = none → f.free o = f) ∧
    ((f.runOf o).isSome = true →
      let g := f.free o
      g.runOf o = none ∧ (∀ q, q ≠ o → g.runOf q = f.runOf q) ∧
      (∀ p, g.ownerOf p = if f.ownerOf p = .run o then .free else f.ownerOf p) ∧
      g.pending = f.pending.filter (fun c => !decide (MemUnit.owner c.unit = some o)) ∧
      g.lowTop ≤ f.lowTop ∧ f.highBottom ≤ g.highBottom ∧
      (g.lowTop = 190 ∨ 190 < g.lowTop ∧ g.ownerOf (g.lowTop - 1) ≠ .free) ∧
      (g.highBottom = 2048 ∨ g.highBottom < 2048 ∧ g.ownerOf g.highBottom ≠ .free) ∧
      (∀ p, g.lowTop ≤ p → p < f.lowTop → g.ownerOf p = .free) ∧
      (∀ p, f.highBottom ≤ p → p < g.highBottom → g.ownerOf p = .free) ∧
      g.record = f.record ∧ g.corrected = f.corrected)

/-- READ PAGE MAP reports entries that tile memory; GET MEMORY ERROR reports and clears; a corrected error is counted
(R2, R5, R11, R12, R23). -/
def Obligations.FrameMemoryReportsAndCorrectedErrors : Prop :=
  (∀ (s : State) (first : Nat), Running s →
    (2048 ≤ first → TurnsAway (.readPageMap (.whole first)) s .badValue) ∧
    (first < 2048 → Reports (.readPageMap (.whole first)) s (.pageMap
      ⟨s.fmm.lowTop, s.fmm.highBottom, (s.fmm.entries.filter fun e => decide (first ≤ e.2.1)).take 48,
        decide (48 < (s.fmm.entries.filter fun e => decide (first ≤ e.2.1)).length)⟩))) ∧
  (∀ (s : State), Running s →
    Answers .getMemoryError s .done (.memoryError s.fmm.record s.fmm.corrected) [.errorRecord] fun t =>
      t.fmm.record = MemErrorRecord.clear ∧ t.fmm.corrected = s.fmm.corrected) ∧
  (∀ (s : State), Makes .correctedError s [.errorRecord] fun t =>
    t.fmm.record = s.fmm.record ∧ t.fmm.corrected = if s.fmm.corrected < 65535 then s.fmm.corrected + 1 else 65535) ∧
  ∀ f : Fmm, f.lawful →
    f.entries.head? = some (.reserve, 0, 190) ∧ (f.entries.map fun e => e.2.1).Pairwise (· < ·) ∧
    (∀ e ∈ f.entries, 0 < e.2.2 ∧ ∀ p, e.2.1 ≤ p → p < e.2.1 + e.2.2 → f.ownerOf p = e.1) ∧
    ∀ p, p < f.lowTop ∨ f.highBottom ≤ p ∧ p < 2048 → ∃ e ∈ f.entries, e.2.1 ≤ p ∧ p < e.2.1 + e.2.2

/-- An uncorrectable word reads as zero, the error is recorded, and one consequence per unit is held and handed over at
its reader's next event (R13, R14, R15, R16, R17, R18, R19, R20, R21, R22, R87, R131). The model's own choice in it: log
28, log 33, log 34. -/
def Obligations.UncorrectableErrorIsRecordedAndHeld : Prop :=
  (∀ (s : State) (reader : Reader) (word : BitVec 24),
    let page := word.toNat / 8192
    let i := s.fmm.indexOf page
    let slot (x : StreamId) := i / (((s.stream x).width * (s.stream x).height * 2 + 65535) / 65536)
    Makes (.uncorrectableError reader word) s [.memory, .errorRecord, .consequences, .selfTest, .free, .notices] fun t =>
      (∀ a, t.mem.read a = if a / 8 = word.toNat then 0#8 else s.mem.read a) ∧
      t.fmm.corrected = s.fmm.corrected ∧
      (s.fmm.record.latched = false → t.fmm.record = ⟨true, page, s.fmm.ownerOf page, reader, false⟩ ∧
        Noted s t (.memoryError page (s.fmm.ownerOf page) reader)) ∧
      (s.fmm.record.latched = true → t.fmm.record = { s.fmm.record with more := true } ∧ t.link.notices = s.link.notices) ∧
      (s.fmm.ownerOf page = .free → t.fmm.pending = s.fmm.pending) ∧
      (∀ (u : MemUnit) (stamp : Option Nat),
        (stamp = none ∧ ((∃ n, s.fmm.ownerOf page = .run (.layer n) ∧ u = .layer n) ∨
          (∃ n, s.fmm.ownerOf page = .run (.sample n) ∧ u = .sample n) ∨
          (∃ k : Fin 3, page < 114 ∧ k.1 = page / 38 ∧ u = .capture k) ∨
          (∃ p : Fin 2, 114 ≤ page ∧ page < 190 ∧ p.1 = (page - 114) / 38 ∧ u = .guidePlane p))) ∨
        (∃ x, s.fmm.ownerOf page = .run (.stream x) ∧ u = .streamSlot x (slot x) ∧
          stamp = (match (s.stream x).ring[slot x]? with
            | some (.showing v _) => some v
            | _ => none)) →
        t.fmm.pending = if s.fmm.pending.any (fun c => decide (c.unit = u)) then s.fmm.pending
          else s.fmm.pending ++ [⟨u, reader, i, stamp, false⟩]) ∧
      (∀ x, s.selfTest = some x → reader = .selfTest → page ∈ x.pages → t.free = s.free + 1 ∧
        t.selfTest = some { x with
          errorFound := true
          late := if Config.foundInLastReadBack s.free then insertNew word.toNat x.late else x.late }) ∧
      ((∀ x, s.selfTest = some x → reader = .selfTest → page ∉ x.pages) → t.selfTest = s.selfTest ∧ t.free = s.free)) ∧
  (∀ (s : State) (o : Output) (c : Consequence), (s.out o).owner ≠ .off → (∀ i, s.lead i ≠ some o) →
    s.fmm.pending.filter (fun d => decide (d.reader = .scan o)) = [c] → Makes (.refreshEvent o) s refreshPieces fun t =>
      t.fmm.pending = s.fmm.pending.filter (fun d => !decide (d.reader = .scan o)) ∧
      (∀ i k, c.unit = .streamSlot i k → (6, (streamNo i).1) ∈ t.noticeKeys ∧
        let r := s.stream i
        let freed := r.ring.map (Slot.release o)
        (∀ v q, c.stamp = some v → r.ring[k]? = some (Slot.showing v q) → ∃ holds,
          (∀ p, holds.has p = (decide (p ≠ o) && (s.scanning i k).has p)) ∧
          t.stream i = { r with
            ring := freed.set k (.empty holds), counters := { r.counters with lateDrop := satInc r.counters.lateDrop } }) ∧
        ((∀ v q, c.stamp = some v → r.ring[k]? ≠ some (Slot.showing v q)) → t.stream i = { r with ring := freed })) ∧
      (∀ n, c.unit = .layer n → (∀ m, (s.layer m).flipPending = false) →
        let l := s.layer n
        let plane : Fin 2 :=
          if c.pageIndex / ((l.width * l.height * (if l.format = .argb8888 then 4 else 2) + 65535) / 65536) = 0 then 0 else 1
        t.layer n = { l with
          damaged := l.damaged.put plane true, mark := 0
          state := if plane = l.front ∧ l.state = .ready then .damaged else l.state } ∧
        (∀ m, m ≠ n → t.layer m = s.layer m) ∧ (7, 0) ∈ t.noticeKeys) ∧
      (∀ k, c.unit = .capture k →
        (t.cam.slots.sel k).state = (if (s.cam.slots.sel k).state = .complete then .empty else (s.cam.slots.sel k).state) ∧
        t.cam.order = (if (s.cam.slots.sel k).state = .complete then s.cam.order.filter (fun j => !decide (j = k)) else s.cam.order) ∧
        ∀ j, j ≠ k → (t.cam.slots.sel j).state = (s.cam.slots.sel j).state) ∧
      (∀ p, c.unit = .guidePlane p → s.guide.active = true →
        let held := ∃ q, q ≠ o ∧ (s.guide.holds.sel (1 - s.guide.front)).has q = true
        (s.guide.comp = .idle → held → t.guide.comp = .waiting) ∧
        (s.guide.comp = .idle → ¬ held → ∃ d, t.guide.comp = .drawing d) ∧
        (∀ d, s.guide.comp = .drawing d → t.guide.comp = .drawing d ∧ t.guide.recompute = true) ∧
        ∀ d b, s.guide.comp = .flipPending d b → (b = false ∧ o ≠ .centre) ∨ (b = true ∧ (s.out o).owner = .normal) →
          t.guide.comp = .flipPending d b ∧ t.guide.recompute = true)) ∧
  (∀ s : State, (∀ c ∈ s.fmm.pending, c.reader = .chime → c.played = false) → Makes .outputSamplePeriod s handPieces fun t =>
    (∀ n, t.sample n = s.sample n) ∧
    t.fmm.pending = s.fmm.pending.map fun d => { d with played := d.played || decide (d.reader = .chime) }) ∧
  ∀ (s : State) (c : Consequence) (n : Fin 16), c.unit = .sample n →
    s.fmm.pending.filter (fun d => decide (d.reader = .chime) && d.played) = [c] → Makes .outputSamplePeriod s handPieces fun t =>
      t.sample n = { s.sample n with state := .damaged, mark := 0 } ∧ (∀ m, m ≠ n → t.sample m = s.sample m) ∧
      (s.recv.revEff = false → ∀ i e level, s.entry i = some e → e.sound = .sample n level →
        t.entry i = none ∧ ∃ x ∈ t.link.notices, x.report = .chimeEnded i e.tag .played)

/-- A read after a write gives the byte written inside what was written, and what it gave before everywhere else (R1,
R13, R82). The model's own choice in it: log 28. -/
def Obligations.MemoryReadsWhatWasWritten : Prop :=
  ∀ (m : FrameMemory) (a : Nat) (bytes : List Byte) (x : Nat), a + bytes.length ≤ 134217728 →
    (m.write a bytes).read x = if a ≤ x ∧ x < a + bytes.length then bytes.getD (x - a) 0#8 else m.read x

/-- An LSB_FIRST field is a slice of the data as a little-endian number, an MSB_FIRST field one of its bytes as a big-
endian number (R28, R29, R30). -/
def Obligations.FieldsAreReadAsTheirByteOrderSays : Prop :=
  let little (data : List Byte) : Nat := data.foldr (fun b n => b.toNat + 256 * n) 0
  let big (data : List Byte) : Nat := data.foldl (fun n b => 256 * n + b.toNat) 0
  (∀ (start length : Nat) (data : List Byte), rawField .lsbFirst start data length = little data / 2 ^ start % 2 ^ length) ∧
  (∀ (start length : Nat) (data : List Byte), 1 ≤ length → fieldFits .msbFirst start length = true →
    fieldCovered .msbFirst start length data.length = true →
    rawField .msbFirst start data length = big (data.take (start / 8 + 1)) / 2 ^ (start % 8) % 2 ^ length) ∧
  ∀ (order : ByteOrder) (start length : Nat) (data : List Byte), rawField order start data length < 2 ^ length

/-- A raw field is read signed or unsigned, multiplied, divided with the quotient toward zero, offset and clamped to its
range (R33). -/
def Obligations.RuleConversionRoundsTowardZeroAndClamps : Prop :=
  ∀ (r : Rule) (raw : Nat), 1 ≤ r.length → raw < 2 ^ r.length →
    ∃ v q : Int, (v = raw ∨ v = (raw : Int) - 2 ^ r.length) ∧
      (r.signed = false → v = raw) ∧ (r.signed = true → -(2 ^ (r.length - 1) : Int) ≤ v ∧ v < 2 ^ (r.length - 1)) ∧
      (q.natAbs = (v * r.factor).natAbs / 2 ^ r.shift) ∧ (0 < q → 0 < v * r.factor) ∧ (q < 0 → v * r.factor < 0) ∧
      r.convert raw = max (rangeLow r.target) (min (rangeHigh r.target) (q + r.offset)) ∧
      rangeLow r.target ≤ r.convert raw ∧ r.convert raw ≤ rangeHigh r.target

/-- A bus frame is counted; a data frame that one rule takes updates that rule's signal, and one that no rule takes
changes nothing (R25, R27, R30, R31, R32, R34, R37, R44, R45, R48). -/
def Obligations.BusFrameAppliesItsRules : Prop :=
  let term (t : State) : Bool := match (t.signal .reverse).state with
    | .none => false
    | .fresh => decide ((t.signal .reverse).value = 1)
    | .held => decide ((t.signal .reverse).value = 1)
    | .lost => t.recv.lostLatch
  (∀ s : State, Makes (.busFrame .faulty) s [.busCounts] fun t =>
    t.recv = { s.recv with busErrors := satInc s.recv.busErrors }) ∧
  (∀ s : State, Makes (.busFrame .remote) s [.busCounts] fun t =>
    t.recv = { s.recv with goodFrames := satInc s.recv.goodFrames }) ∧
  (∀ (s : State) (extended : Bool) (identifier dlc : Nat) (data : List Byte), ReverseSettled s →
    (∀ n, (s.rule n).accepts extended identifier = false) →
    Makes (.busFrame (.data extended identifier dlc data)) s [.busCounts] fun t =>
      t.recv = { s.recv with goodFrames := satInc s.recv.goodFrames }) ∧
  (∀ (s : State) (extended : Bool) (identifier dlc : Nat) (data : List Byte), s.part.phase = .starting → .receiver ∈ s.steps →
    Makes (.busFrame (.data extended identifier dlc data)) s [.busCounts] fun t =>
      t.recv = { s.recv with goodFrames := satInc s.recv.goodFrames }) ∧
  (∀ (s : State) (extended : Bool) (identifier dlc : Nat) (data : List Byte) (n : Fin 16), ReverseSettled s →
    Running s ∨ .receiver ∉ s.steps → (∀ m, (s.rule m).accepts extended identifier = decide (m = n)) →
    let r := s.rule n
    let raw := rawField r.order r.startBit data r.length
    let ends (after : Rule) : Prop :=
      Makes (.busFrame (.data extended identifier dlc data)) s [.rules, .busCounts] fun t =>
        t.recv.goodFrames = satInc s.recv.goodFrames ∧ t.recv.busErrors = s.recv.busErrors ∧
        t.rule n = after ∧ ∀ m, m ≠ n → t.rule m = s.rule m
    (r.covered data.length = false → ends { r with short := satInc r.short }) ∧
    (r.covered data.length = true → r.invalidPattern = some raw → ends { r with invalid := satInc r.invalid }) ∧
    (r.covered data.length = true → r.invalidPattern ≠ some raw → r.alive.isSome = true → r.aliveOf data = r.lastAlive →
      ends { r with repeats := satInc r.repeats }) ∧
    (r.covered data.length = true → r.invalidPattern ≠ some raw → (r.alive = none ∨ r.aliveOf data ≠ r.lastAlive) →
      Makes (.busFrame (.data extended identifier dlc data)) s ([.rules, .busCounts, .lostLatch] ++ signalPieces) fun t =>
        t.recv.goodFrames = satInc s.recv.goodFrames ∧
        t.signal r.target = { s.signal r.target with value := r.convert raw, state := .fresh, timer := some 0 } ∧
        (∀ j, j ≠ r.target → t.signal j = s.signal j) ∧ (∀ m, m ≠ n → t.rule m = s.rule m) ∧
        t.rule n = { r with
          accepted := satInc r.accepted, lastAlive := if r.alive.isSome then r.aliveOf data else r.lastAlive } ∧
        ((s.signal r.target).state ≠ .fresh → (3, 0) ∈ t.noticeKeys) ∧
        ((s.signal r.target).state = .fresh → (3, 0) ∈ t.noticeKeys → (3, 0) ∈ s.noticeKeys) ∧
        t.recv.revEff = (match s.recv.source with
          | .line => s.recv.line
          | .bus => term t
          | .either => s.recv.line || term t) ∧
        (t.recv.revEff ≠ s.recv.revEff → (2, 0) ∈ t.noticeKeys ∧ t.mixer.revEff = t.recv.revEff)))

/-- A FRESH signal becomes HELD with its value; a HELD one LOST with its safe value: REVERSE keeps its latch,
STEER_ANGLE ends the tracks (R35, R36, R37, R44, R145, R148). The model's own choice in it: log 1, log 2, log 37. -/
def Obligations.SignalsAgeToHeldAndLost : Prop :=
  (∀ (s : State) (i : SignalId) (e : Nat), (s.signal i).state = .fresh → (s.signal i).timer = some e → (s.signal i).timeout * 10 ≤ e →
    Makes (.signalHeld i) s signalPieces fun t =>
      t.signal i = { s.signal i with state := .held } ∧
      (∀ j, j ≠ i → t.signal j = s.signal j) ∧ (3, 0) ∈ t.noticeKeys ∧
      (i = .steerAngle → ReverseSettled s → t.guide = s.guide)) ∧
  (∀ (s : State) (i : SignalId) (e : Nat), (s.signal i).state = .held → (s.signal i).timer = some e →
    3 * (s.signal i).timeout * 10 ≤ e →
    Makes (.signalLost i) s (.lostLatch :: signalPieces) fun t =>
      t.signal i = { s.signal i with state := .lost, value := safeValue i } ∧
      (∀ j, j ≠ i → t.signal j = s.signal j) ∧ (3, 0) ∈ t.noticeKeys ∧
      (i = .reverse → t.recv.lostLatch = (decide ((s.signal .reverse).value = 1) && !s.speedEnds))) ∧
  (∀ (s : State) (e : Nat), ReverseSettled s → (s.signal .steerAngle).state = .held → (s.signal .steerAngle).timer = some e →
    3 * (s.signal .steerAngle).timeout * 10 ≤ e →
    Makes (.signalLost .steerAngle) s [.signals, .notices, .guide, .consequences] fun t =>
      let g := s.guide
      let h := { g with
        content := if g.content = .dynamic then .hidden else g.content
        onView := if g.content = .dynamic then .none else g.onView }
      let held := ∃ o, (g.holds.sel (1 - g.front)).has o = true
      let begun (r : Bool) : Prop := (held → t.guide = { h with comp := .waiting, recompute := r }) ∧
        (¬ held → t.guide = { h with
          comp := .drawing ⟨g.geometry, g.style, g.camWidth, g.camHeight, none⟩, recompute := r, lastAngle := none })
      (g.active = false → t.guide = g) ∧
      (g.active = true →
        (g.comp = .idle → begun g.recompute) ∧ (g.comp = .waiting → t.guide = h) ∧
        ∀ d, (g.comp = .drawing d ∨ ∃ b, g.comp = .flipPending d b) →
          (d.angle.isSome = true → begun false ∧
            t.fmm.pending = s.fmm.pending.filter fun c => !decide (c.reader = .guide)) ∧
          (d.angle = none → t.guide = { h with recompute := true } ∧ t.fmm.pending = s.fmm.pending))) ∧
  (∀ (s : State) (i : SignalId),
    (s.signal i).state ≠ .fresh ∨ (∀ e, (s.signal i).timer = some e → e < (s.signal i).timeout * 10) →
    exec (.signalHeld i) s = .next s) ∧
  ∀ (s : State) (i : SignalId),
    (s.signal i).state ≠ .held ∨ (∀ e, (s.signal i).timer = some e → e < 3 * (s.signal i).timeout * 10) →
    exec (.signalLost i) s = .next s

/-- REV_IN starts or stops the debounce timer; its expiry and SET REVERSE SOURCE settle the line, the source and REV_EFF
(R43, R44, R45, R46, R47). The model's own choice in it: log 1, log 2. -/
def Obligations.ReverseLineAndSource : Prop :=
  let term (s : State) : Bool := match (s.signal .reverse).state with
    | .none => false
    | .fresh => decide ((s.signal .reverse).value = 1)
    | .held => decide ((s.signal .reverse).value = 1)
    | .lost => s.recv.lostLatch
  let given (x : ReverseSource) (line bus : Bool) : Bool := match x with
    | .line => line
    | .bus => bus
    | .either => line || bus
  (∀ (s : State) (level : Bool), Makes (.revInChange level) s [.reverse] fun t =>
    t.recv = { s.recv with
      rawLine := level, debounce := if level = s.recv.line then none else some (s.recv.debounce.getD 0) }) ∧
  (∀ (s : State) (e : Nat), s.recv.debounce = some e → s.recv.debounceTime * 10 ≤ e → Makes .debounceExpiry s (.reverse :: reversePieces) fun t =>
    t.recv.line = s.recv.rawLine ∧ t.recv.rawLine = s.recv.rawLine ∧ t.recv.debounce = none ∧
    t.recv.debounceTime = s.recv.debounceTime ∧ t.recv.source = s.recv.source ∧
    t.recv.revEff = given s.recv.source s.recv.rawLine (term s) ∧
    (t.recv.revEff ≠ s.recv.revEff → (2, 0) ∈ t.noticeKeys ∧ t.mixer.revEff = t.recv.revEff)) ∧
  (∀ s : State, (∀ e, s.recv.debounce = some e → e < s.recv.debounceTime * 10) → exec .debounceExpiry s = .next s) ∧
  ∀ (s : State) (time : Nat), Running s →
    TurnsAway (.setReverseSource (.whole ⟨.undefined, time⟩)) s .badValue ∧
    ∀ src : ReverseSource, Answers (.setReverseSource (.whole ⟨.legal src, time⟩)) s
      (if 10 ≤ time ∧ time ≤ 200 then .done else .adjusted) .empty (.reverse :: reversePieces) fun t =>
      t.recv.source = src ∧ t.recv.debounceTime = max 10 (min 200 time) ∧ t.recv.rawLine = s.recv.rawLine ∧
      t.recv.revEff = given src t.recv.line (term s) ∧
      t.recv.line = (if s.recv.debounce.any (fun e => decide (max 10 (min 200 time) * 10 ≤ e)) then s.recv.rawLine else s.recv.line) ∧
      (t.recv.revEff ≠ s.recv.revEff → (2, 0) ∈ t.noticeKeys ∧ t.mixer.revEff = t.recv.revEff)

/-- SET RULE stores a legal rule and makes the signals it touches NONE; CLEAR RULE empties a rule and makes its target
NONE (R26, R37, R39, R40). The model's own choice in it: log 13. -/
def Obligations.RulesAreSetAndCleared : Prop :=
  (∀ (s : State) (f : SetRule), Running s →
    (16 ≤ f.number ∨ 7 ≤ f.target ∨ f.order = .undefined ∨ 64 ≤ f.startBit ∨ f.length = 0 ∨ 16 < f.length ∨ 16 ≤ f.shift ∨
      (f.extended = false ∧ 2048 ≤ f.identifier) ∨ 536870912 ≤ f.identifier →
      TurnsAway (.setRule (.whole f)) s .badValue) ∧
    (∀ n i order, SetRule.legal f = some (n, i, order) →
      n.1 = f.number ∧ (signalNo i).1 = f.target ∧ f.order = .legal order ∧
      ((∃ m, m ≠ n ∧ (s.rule m).enabled = true ∧ (s.rule m).target = i) → TurnsAway (.setRule (.whole f)) s .conflict) ∧
      ((∀ m, m ≠ n → (s.rule m).enabled = true → (s.rule m).target ≠ i) →
        Answers (.setRule (.whole f)) s (if 20 ≤ f.timeout ∧ f.timeout ≤ 2000 then .done else .adjusted) .empty
          (.rules :: signalPieces) fun t =>
          t.rule n = ⟨f.enabled, f.extended, f.identifier, i, f.startBit, f.length, order, f.signed, f.factor.toInt, f.shift,
            f.offset.toInt, max 20 (min 2000 f.timeout), f.invalidPattern, f.alive, none, 0, 0, 0, 0⟩ ∧
          (∀ m, m ≠ n → t.rule m = s.rule m) ∧
          (∀ j, (t.signal j).timeout = if f.enabled = true ∧ j = i then max 20 (min 2000 f.timeout) else (s.signal j).timeout) ∧
          ∀ j, if j = i ∨ (s.rule n).enabled = true ∧ j = (s.rule n).target then
              (t.signal j).state = .none ∧ (t.signal j).value = safeValue j ∧ (t.signal j).timer = none
            else t.signal j = s.signal j))) ∧
  ∀ (s : State) (k : Nat), Running s →
    (16 ≤ k → TurnsAway (.clearRule (.whole k)) s .badValue) ∧
    ∀ n : Fin 16, n.1 = k → Answers (.clearRule (.whole k)) s .done .empty (.rules :: signalPieces) fun t =>
      t.rule n = Rule.cleared ∧ (∀ m, m ≠ n → t.rule m = s.rule m) ∧
      ∀ j, if (s.rule n).enabled = true ∧ j = (s.rule n).target then
          t.signal j = ⟨safeValue j, .none, none, (s.signal j).timeout⟩
        else t.signal j = s.signal j

/-- OPEN STREAM checks its fields, then the stream, then the room; when its run is placed the stream is PRIMING with an
empty ring (R6, R51, R52). -/
def Obligations.OpenStreamTakesARingOrRefuses : Prop :=
  ∀ (s : State) (f : OpenStream), Running s →
    let legal (p : PixelFormat) : Prop := f.stream < 2 ∧ f.format = .legal p ∧ 16 ≤ f.width ∧ f.width ≤ 1280 ∧ 16 ≤ f.height ∧
      f.height ≤ 720 ∧ (p = .yuv422 → f.width % 2 = 0)
    let slots := max 2 (min 8 f.slots)
    let pages := slots * ((f.width * f.height * 2 + 65535) / 65536)
    ((∀ p, ¬ legal p) → TurnsAway (.openStream (.whole f)) s .badValue) ∧
    ∀ p i, legal p → (streamNo i).1 = f.stream →
      ((s.stream i).state ≠ .closed → TurnsAway (.openStream (.whole f)) s .notNow) ∧
      ((s.stream i).state = .closed → s.fmm.runOf (.stream i) = none →
        (s.selfTest.isSome = true → TurnsAway (.openStream (.whole f)) s .busy) ∧
        (s.selfTest = none → s.fmm.placeLow (.stream i) pages = none → TurnsAway (.openStream (.whole f)) s .noSpace) ∧
        ∀ g, s.selfTest = none → s.fmm.placeLow (.stream i) pages = some g →
          Answers (.openStream (.whole f)) s (if 2 ≤ f.slots ∧ f.slots ≤ 8 then .done else .adjusted) .empty
            [.pageMap, .rings, .vin, .notices] fun t =>
            t.fmm = g ∧ (∀ j, j ≠ i → t.stream j = s.stream j ∧ t.vin j = s.vin j) ∧
            (s.vin i = .started false → t.vin i = .started true) ∧
            t.stream i = { s.stream i with
              state := .priming, width := f.width, height := f.height, format := p, slotCount := slots
              ring := List.replicate slots (.empty OutputSet.none), lastWritten := slots - 1, clock := 0, fraction := 0
              clockRunning := false, lastStamp := none, lastSequence := none, endMark := false, counters := ⟨0, 0, 0, 0, 0, 0⟩ } ∧
            Noted s t (.streamState i .priming))

/-- CLOSE STREAM frees the run, discards the ring and shows backgrounds; on a CLOSED stream it changes nothing (R10,
R51, R53). The model's own choice in it: log 13, log 45. -/
def Obligations.CloseStreamFreesTheRing : Prop :=
  ∀ (s : State), Running s → (∀ k, 2 ≤ k → TurnsAway (.closeStream (.whole k)) s .badValue) ∧
    ∀ i : StreamId,
      ((s.stream i).state = .closed → Answers (.closeStream (.whole (streamNo i).1)) s .done .empty [] fun _ => True) ∧
      ((s.stream i).state ≠ .closed →
        Answers (.closeStream (.whole (streamNo i).1)) s .done .empty
          [.pageMap, .consequences, .rings, .vin, .outRun, .notices] fun t =>
          t.fmm = s.fmm.free (.stream i) ∧
          t.stream i = { s.stream i with
            state := .closed, slotCount := 0, ring := [], lastWritten := 0, clock := 0, fraction := 0, clockRunning := false
            endMark := false } ∧
          (∀ j, j ≠ i → t.stream j = s.stream j ∧ t.vin j = s.vin j) ∧
          (∀ k short, s.vin i = .picture k short → t.vin i = .ignored) ∧
          (∀ o f, (s.out o).frame = some f → ∃ g, (t.out o).frame = some g ∧ g.timing = f.timing ∧ g.layers = f.layers ∧
            ((∀ c k p w h fmt fit, f.base ≠ .film c i k p w h fmt fit) → g = f) ∧
            ∀ c k p w h fmt fit, f.base = .film c i k p w h fmt fit → g.base = .background c) ∧
          (∀ o, (s.out o).frame = none → (t.out o).frame = none) ∧
          Noted s t (.streamState i .closed))

/-- SET CLOCK, RUN, PAUSE, FLUSH and SET STREAM act by the stream's state and touch the addressed stream alone (R51,
R54, R55, R56, R58, R59). -/
def Obligations.StreamRequestsSetClockAndState : Prop :=
  (∀ (s : State) (k : Nat), Running s → 2 ≤ k →
    TurnsAway (.runStream (.whole k)) s .badValue ∧ TurnsAway (.pauseStream (.whole k)) s .badValue ∧
    TurnsAway (.flushStream (.whole k)) s .badValue ∧ (∀ v, TurnsAway (.setClock (.whole ⟨k, v⟩)) s .badValue) ∧
    ∀ b l x, TurnsAway (.setStream (.whole ⟨k, b, l, x⟩)) s .badValue) ∧
  ∀ (s : State) (i : StreamId), Running s →
    let n := (streamNo i).1
    let r := s.stream i
    (r.state = .priming ∨ r.state = .paused →
      Answers (.runStream (.whole n)) s .done .empty [.rings, .notices] fun t =>
        t.stream i = { r with state := .running, clockRunning := true } ∧ (∀ j, j ≠ i → t.stream j = s.stream j) ∧
        Noted s t (.streamState i .running)) ∧
    (r.state = .running ∨ r.state = .starved →
      Answers (.runStream (.whole n)) s .done .empty [] (fun _ => True) ∧
      Answers (.pauseStream (.whole n)) s .done .empty [.rings, .notices] fun t =>
        t.stream i = { r with state := .paused, clockRunning := false } ∧ (∀ j, j ≠ i → t.stream j = s.stream j) ∧
        Noted s t (.streamState i .paused)) ∧
    (r.state = .paused → Answers (.pauseStream (.whole n)) s .done .empty [] fun _ => True) ∧
    (r.state = .priming → TurnsAway (.pauseStream (.whole n)) s .notNow) ∧
    (r.state = .closed → TurnsAway (.runStream (.whole n)) s .notNow ∧ TurnsAway (.pauseStream (.whole n)) s .notNow ∧
      TurnsAway (.flushStream (.whole n)) s .notNow ∧ ∀ v, TurnsAway (.setClock (.whole ⟨n, v⟩)) s .notNow) ∧
    (r.state ≠ .closed →
      (∀ v : BitVec 32, Answers (.setClock (.whole ⟨n, v⟩)) s .done .empty [.rings] fun t =>
        t.stream i = { r with clock := v.toNat, fraction := 0 } ∧ ∀ j, j ≠ i → t.stream j = s.stream j) ∧
      Answers (.flushStream (.whole n)) s .done .empty [.rings, .vin] fun t =>
        (t.stream i).ring.length = r.ring.length ∧
        (∀ (k : Nat) (x : Slot), r.ring[k]? = some x → (t.stream i).ring[k]? = some (match x with
          | .ready _ _ => .empty OutputSet.none
          | .filling _ _ => .empty OutputSet.none
          | .showing a b => .showing a b
          | .empty holds => .empty holds)) ∧
        t.stream i = { r with ring := (t.stream i).ring, lastStamp := none, lastSequence := none } ∧
        t.vin i = (match s.vin i with
          | .picture _ _ => .ignored
          | x => x) ∧
        ∀ j, j ≠ i → t.stream j = s.stream j ∧ t.vin j = s.vin j) ∧
    (∀ l x, TurnsAway (.setStream (.whole ⟨n, true, l, x⟩)) s .badValue) ∧
    ∀ (l : Option Nat) (x : Option Int),
      let l' := l.map fun v => min 100 v
      let x' := x.map fun v => max (-1000) (min 1000 v)
      Answers (.setStream (.whole ⟨n, false, l, x⟩)) s (if l' = l ∧ x' = x then .done else .adjusted) .empty [.rings] fun t =>
        t.stream i = { r with tolerance := l'.getD r.tolerance, trim := x'.getD r.trim } ∧ ∀ j, j ≠ i → t.stream j = s.stream j

/-- The choice of frame drops every late frame, supersedes every due frame but the newest, which it shows, and leaves
early ones (R65). -/
def Obligations.PaceChoiceShowsTheNewestDueFrame : Prop :=
  ∀ (c e l : Nat) (holds : OutputSet) (ring : List Slot), (ring.filterMap Slot.readyStamp).Nodup →
    let x := choose c e l holds (ring.length + 1) ⟨ring, 0, 0, false⟩
    let stamps := ring.filterMap Slot.readyStamp
    let due := stamps.filter fun v => decide (c ≤ v + l) && decide (v ≤ c + e)
    x.ring.length = ring.length ∧
    x.late = (stamps.filter fun v => decide (v + l < c)).length ∧
    x.ring.filterMap Slot.readyStamp = stamps.filter (fun v => decide (c ≤ v + l) && decide (c + e < v)) ∧
    x.superseded = due.length - 1 ∧
    (due = [] → (showingSlot x.ring = showingSlot ring) ∧
      (x.starved = true ↔ x.ring.filterMap Slot.readyStamp = [])) ∧
    (∀ v ∈ due, (∀ w ∈ due, w ≤ v) → x.starved = false ∧
      ∃ (k : Nat) (q : Nat), ring[k]? = some (Slot.ready v q) ∧ x.ring[k]? = some (Slot.showing v q) ∧
        ∀ j, j ≠ k → (∀ a b, x.ring[j]? ≠ some (.showing a b)) ∧
          ∀ a b, ring[j]? = some (Slot.showing a b) → x.ring[j]? = some (Slot.empty holds))

/-- A pace timer tick paces each RUNNING stream without a lead output, a refresh event the RUNNING stream its output
leads; no other is (R64, R65, R66, R67, R68, R72). The model's own choice in it: log 2, log 48. -/
def Obligations.PaceTimerPacesStreamsWithoutALead : Prop :=
  (∀ s : State, s.pacer.paceTimer = false → exec .paceTimerTick s = .next s) ∧
  (∀ s : State, s.pacer.paceTimer = true → Makes .paceTimerTick s [.rings, .notices] fun t => ∀ i,
    ((s.stream i).state ≠ .running ∨ (s.lead i).isSome = true → t.stream i = s.stream i) ∧
    ((s.stream i).state = .running → s.lead i = none →
      let holds := match showingSlot (s.stream i).ring with
        | some (k, _) => s.scanning i k
        | none => OutputSet.none
      Paced t i (s.stream i) holds 166)) ∧
  ∀ (s : State) (o : Output), (s.out o).owner ≠ .off → (∀ c ∈ s.fmm.pending, c.reader ≠ .scan o) →
    Makes (.refreshEvent o) s refreshPieces fun t => ∀ i,
      let r := { s.stream i with ring := (s.stream i).ring.map (Slot.release o) }
      (r.state ≠ .running ∨ s.lead i ≠ some o → t.stream i = r) ∧
      (r.state = .running → s.lead i = some o → ∃ holds : OutputSet,
        (∀ p, holds.has p = (decide (p ≠ o) && (match showingSlot r.ring with
          | some (k, _) => (s.scanning i k).has p
          | none => false))) ∧
        Paced t i r holds (if (s.out o).hostTiming.refresh = 50 then 100 else 83))

/-- A good picture frame fills the next free slot, its lines are written at their places, and at its end it is READY or
dropped (R60, R61, R62, R63, R68). The model's own choice in it: log 18. -/
def Obligations.PictureFramesFillAndCompleteSlots : Prop :=
  (∀ (s : State) (p : StreamId), (∀ k short, s.vin p ≠ .picture k short) → (∀ n lines auto, s.vin p ≠ .layer n lines auto) →
    Makes (.vinFrameStart p) s [.vin] fun t => t.vin p = .started false ∧ ∀ q, q ≠ p → t.vin q = s.vin q) ∧
  (∀ line : List Byte, readTag line = .bad ↔ (line.length < 32 ∨ line.getD 0 0 ≠ 0xC3#8 ∨ line.getD 1 0 ≠ 0x5A#8 ∨
    (check (line.take 16)).toNat ≠ (line.getD 16 0).toNat * 256 + (line.getD 17 0).toNat ∨
    (line.getD 2 0 ≠ 1#8 ∧ line.getD 2 0 ≠ 2#8))) ∧
  (∀ (s : State) (p : StreamId) (stale : Bool) (line : List Byte), s.vin p = .started stale →
    let r := s.stream p
    let outside := stale = true ∨ r.state = .closed
    let bad := readTag line = .bad ∨ ∃ target w h tag, readTag line = .picture target w h tag ∧
      ¬ (target = (streamNo p).1 ∧ w = r.width ∧ h = r.height)
    ((∀ target w h auto, readTag line ≠ .layer target w h auto) → outside → Makes (.vinLine0Complete p line) s [.vin] fun t =>
      t.vin p = .ignored ∧ ∀ q, q ≠ p → t.vin q = s.vin q) ∧
    (bad → ¬ outside → Makes (.vinLine0Complete p line) s [.rings, .vin, .notices] fun t =>
      t.vin p = .ignored ∧ t.stream p = { r with counters := { r.counters with badTag := satInc r.counters.badTag } } ∧
      (∀ q, q ≠ p → t.stream q = s.stream q ∧ t.vin q = s.vin q) ∧ Noted s t (.streamTrouble p { badTag := true }))) ∧
  (∀ (s : State) (p : StreamId) (line : List Byte) (tag : FrameTag), s.vin p = .started false →
    readTag line = .picture (streamNo p).1 (s.stream p).width (s.stream p).height tag → (s.stream p).state ≠ .closed →
    let r := s.stream p
    (∀ d, d < r.ring.length → r.ring[(r.lastWritten + 1 + d) % r.ring.length]? = some (Slot.empty OutputSet.none) →
      (∀ e, e < d → r.ring[(r.lastWritten + 1 + e) % r.ring.length]? ≠ some (.empty OutputSet.none)) →
      Makes (.vinLine0Complete p line) s [.rings, .vin] fun t =>
        t.vin p = .picture ((r.lastWritten + 1 + d) % r.ring.length) false ∧
        t.stream p = { r with
          ring := r.ring.set ((r.lastWritten + 1 + d) % r.ring.length) (.filling tag 0)
          lastWritten := (r.lastWritten + 1 + d) % r.ring.length } ∧
        ∀ q, q ≠ p → t.stream q = s.stream q ∧ t.vin q = s.vin q) ∧
    ((∀ d, d < r.ring.length → r.ring[(r.lastWritten + 1 + d) % r.ring.length]? ≠ some (.empty OutputSet.none)) →
      Makes (.vinLine0Complete p line) s [.rings, .vin, .notices] fun t =>
        t.vin p = .ignored ∧
        t.stream p = { r with counters := { r.counters with overrun := satInc r.counters.overrun } } ∧
        (∀ q, q ≠ p → t.stream q = s.stream q ∧ t.vin q = s.vin q) ∧ Noted s t (.streamTrouble p { overrun := true }))) ∧
  (∀ (s : State) (p : StreamId) (k lines : Nat) (tag : FrameTag) (run : Run) (line : List Byte),
    s.vin p = .picture k false → (s.stream p).ring[k]? = some (Slot.filling tag lines) → s.fmm.runOf (.stream p) = some run →
    lines < (s.stream p).height →
    let r := s.stream p
    let bytes := line.take (r.width * 2)
    let a := (run.base + k * ((r.width * r.height * 2 + 65535) / 65536)) * 65536 + lines * (r.width * 2)
    a + bytes.length ≤ 134217728 →
    Makes (.vinPictureLine p line) s [.memory, .rings, .vin] fun t =>
      (∀ x, t.mem.read x = if a ≤ x ∧ x < a + bytes.length then bytes.getD (x - a) 0#8 else s.mem.read x) ∧
      t.stream p = { r with ring := r.ring.set k (.filling tag (lines + 1)) } ∧
      t.vin p = .picture k (decide (line.length / 2 < r.width)) ∧ ∀ q, q ≠ p → t.stream q = s.stream q ∧ t.vin q = s.vin q) ∧
  ∀ (s : State) (p : StreamId) (k lines : Nat) (tag : FrameTag) (short : Bool) (c : Instr) (after : VinFrame),
    s.vin p = .picture k short → (s.stream p).ring[k]? = some (Slot.filling tag lines) →
    (c = .vinFrameEnd p ∧ after = .idle) ∨ (c = .vinFrameStart p ∧ after = .started false) →
    let r := s.stream p
    let whole := short = false ∧ r.height ≤ lines
    let inOrder := tag.discontinuity = true ∨ ∀ v, r.lastStamp = some v → v < tag.stamp
    let gap := tag.discontinuity = false ∧ ∃ q, r.lastSequence = some q ∧ tag.sequence ≠ (q + 1) % 65536
    let kept := r.ring.map fun x => match x with
      | .ready a b => if tag.discontinuity then .empty OutputSet.none else .ready a b
      | y => y
    Makes c s [.vin, .rings, .notices] fun t =>
      t.vin p = after ∧ (∀ q, q ≠ p → t.stream q = s.stream q ∧ t.vin q = s.vin q) ∧
      (¬ whole → t.stream p = { r with
          ring := r.ring.set k (.empty OutputSet.none)
          counters := { r.counters with shortFrame := satInc r.counters.shortFrame } } ∧
        Noted s t (.streamTrouble p { shortFrame := true })) ∧
      (whole → ¬ inOrder → t.stream p = { r with
          ring := r.ring.set k (.empty OutputSet.none)
          counters := { r.counters with lateDrop := satInc r.counters.lateDrop } } ∧
        Noted s t (.streamTrouble p { lateDrop := true })) ∧
      (whole → inOrder → (t.stream p).ring = kept.set k (.ready tag.stamp tag.sequence) ∧
        (t.stream p).lastStamp = some tag.stamp ∧ (t.stream p).lastSequence = some tag.sequence ∧
        (t.stream p).endMark = tag.last ∧ (t.stream p).clock = r.clock ∧
        (t.stream p).state = (if r.state = .starved then .running else r.state) ∧
        (gap → (t.stream p).counters = { r.counters with seqGap := satInc r.counters.seqGap }) ∧
        (¬ gap → (t.stream p).counters = r.counters))

/-- A LAYER frame on a VIN port loads the load target line by line, or is refused; at its end the load completes or
fails (R84, R85, R86, R88, R89). The model's own choice in it: log 18, log 40, log 41. -/
def Obligations.LayerFramesLoadTheirPlane : Prop :=
  (∀ (s : State) (p : StreamId) (stale : Bool) (line : List Byte) (target w h : Nat) (auto : Bool), s.vin p = .started stale →
    readTag line = .layer target w h auto →
    (24 ≤ target → Makes (.vinLine0Complete p line) s [.vin] fun t => t.vin p = .ignored ∧ ∀ q, q ≠ p → t.vin q = s.vin q) ∧
    ∀ n : Fin 24, n.1 = target →
      let l := s.layer n
      let refused := l.state = .unused ∨ w ≠ l.width ∨ h ≠ l.height ∨ l.flipPending = true ∨ l.vinLoad.isSome = true
      (refused → Makes (.vinLine0Complete p line) s [.vin, .notices] fun t =>
        t.vin p = .ignored ∧ (∀ q, q ≠ p → t.vin q = s.vin q) ∧ Noted s t (.layerEvent 0 (1#24 <<< n.1) 0)) ∧
      (¬ refused → Makes (.vinLine0Complete p line) s [.vin, .layers] fun t =>
        t.vin p = .layer n 0 auto ∧ (∀ q, q ≠ p → t.vin q = s.vin q) ∧
        t.layer n = { l with vinLoad := some p, mark := 0 } ∧ ∀ m, m ≠ n → t.layer m = s.layer m)) ∧
  (∀ (s : State) (p : StreamId) (n : Fin 24) (lines : Nat) (auto : Bool) (run : Run) (line : List Byte),
    s.vin p = .layer n lines auto → s.fmm.runOf (.layer n) = some run → lines < (s.layer n).height →
    let l := s.layer n
    let bpp := if l.format = .argb8888 then 4 else 2
    let plane := if l.planes = 2 ∧ l.front = 0 then 1 else 0
    let bytes := line.take (l.width * bpp)
    let a := (run.base + plane * ((l.width * l.height * bpp + 65535) / 65536)) * 65536 + lines * (l.width * bpp)
    a + bytes.length ≤ 134217728 →
    Makes (.vinPictureLine p line) s [.memory, .vin, .layers, .notices] fun t =>
      (∀ x, t.mem.read x = if a ≤ x ∧ x < a + bytes.length then bytes.getD (x - a) 0#8 else s.mem.read x) ∧
      (∀ q, q ≠ p → t.vin q = s.vin q) ∧ (∀ m, m ≠ n → t.layer m = s.layer m) ∧
      (l.width ≤ line.length / bpp → t.vin p = .layer n (lines + 1) auto ∧ t.layer n = l ∧ t.link.notices = s.link.notices) ∧
      (line.length / bpp < l.width → t.vin p = .ignored ∧ t.layer n = { l with vinLoad := none } ∧
        Noted s t (.layerEvent 0 (1#24 <<< n.1) 0))) ∧
  ∀ (s : State) (p : StreamId) (n : Fin 24) (lines : Nat) (auto : Bool), s.vin p = .layer n lines auto →
    let l := s.layer n
    let size := l.width * l.height * (if l.format = .argb8888 then 4 else 2)
    let bit := 1#24 <<< n.1
    (∀ c after, (c = .vinFrameEnd p ∧ after = .idle ∧ lines ≠ l.height) ∨ (c = .vinFrameStart p ∧ after = .started false) →
      Makes c s [.vin, .layers, .notices] fun t =>
        t.vin p = after ∧ (∀ q, q ≠ p → t.vin q = s.vin q) ∧ t.layer n = { l with vinLoad := none } ∧
        (∀ m, m ≠ n → t.layer m = s.layer m) ∧ Noted s t (.layerEvent 0 bit 0)) ∧
    (lines = l.height → l.flipPending = false → Makes (.vinFrameEnd p) s [.vin, .layers, .notices] fun t =>
      let mended := Layer.mended { l with mark := size, vinLoad := none }
      t.vin p = .idle ∧ (∀ q, q ≠ p → t.vin q = s.vin q) ∧ (∀ m, m ≠ n → t.layer m = s.layer m) ∧
      t.layer n = (if auto = true ∧ l.planes = 2 then
        (if (s.putLayer n mended).onView n = true then { mended with flipPending := true } else Layer.flipped mended) else mended) ∧
      ((t.layer n).state = .damaged →
        t.link.notices = queueReport (.layerEvent 0 0 bit) (queueReport (.layerEvent bit 0 0) s.link.notices)) ∧
      ((t.layer n).state ≠ .damaged → Noted s t (.layerEvent bit 0 0)))

/-- A sample period makes the input PRESENT and hands on the pairs of RUNNING streams; a lost input is silent and
reported (R69, R70). The model's own choice in it: log 2. -/
def Obligations.FilmSoundFollowsTheStreams : Prop :=
  (∀ (s : State) (al ar bl br : BitVec 16), Makes (.saiSamplePeriod al ar bl br) s [.audioIn] fun t =>
    t.pacer.audio = .present ∧
    t.pacer.film.sel 0 = (if (s.stream .a).state = .running then ⟨al, ar⟩ else ⟨0, 0⟩) ∧
    t.pacer.film.sel 1 = (if (s.stream .b).state = .running then ⟨bl, br⟩ else ⟨0, 0⟩)) ∧
  (∀ s : State, s.pacer.audio = .present → Makes .audioInputLost s [.audioIn, .notices] fun t =>
    t.pacer.audio = .lost ∧ (∀ k, t.pacer.film.sel k = ⟨0, 0⟩) ∧
    (∀ i, (s.stream i).state ≠ .closed → (6, (streamNo i).1) ∈ t.noticeKeys) ∧
    ((s.stream .a).state = .closed → (s.stream .b).state = .closed → t.link.notices = s.link.notices)) ∧
  ∀ s : State, s.pacer.audio ≠ .present → exec .audioInputLost s = .next s

/-- CREATE LAYER checks, places its run and waits; when the run has been cleared the layer is READY with its planes zero
(R6, R76, R173). The model's own choice in it: log 2, log 22. -/
def Obligations.CreateLayerClearsItsRun : Prop :=
  (∀ (s : State) (f : CreateLayer), Running s →
    let legal (k : LayerKind) (x : LayerFormat) : Prop := f.layer < 24 ∧ f.kind = .legal k ∧ f.format = .legal x ∧
      (f.planes = 1 ∨ f.planes = 2) ∧ 1 ≤ f.width ∧ f.width ≤ 1280 ∧ 1 ≤ f.height ∧ f.height ≤ 800
    ((∀ k x, ¬ legal k x) → TurnsAway (.createLayer (.whole f)) s .badValue) ∧
    ∀ k x (n : Fin 24), legal k x → n.1 = f.layer →
      let pages := f.planes * ((f.width * f.height * (if x = .argb8888 then 4 else 2) + 65535) / 65536)
      ((s.layer n).state ≠ .unused → TurnsAway (.createLayer (.whole f)) s .notNow) ∧
      ((s.layer n).state = .unused → s.fmm.runOf (.layer n) = none →
        (s.selfTest.isSome = true → TurnsAway (.createLayer (.whole f)) s .busy) ∧
        (s.selfTest = none →
          (s.fmm.placeHigh (.layer n) pages = none → TurnsAway (.createLayer (.whole f)) s .noSpace) ∧
          ∀ g, s.fmm.placeHigh (.layer n) pages = some g → Comes (.createLayer (.whole f)) s →
            Makes (.createLayer (.whole f)) s [.requests, .pageMap, .clearing] fun t =>
              Piece.same (s.taking 0x40#8) t .requests ∧ (∃ r ∈ t.link.requests, r.status = .executing ∧ r.code = 0x40#8) ∧
              t.fmm = g ∧ t.layers.clearing = some ⟨n, k, f.permitted, x, f.width, f.height, f.planes⟩))) ∧
  (∀ (s : State) (f : Body CreateLayer), s.layers.clearing.isSome = true → RequestsLawful s → exec (.createLayer f) s = .next s) ∧
  (∀ (s : State) (c : Clearing) (run : Run), s.layers.clearing = some c → s.fmm.runOf (.layer c.layer) = some run →
    Makes .layerRunCleared s [.requests, .memory, .layers, .clearing] fun t =>
      Piece.same (s.answer 0x40#8 .done .empty) t .requests ∧ t.layers.clearing = none ∧
      (∀ a, t.mem.read a = if run.base ≤ a / 65536 ∧ a / 65536 < run.base + run.count then 0#8 else s.mem.read a) ∧
      t.layer c.layer = ⟨.ready, c.kind, c.permitted, c.format, c.width, c.height, c.planes, 0, false, Table.fill 2 false, 0, none,
        Table.fill 3 none⟩ ∧
      ∀ m, m ≠ c.layer → t.layer m = s.layer m) ∧
  ∀ s : State, s.layers.clearing = none → exec .layerRunCleared s = .next s

/-- DELETE LAYER frees the run, clears the record, its designations and its VIN load, and takes it out of the frames
under way (R90). -/
def Obligations.DeleteLayerRemovesEveryTrace : Prop :=
  ∀ (s : State), Running s → (∀ k, 24 ≤ k → TurnsAway (.deleteLayer (.whole k)) s .badValue) ∧
    ∀ n : Fin 24,
      ((s.layer n).state = .unused → Answers (.deleteLayer (.whole n.1)) s .done .empty [] fun _ => True) ∧
      ((s.layer n).state ≠ .unused →
        Answers (.deleteLayer (.whole n.1)) s .done .empty
          [.pageMap, .consequences, .layers, .designations, .vin, .outRun] fun t =>
          t.layer n = Layer.initial ∧ (∀ m, m ≠ n → t.layer m = s.layer m) ∧ t.fmm = s.fmm.free (.layer n) ∧
          (∀ c, t.layers.designations.sel c =
            if s.layers.designations.sel c = some n then none else s.layers.designations.sel c) ∧
          (∀ p, t.vin p = if (s.layer n).vinLoad = some p then .ignored else s.vin p) ∧
          (∀ o, (t.out o).frame = (s.out o).frame.map fun f => { f with
            layers := f.layers.filter (fun d => !decide (d.layer = n))
            base := match f.base with
              | .card c fill (some d) => .card c fill (if d.layer = n then none else some d)
              | b => b }) ∧
          ∀ o, (t.out o).activeTiming = (s.out o).activeTiming ∧ (t.out o).linger = (s.out o).linger ∧
            (t.out o).shownCard = (s.out o).shownCard ∧ (t.out o).lastFit = (s.out o).lastFit)

/-- SET LAYER applies every part of a request that passes its checks, and refuses at the first check that fails (R77,
R78, R84). -/
def Obligations.SetLayerStoresPlacements : Prop :=
  ∀ (s : State) (f : SetLayer), Running s →
    let out := fun o : Output => match o with
      | .centre => f.centre
      | .rearL => f.rearL
      | .rearR => f.rearR
    let legal := fun p : Option PlacementPart => match p with
      | some .undefined => False
      | some (.place _ _ z _ _) => z ≤ 7
      | _ => True
    let inside := fun p : Option PlacementPart => match p with
      | some (.place x y _ a _) => -2048 ≤ x ∧ x ≤ 2047 ∧ -2048 ≤ y ∧ y ≤ 2047 ∧ a ≤ 255
      | _ => True
    let after := fun (old : Option Placement) (p : Option PlacementPart) => match p with
      | some .remove => none
      | some (.place x y z a v) => some ⟨max (-2048) (min 2047 x), max (-2048) (min 2047 y), z, min 255 a, v⟩
      | _ => old
    (24 ≤ f.layer ∨ f.undefinedBit = true → TurnsAway (.setLayer (.whole f)) s .badValue) ∧
    ∀ n : Fin 24, n.1 = f.layer → f.undefinedBit = false →
      let l := s.layer n
      (l.state = .unused → TurnsAway (.setLayer (.whole f)) s .notNow) ∧
      (l.state ≠ .unused →
        ((f.kind = some .undefined ∨ ∃ o, ¬ legal (out o)) → TurnsAway (.setLayer (.whole f)) s .badValue) ∧
        ∀ kind, (f.kind = none ∧ kind = l.kind ∨ f.kind = some (.legal kind)) → (∀ o, legal (out o)) →
          let barred := (kind = .card ∧ ∃ o, (after (l.placements.sel (outputNo o)) (out o)).isSome = true) ∨
            (kind = .menu ∧ l.kind = .card ∧ ∃ c, s.layers.designations.sel c = some n)
          (barred → TurnsAway (.setLayer (.whole f)) s .notNow) ∧
          (¬ barred →
            ((∃ o x y z a v, out o = some (.place x y z a v) ∧ l.placements.sel (outputNo o) = none ∧ 6 ≤ s.placedOn o) →
              TurnsAway (.setLayer (.whole f)) s .noSpace) ∧
            ((∀ o x y z a v, out o = some (.place x y z a v) → l.placements.sel (outputNo o) = none → s.placedOn o < 6) →
              ((∃ o x y z a v m p, out o = some (.place x y z a v) ∧ m ≠ n ∧
                  (s.layer m).placements.sel (outputNo o) = some p ∧ p.z = z) →
                TurnsAway (.setLayer (.whole f)) s .conflict) ∧
              ((∀ o x y z a v m p, out o = some (.place x y z a v) → m ≠ n →
                  (s.layer m).placements.sel (outputNo o) = some p → p.z ≠ z) →
                ∀ result, (result = .done ∧ (∀ o, inside (out o)) ∨ result = .adjusted ∧ ∃ o, ¬ inside (out o)) →
                Answers (.setLayer (.whole f)) s result .empty [.layers, .notices] fun t => ∃ placements,
                  (∀ o, placements.sel (outputNo o) = after (l.placements.sel (outputNo o)) (out o)) ∧
                  let u := s.putLayer n { l with
                    kind := kind, permitted := f.permitted.getD l.permitted, placements := placements }
                  let flips (m : Fin 24) : Prop := (u.layer m).flipPending = true ∧ u.onView m = false
                  (∀ m, (flips m → t.layer m = Layer.flipped (u.layer m) ∧ (7, 0) ∈ t.noticeKeys) ∧
                    (¬ flips m → t.layer m = u.layer m)) ∧
                  ((∀ m, ¬ flips m) → t.link.notices = s.link.notices)))))

/-- LOAD BLOCK writes its data into the load target, raises the mark, and a block that fills the plane completes its
load (R81, R82, R88). -/
def Obligations.LoadBlockWritesTheLoadTarget : Prop :=
  ∀ (s : State) (f : LoadBlock), Running s →
    (24 ≤ f.layer ∨ f.data = [] → TurnsAway (.loadBlock (.whole f)) s .badValue) ∧
    ∀ n : Fin 24, n.1 = f.layer → f.data ≠ [] →
      let l := s.layer n
      let bpp := if l.format = .argb8888 then 4 else 2
      let size := l.width * l.height * bpp
      let last := f.offset.toNat + f.data.length
      (l.state = .unused → TurnsAway (.loadBlock (.whole f)) s .notNow) ∧
      (l.state ≠ .unused → size < last → TurnsAway (.loadBlock (.whole f)) s .badValue) ∧
      (l.state ≠ .unused → last ≤ size → (l.flipPending = true ∨ l.vinLoad.isSome = true) →
        TurnsAway (.loadBlock (.whole f)) s .busy) ∧
      ∀ run, l.state ≠ .unused → last ≤ size → l.flipPending = false → l.vinLoad = none →
        s.fmm.runOf (.layer n) = some run →
        let plane := if l.planes = 2 ∧ l.front = 0 then 1 else 0
        let a := (run.base + plane * ((size + 65535) / 65536)) * 65536 + f.offset.toNat
        let mark := if f.offset.toNat ≤ l.mark ∧ l.mark < last then last else l.mark
        let completes := l.mark < size ∧ mark = size
        a + f.data.length ≤ 134217728 →
        Answers (.loadBlock (.whole f)) s .done .empty [.memory, .layers, .notices] fun t =>
          (∀ x, t.mem.read x = if a ≤ x ∧ x < a + f.data.length then f.data.getD (x - a) 0#8 else s.mem.read x) ∧
          (∀ m, m ≠ n → t.layer m = s.layer m) ∧
          (completes → t.layer n = Layer.mended { l with mark := mark } ∧ Noted s t (.layerEvent (1#24 <<< n.1) 0 0)) ∧
          (¬ completes → t.layer n = { l with mark := mark } ∧ t.link.notices = s.link.notices)

/-- PRESENT flips a hidden layer at once and a shown one at a refresh event or when it leaves view; SET CARD designates
a CARD layer (R80, R83, R84, R89, R92). The model's own choice in it: log 24. -/
def Obligations.PresentAndCardDesignation : Prop :=
  (∀ (s : State), Running s → (∀ k, 24 ≤ k → TurnsAway (.present (.whole k)) s .badValue) ∧
    ∀ n : Fin 24,
      let l := s.layer n
      (l.state = .unused ∨ l.planes ≠ 2 → TurnsAway (.present (.whole n.1)) s .notNow) ∧
      (l.state ≠ .unused → l.planes = 2 → (l.flipPending = true ∨ l.vinLoad.isSome = true) →
        TurnsAway (.present (.whole n.1)) s .busy) ∧
      (l.state ≠ .unused → l.planes = 2 → l.flipPending = false → l.vinLoad = none →
        (s.onView n = true → Answers (.present (.whole n.1)) s .accepted .empty [.layers] fun t =>
          t.layer n = { l with flipPending := true } ∧ ∀ m, m ≠ n → t.layer m = s.layer m) ∧
        (s.onView n = false → Answers (.present (.whole n.1)) s .done .empty [.layers, .notices] fun t =>
            t.layer n = Layer.flipped l ∧ (∀ m, m ≠ n → t.layer m = s.layer m) ∧
            ((t.layer n).state = l.state → t.link.notices = s.link.notices) ∧
            ((t.layer n).state ≠ l.state → Noted s t (.layerEvent 0 0 (1#24 <<< n.1)))))) ∧
  (∀ (s : State), Running s →
    (∀ k, TurnsAway (.setCard (.whole ⟨.undefined, k⟩)) s .badValue) ∧
    ∀ c : Card, (∀ k, 24 ≤ k → TurnsAway (.setCard (.whole ⟨.legal c, some k⟩)) s .badValue) ∧
      (∀ n : Fin 24, (s.layer n).state = .unused ∨ (s.layer n).kind = .menu →
        TurnsAway (.setCard (.whole ⟨.legal c, some n.1⟩)) s .notNow) ∧
      ∀ x : Option (Fin 24), (∀ n, x = some n → (s.layer n).state ≠ .unused ∧ (s.layer n).kind = .card) →
        Answers (.setCard (.whole ⟨.legal c, x.map Fin.val⟩)) s .done .empty [.designations, .layers, .notices] fun t =>
          t.layers.designations = s.layers.designations.put (cardNo c) x ∧
          let u := { s with layers := { s.layers with designations := s.layers.designations.put (cardNo c) x } }
          let flips (m : Fin 24) : Prop := (s.layer m).flipPending = true ∧ u.onView m = false
          (∀ m, (flips m → t.layer m = Layer.flipped (s.layer m) ∧ (7, 0) ∈ t.noticeKeys) ∧
            (¬ flips m → t.layer m = s.layer m)) ∧
          ((∀ m, ¬ flips m) → t.link.notices = s.link.notices)) ∧
  ∀ (s : State) (o : Output), (s.out o).owner ≠ .off → (∀ c ∈ s.fmm.pending, c.reader ≠ .scan o) →
    Makes (.refreshEvent o) s refreshPieces fun t =>
      let u := s.putOut o { s.out o with shownCard := s.cardOf o }
      let flips (m : Fin 24) : Prop := (s.layer m).flipPending = true ∧ (u.onViewOn m o = true ∨ u.onView m = false)
      (t.out o).shownCard = s.cardOf o ∧
      ∀ m, (flips m → t.layer m = Layer.flipped (s.layer m) ∧ (7, 0) ∈ t.noticeKeys) ∧ (¬ flips m → t.layer m = s.layer m)

/-- SET OUTPUT checks in order, stores what is marked present, and turns an output on or off or clears its was-off flag
(R95, R104, R105, R147). -/
def Obligations.SetOutputStoresTheComposition : Prop :=
  ∀ (s : State) (f : SetOutput), Running s →
    let codes (o : Output) : Prop := f.undefinedBit = false ∧ (∀ x, f.timing = some x → x.refresh = 50 ∨ x.refresh = 60) ∧
      f.source ≠ some .undefined ∧ (o = .centre → f.mirror ≠ some true)
    let result := if f.timing.all (fun x => decide (320 ≤ x.width ∧ x.width ≤ 1280 ∧ 240 ≤ x.height ∧ x.height ≤ 800)) then
      Result.done else .adjusted
    (3 ≤ f.output → TurnsAway (.setOutput (.whole f)) s .badValue) ∧
    ∀ o : Output, (outputNo o).1 = f.output →
      (¬ codes o → TurnsAway (.setOutput (.whole f)) s .badValue) ∧
      (codes o →
        let r := s.out o
        let stored := { r with
          hostTiming := (f.timing.map fun x => ⟨max 320 (min 1280 x.width), max 240 (min 800 x.height), x.refresh⟩).getD r.hostTiming
          background := f.background.getD r.background
          source := match f.source with
            | some (.legal x) => x
            | _ => r.source
          mirror := f.mirror.getD r.mirror }
        let others (t : State) : Prop := ∀ p, p ≠ o → t.out p = s.out p
        ((r.owner = .camera ∨ r.owner = .linger) →
          (f.enabled = some false → TurnsAway (.setOutput (.whole f)) s .notNow) ∧
          (f.enabled ≠ some false → Answers (.setOutput (.whole f)) s result .empty [.owners, .outSettings] fun t => others t ∧
            t.out o = { stored with wasOff := if f.enabled = some true then false else r.wasOff })) ∧
        ((r.owner = .off ∧ f.enabled ≠ some true) ∨ (r.owner = .normal ∧ f.enabled ≠ some false) →
          Answers (.setOutput (.whole f)) s result .empty [.outSettings] fun t => others t ∧ t.out o = stored) ∧
        (r.owner = .off → f.enabled = some true →
          Answers (.setOutput (.whole f)) s result .empty ([.outSettings, .free] ++ viewPieces) fun t => others t ∧
            OwnerNoticed t o .host ∧ ∃ fr card fit, fr.timing = stored.hostTiming ∧
              t.out o = { stored with
                enabled := true, owner := .normal, activeTiming := stored.hostTiming, frame := some fr, shownCard := card
                lastFit := fit }) ∧
        (r.owner = .normal → f.enabled = some false →
          Answers (.setOutput (.whole f)) s result .empty ([.outSettings, .free] ++ viewPieces) fun t => others t ∧
            OwnerNoticed t o .host ∧
            t.out o = { stored with enabled := false, owner := .off, wasOff := false, linger := none, frame := none } ∧
            (∀ (i : StreamId) (k : Nat) (h : OutputSet), (t.stream i).ring[k]? = some (Slot.empty h) → h.has o = false) ∧
            (∀ k, (t.cam.slots.sel k).holds.has o = false) ∧ (∀ p, (t.guide.holds.sel p).has o = false) ∧
            (o = .centre → CameraFollows s → ∀ d b, s.guide.comp = .flipPending d b → t.guide.comp = .flipPending d true)))

/-- SHOW CAMERA and RELEASE VIEW act on their members by state; a linger timer's expiry ends the linger (R100, R101,
R102, R145). The model's own choice in it: log 1, log 2, log 23. -/
def Obligations.CameraViewsAreShownAndReleased : Prop :=
  (∀ (s : State) (f : Members), Running s →
    let bad := f.undefinedMember = true ∨ ∀ o, f.set.has o = false
    (bad → TurnsAway (.showCamera (.whole f)) s .badValue ∧ TurnsAway (.releaseView (.whole f)) s .badValue) ∧
    (¬ bad → ((∃ o, f.set.has o = true ∧ (s.out o).owner = .off) → TurnsAway (.showCamera (.whole f)) s .notNow) ∧
      ((∀ o, f.set.has o = true → (s.out o).owner ≠ .off) →
        Answers (.showCamera (.whole f)) s .done .empty (.owners :: ownerPieces) fun t =>
          (s.comp.demand = false → s.cam.status = .live → (∃ o, f.set.has o = true ∧ (s.out o).owner = .normal) →
            GuideFollows s.guide { s.guide with demand := true } (s.steerDelta s.guide.geometry.ratio) t.guide) ∧ ∀ o,
          (f.set.has o = true → (s.out o).owner = .normal →
            t.out o = { s.out o with owner := .camera, reason := .request } ∧ OwnerNoticed t o .request ∧ t.comp.demand = true) ∧
          (f.set.has o = false ∨ (s.out o).owner ≠ .normal → t.out o = s.out o)) ∧
      let refused (o : Output) : Bool := f.set.has o && decide ((s.out o).owner = .camera) && decide ((s.out o).reason = .reverse)
      Answers (.releaseView (.whole f)) s (if refused .centre || refused .rearL || refused .rearR then .notNow else .done)
        (.refused ⟨refused .centre, refused .rearL, refused .rearR⟩) viewPieces fun t => ∀ o,
          (f.set.has o = true → (s.out o).owner = .camera → (s.out o).reason = .request →
            t.out o = { s.out o with owner := .normal, linger := none, activeTiming := (s.out o).hostTiming } ∧ OwnerNoticed t o .release) ∧
          (f.set.has o = true → (s.out o).owner = .linger → t.out o = OutputRec.left (s.out o) ∧ OwnerNoticed t o .release) ∧
          (f.set.has o = false ∨ (s.out o).owner = .normal ∨ (s.out o).owner = .off ∨
            ((s.out o).owner = .camera ∧ (s.out o).reason = .reverse) → t.out o = s.out o))) ∧
  (∀ (s : State) (o : Output) (e : Nat), (s.out o).owner = .linger → (s.out o).linger = some e → s.comp.policy.lingerTime * 10 ≤ e →
    Makes (.lingerTimerExpiry o) s viewPieces fun t =>
    t.out o = OutputRec.left (s.out o) ∧ OwnerNoticed t o .timer ∧ ∀ p, p ≠ o → t.out p = s.out p) ∧
  ∀ (s : State) (o : Output),
    (s.out o).owner ≠ .linger ∨ (∀ e, (s.out o).linger = some e → e < s.comp.policy.lingerTime * 10) →
    exec (.lingerTimerExpiry o) s = .next s

/-- SET VIEW POLICY stores its settings clamped and applies a new linger time, linger speed and film speed limit (R96,
R103, R112). The model's own choice in it: log 23, log 30. -/
def Obligations.ViewPolicyTakesEffect : Prop :=
  ∀ (s : State) (f : SetViewPolicy), Running s →
    (f.undefinedBit = true → TurnsAway (.setViewPolicy (.whole f)) s .badValue) ∧
    (f.undefinedBit = false →
      let p := s.comp.policy
      let q : ViewPolicy := {
        lingerTime := (f.lingerTime.map (min 10000)).getD p.lingerTime
        lingerSpeed := (f.lingerSpeed.map (min 3000)).getD p.lingerSpeed
        filmSpeedLimit := (f.filmSpeedLimit.map (min 1000)).getD p.filmSpeedLimit
        fills := ((p.fills.put 0 (f.startingFill.getD (p.fills.sel 0))).put 1 (f.unavailableFill.getD (p.fills.sel 1))).put 2
          (f.suppressedFill.getD (p.fills.sel 2)) }
      let result := if f.lingerTime.all (fun n => decide (n ≤ 10000)) && f.lingerSpeed.all (fun n => decide (n ≤ 3000)) &&
        f.filmSpeedLimit.all (fun n => decide (n ≤ 1000)) then Result.done else .adjusted
      let v := (s.signal .speed).value
      let x := (s.signal .speed).state
      Answers (.setViewPolicy (.whole f)) s result .empty ([.policy, .suppression, .lostLatch] ++ reversePieces) fun t =>
        t.comp.policy = q ∧
        (q.filmSpeedLimit = p.filmSpeedLimit → t.comp.suppression = s.comp.suppression) ∧
        (q.filmSpeedLimit ≠ p.filmSpeedLimit →
          (x = .none ∨ x = .lost ∨ (q.filmSpeedLimit : Int) ≤ v → t.comp.suppression = true) ∧
          (x = .fresh ∨ x = .held → v < (q.filmSpeedLimit : Int) - 50 → t.comp.suppression = false) ∧
          (x = .fresh ∨ x = .held → v < (q.filmSpeedLimit : Int) → (q.filmSpeedLimit : Int) - 50 ≤ v →
            t.comp.suppression = s.comp.suppression)) ∧
        (q.lingerSpeed = p.lingerSpeed → t.recv.revEff = s.recv.revEff ∧ ∀ o,
          (∀ e, f.lingerTime.isSome = true → (s.out o).owner = .linger → (s.out o).linger = some e → q.lingerTime * 10 ≤ e →
            t.out o = OutputRec.left (s.out o) ∧ OwnerNoticed t o .timer) ∧
          (f.lingerTime = none ∨ (s.out o).owner ≠ .linger ∨ (∀ e, (s.out o).linger = some e → e < q.lingerTime * 10) →
            t.out o = s.out o)) ∧
        (q.lingerSpeed ≠ p.lingerSpeed → t.recv.revEff = revOf t.recv.source t.recv.line t.busTerm ∧
          (x = .fresh → (q.lingerSpeed : Int) ≤ v → ((s.signal .reverse).state = .lost → t.recv.lostLatch = false) ∧
            ∀ o, (t.out o).owner ≠ .linger ∧ ((t.out o).owner = .camera → (t.out o).reason = .reverse))))

/-- A rise of REV_EFF takes CENTRE and the mirrored headrests into CAMERA; a fall lets every REVERSE view linger or go
(R44, R45, R46, R98, R99, R100). The model's own choice in it: log 23. -/
def Obligations.ReverseTakesAndGivesBackTheViews : Prop :=
  let given (x : ReverseSource) (line bus : Bool) : Bool := match x with
    | .line => line
    | .bus => bus
    | .either => line || bus
  let term (s : State) : Bool := match (s.signal .reverse).state with
    | .none => false
    | .fresh => decide ((s.signal .reverse).value = 1)
    | .held => decide ((s.signal .reverse).value = 1)
    | .lost => s.recv.lostLatch
  ∀ (s : State) (c : Instr) (rev : Bool), Running s →
    ((c = .debounceExpiry ∧ (∃ e, s.recv.debounce = some e ∧ s.recv.debounceTime * 10 ≤ e) ∧
       rev = given s.recv.source s.recv.rawLine (term s)) ∨
     (c = .signalLost .reverse ∧ (s.signal .reverse).state = .held ∧
       (∃ e, (s.signal .reverse).timer = some e ∧ 3 * (s.signal .reverse).timeout * 10 ≤ e) ∧
       rev = given s.recv.source s.recv.line (decide ((s.signal .reverse).value = 1) && !s.speedEnds)) ∨
     (∃ (extended : Bool) (identifier dlc : Nat) (data : List Byte) (n : Fin 16),
       let r := s.rule n
       let raw := rawField r.order r.startBit data r.length
       c = .busFrame (.data extended identifier dlc data) ∧ (∀ m, (s.rule m).accepts extended identifier = decide (m = n)) ∧
       r.target = .reverse ∧ r.covered data.length = true ∧ r.invalidPattern ≠ some raw ∧
       (r.alive = none ∨ r.aliveOf data ≠ r.lastAlive) ∧
       rev = given s.recv.source s.recv.line (decide (r.convert raw = 1)))) →
    (rev = true → s.recv.revEff = false → Makes c s ([.reverse, .rules, .busCounts, .lostLatch] ++ signalPieces) fun t =>
        t.recv.revEff = true ∧ t.mixer.revEff = true ∧ (2, 0) ∈ t.noticeKeys ∧
        ((s.out .centre).owner ≠ .camera → t.comp.demand = true) ∧
        ((s.out .centre).owner = .off → (t.out .centre).owner = .camera ∧ (t.out .centre).reason = .reverse ∧
          (t.out .centre).enabled = true ∧ (t.out .centre).wasOff = true ∧
          (t.out .centre).activeTiming = (s.out .centre).hostTiming ∧ (t.out .centre).frame.isSome = true) ∧
        ∀ o, let r := s.out o
          (r.owner = .normal → o = .centre ∨ r.mirror = true →
            t.out o = { r with owner := .camera, reason := .reverse } ∧ OwnerNoticed t o .reverse) ∧
          (r.owner = .linger →
            t.out o = { r with owner := .camera, reason := .reverse, linger := none } ∧ OwnerNoticed t o .reverse) ∧
          (r.owner = .camera → t.out o = { r with reason := .reverse } ∧ (r.reason = .request → OwnerNoticed t o .reverse)) ∧
          (o ≠ .centre → r.owner = .off ∨ (r.owner = .normal ∧ r.mirror = false) → t.out o = r)) ∧
    (rev = false → s.recv.revEff = true → Makes c s ([.reverse, .rules, .busCounts, .lostLatch] ++ signalPieces) fun t =>
        t.recv.revEff = false ∧ t.mixer.revEff = false ∧ (2, 0) ∈ t.noticeKeys ∧ t.chime.mode = .absent ∧
        ∀ o, let r := s.out o
          let still := s.comp.policy.lingerTime = 0
          let fast := (s.signal .speed).state = .fresh ∧ (s.comp.policy.lingerSpeed : Int) ≤ (s.signal .speed).value
          (r.owner = .camera → r.reason = .reverse →
            (still → t.out o = OutputRec.left r ∧ OwnerNoticed t o .reverseEnd) ∧
            (¬ still → fast → t.out o = OutputRec.left r ∧ OwnerNoticed t o .speed) ∧
            (¬ still → ¬ fast → t.out o = { r with owner := .linger, linger := some 0 } ∧ OwnerNoticed t o .reverseEnd)) ∧
          (¬ (r.owner = .camera ∧ r.reason = .reverse) → t.out o = r))

/-- A refresh event fixes a frame of the output's timing from its owner state, and its pixels follow by fit, conversion
and blending (R67, R79, R107, R108, R109, R110, R111, R113, R114, R115, R130). The model's own choice in it: log 2, log
15. -/
def Obligations.RefreshEventFixesTheFrame : Prop :=
  let planeOf (t : State) (n : Fin 24) : Nat := match t.fmm.runOf (.layer n) with
    | some x => x.base + (t.layer n).front.1 *
      (((t.layer n).width * (t.layer n).height * (if (t.layer n).format = .argb8888 then 4 else 2) + 65535) / 65536)
    | none => 0
  let rgb (r g b : Int) : Rgb :=
    let part (v : Int) : Byte := BitVec.ofNat 8 (max 0 (min 255 v)).toNat
    ⟨part r, part g, part b⟩
  let word (m : FrameMemory) (a : Nat) : Nat := (m.read a).toNat * 256 + (m.read (a + 1)).toNat
  let narrow (p : Nat) : Rgb := rgb ((p / 1024 % 32 * 255 / 31 : Nat)) ((p / 32 % 32 * 255 / 31 : Nat)) ((p % 32 * 255 / 31 : Nat))
  let picture (m : FrameMemory) (page w : Nat) (format : PixelFormat) (col row : Nat) : Rgb :=
    let a := page * 65536 + (row * w + col) * 2
    let pair := page * 65536 + (row * w + col / 2 * 2) * 2
    let y : Int := ((m.read a).toNat : Int) - 16
    let u : Int := ((m.read (pair + 1)).toNat : Int) - 128
    let v : Int := ((m.read (pair + 3)).toNat : Int) - 128
    match format with
    | .rgb565 => rgb ((word m a / 2048 * 255 / 31 : Nat)) ((word m a / 32 % 64 * 255 / 63 : Nat)) ((word m a % 32 * 255 / 31 : Nat))
    | .yuv422 => rgb ((298 * y + 409 * v + 128) / 256) ((298 * y - 100 * u - 208 * v + 128) / 256) ((298 * y + 516 * u + 128) / 256)
  let blended (pixel placed : Nat) (top below : Rgb) : Rgb :=
    let a := pixel * placed / 255
    let mix (x y : Byte) : Byte := BitVec.ofNat 8 ((x.toNat * a + y.toNat * (255 - a)) / 255)
    ⟨mix top.red below.red, mix top.green below.green, mix top.blue below.blue⟩
  let laid (m : FrameMemory) (x y : Nat) (below : Rgb) (d : LayerDraw) : Rgb :=
    let col : Int := (x : Int) - d.x
    let row : Int := (y : Int) - d.y
    let n := row.toNat * d.width + col.toNat
    if 0 ≤ col ∧ col < d.width ∧ 0 ≤ row ∧ row < d.height then
      (match d.format with
        | .argb8888 =>
          let a := d.page * 65536 + n * 4
          blended (m.read a).toNat d.alpha ⟨m.read (a + 1), m.read (a + 2), m.read (a + 3)⟩ below
        | .argb1555 =>
          let p := word m (d.page * 65536 + n * 2)
          blended (if p < 32768 then 0 else 255) d.alpha (narrow p) below)
    else below
  let taken (f : Fit) (ws hs x y : Nat) : Option (Nat × Nat) :=
    if f.ox ≤ x ∧ x < f.ox + f.sw ∧ f.oy ≤ y ∧ y < f.oy + f.sh then some ((x - f.ox) * ws / f.sw, (y - f.oy) * hs / f.sh) else none
  let under (m : FrameMemory) (base : FrameBase) (x y : Nat) : Rgb := match base with
    | .background c => c
    | .film c _ _ page w h format fit => (match taken fit w h x y with
      | some (col, row) => picture m page w format col row
      | none => c)
    | .card _ fill graphic => (match graphic with
      | some d => laid m x y fill d
      | none => fill)
    | .camera slot w h fit overlay => (match taken fit w h x y with
      | none => ⟨0, 0, 0⟩
      | some (col, row) =>
        let live : Rgb := match slot with
          | some k => picture m (k.1 * 38) w .yuv422 col row
          | none => ⟨0, 0, 0⟩
        (match overlay with
          | none => live
          | some p =>
            let q := word m ((114 + p.1 * 38) * 65536 + (row * w + col) * 2)
            if q < 32768 then live else narrow q))
  (∀ (s : State) (o : Output), (s.out o).owner = .off → exec (.refreshEvent o) s = .next s) ∧
  (∀ (s : State) (o : Output), (s.out o).owner ≠ .off → Makes (.refreshEvent o) s refreshPieces fun t =>
    (∀ p, p ≠ o → t.out p = s.out p) ∧
    (t.out o).linger = (s.out o).linger ∧
    (t.out o).activeTiming = (if (s.out o).owner = .normal then (s.out o).hostTiming else (s.out o).activeTiming) ∧
    ∃ f, (t.out o).frame = some f ∧ f.timing = (t.out o).activeTiming ∧
      let view := (s.out o).owner = .camera ∨ (s.out o).owner = .linger
      let r := s.out o
      let shows (n : Fin 24) (p : Placement) : Prop := (t.layer n).state = .ready ∧ (t.layer n).kind = .menu ∧
        (t.layer n).placements.sel (outputNo o) = some p ∧ p.visible = true ∧ (view → (t.layer n).permitted = true)
      let drawn (n : Fin 24) (x y : Int) (z alpha : Nat) : LayerDraw :=
        ⟨n, planeOf t n, (t.layer n).format, (t.layer n).width, (t.layer n).height, x, y, z, alpha⟩
      let card (c : Card) : FrameBase := .card c (s.comp.policy.fills.sel (cardNo c)) (match s.layers.designations.sel (cardNo c) with
        | none => none
        | some n => if (t.layer n).state = .ready then
            some (drawn n (Int.tdiv ((f.timing.width : Int) - (t.layer n).width) 2)
              (Int.tdiv ((f.timing.height : Int) - (t.layer n).height) 2) 0 255)
          else none)
      (f.layers.map LayerDraw.z).Pairwise (· ≤ ·) ∧ (f.layers.map LayerDraw.layer).Nodup ∧
      (∀ d, d ∈ f.layers ↔ ∃ n p, shows n p ∧ d = drawn n p.x p.y p.z p.alpha) ∧
      (r.owner = .normal → r.source = none → f.base = .background r.background) ∧
      (∀ i, r.owner = .normal → r.source = some i →
        (o = .centre → s.comp.suppression = true → f.base = card .suppressed) ∧
        (o ≠ .centre ∨ s.comp.suppression = false →
          (showingSlot (t.stream i).ring = none → f.base = .background r.background) ∧
          ∀ k stamp run, showingSlot (t.stream i).ring = some (k, stamp) → t.fmm.runOf (.stream i) = some run →
            let st := t.stream i
            f.base = .film r.background i k (run.base + k * ((st.width * st.height * 2 + 65535) / 65536)) st.width st.height st.format
              (fitPicture st.width st.height f.timing.width f.timing.height))) ∧
      (view → (s.cam.status = .off ∨ s.cam.status = .waking → f.base = card .starting) ∧
        (s.cam.status = .lost ∨ s.cam.status = .frozen → f.base = card .unavailable) ∧
        (s.cam.status = .live → f.base = .camera t.cam.newest s.cam.settings.width s.cam.settings.height
            (fitPicture s.cam.settings.width s.cam.settings.height f.timing.width f.timing.height)
            (if t.guide.content = .hidden then none else some t.guide.front) ∧
          t.cam.shown = t.cam.newest ∧ (∀ k, t.cam.newest = some k → (t.cam.slots.sel k).holds.has o = true) ∧
          (t.guide.content ≠ .hidden → (t.guide.holds.sel t.guide.front).has o = true)))) ∧
  (∀ ws hs wo ho : Nat, let f := fitPicture ws hs wo ho
    (wo * hs ≤ ho * ws → f.sw = wo ∧ f.sh = hs * wo / ws / 2 * 2) ∧ (ho * ws < wo * hs → f.sh = ho ∧ f.sw = ws * ho / hs / 2 * 2) ∧
    f.ox = (wo - f.sw) / 2 ∧ f.oy = (ho - f.sh) / 2) ∧
  ∀ (s : State) (o : Output) (x y : Nat),
    ((s.out o).frame = none → s.pixel o x y = none) ∧
    ∀ f, (s.out o).frame = some f →
      s.pixel o x y = if x < f.timing.width ∧ y < f.timing.height then
        some (f.layers.foldl (laid s.mem x y) (under s.mem f.base x y)) else none

/-- SET CAMERA checks its fields and the camera state, stores them clamped, and starts or stops the camera as keep-warm
now says (R120, R122, R123, R132). The model's own choice in it: log 50. -/
def Obligations.SetCameraChecksStoresAndActs : Prop :=
  ∀ (s : State) (f : SetCamera), Running s →
    let legal := f.undefinedBit = false ∧ ∀ x, f.format = some x → x.format = .legal .yuv422 ∧ 320 ≤ x.width ∧ x.width ≤ 1280 ∧
      x.width % 2 = 0 ∧ 240 ≤ x.height ∧ x.height ≤ 960
    let result := if f.frameTimeout.all (fun n => decide (40 ≤ n ∧ n ≤ 500)) && f.wakeTimeout.all (fun n => decide (100 ≤ n ∧ n ≤ 2000)) &&
      f.freezeCount.all (fun n => decide (5 ≤ n ∧ n ≤ 60)) then Result.done else .adjusted
    let c := s.cam.settings
    let d : CameraSettings := { c with
      width := (f.format.map CameraFormat.width).getD c.width
      height := (f.format.map CameraFormat.height).getD c.height
      frameTimeout := (f.frameTimeout.map fun n => max 40 (min 500 n)).getD c.frameTimeout
      wakeTimeout := (f.wakeTimeout.map fun n => max 100 (min 2000 n)).getD c.wakeTimeout
      freezeCount := (f.freezeCount.map fun n => max 5 (min 60 n)).getD c.freezeCount
      keepWarm := f.keepWarm.getD c.keepWarm }
    let runs := s.comp.demand = true ∨ d.keepWarm = true
    let timed := f.frameTimeout.isSome = true ∨ f.wakeTimeout.isSome = true
    (¬ legal → TurnsAway (.setCamera (.whole f)) s .badValue) ∧
    (legal → f.format.isSome = true → s.cam.status ≠ .off → TurnsAway (.setCamera (.whole f)) s .notNow) ∧
    (legal → (f.format = none ∨ s.cam.status = .off) →
      Answers (.setCamera (.whole f)) s result .empty ([.camSettings, .capture] ++ cameraPieces) fun t =>
        t.cam.settings = d ∧ t.cam.good = s.cam.good ∧ t.cam.short = s.cam.short ∧ t.cam.frozen = s.cam.frozen ∧
        (∀ k, (t.cam.slots.sel k).holds = (s.cam.slots.sel k).holds) ∧
        (f.format.isSome = true → (∀ k, (t.cam.slots.sel k).state = .empty) ∧ t.cam.newest = none ∧ t.cam.shown = none ∧
          t.guide.camWidth = d.width ∧ t.guide.camHeight = d.height) ∧
        (s.cam.status = .off → runs → t.cam.status = .waking ∧ t.cam.timer = some 0 ∧ (4, 0) ∈ t.noticeKeys) ∧
        (s.cam.status = .off → ¬ runs → t.cam.status = .off) ∧
        (s.cam.status ≠ .off → ¬ runs → t.cam.status = .off ∧ t.cam.timer = none ∧ (4, 0) ∈ t.noticeKeys) ∧
        (s.cam.status ≠ .off → runs →
          (¬ timed → t.cam.status = s.cam.status ∧ t.cam.timer = s.cam.timer) ∧
          ∀ e, timed → s.cam.timer = some e →
            let limit := if s.cam.status = .waking then d.wakeTimeout else d.frameTimeout
            (limit * 10 ≤ e → t.cam.status = .lost ∧ t.cam.timer = some 0) ∧
            (e < limit * 10 → t.cam.status = s.cam.status ∧ t.cam.timer = some e)))

/-- A camera frame takes a slot that is neither newest nor held, its lines are written and sampled, and at its end it is
judged (R118, R122, R125, R126, R127, R129, R145, R148). The model's own choice in it: log 2, log 44. -/
def Obligations.CameraFramesAreCapturedAndJudged : Prop :=
  (∀ s : State, s.cam.status = .off → exec .cameraFrameStart s = .next s) ∧
  (∀ s : State, s.cam.status ≠ .off → s.cam.rx = none →
    let free (k : Fin 3) : Prop := s.cam.newest ≠ some k ∧ ∀ o, (s.cam.slots.sel k).holds.has o = false
    let vacant (k : Fin 3) : Prop := free k ∧ (s.cam.slots.sel k).state = .empty
    let old (k : Fin 3) : Prop := free k ∧ (s.cam.slots.sel k).state = .complete
    let takes (k : Fin 3) : Prop := Makes .cameraFrameStart s [.capture] fun t =>
      t.cam.rx = some ⟨some k, 0, true, 0xFFFF⟩ ∧ t.cam.lastWritten = k ∧ t.cam.shown = s.cam.shown ∧
      t.cam.slots.sel k = ⟨.filling 0, (s.cam.slots.sel k).holds⟩ ∧ (∀ j, j ≠ k → t.cam.slots.sel j = s.cam.slots.sel j) ∧
      t.cam.order = s.cam.order.filter fun j => !decide (j = k)
    (vacant s.cam.lastWritten → takes s.cam.lastWritten) ∧
    (∀ k, ¬ vacant s.cam.lastWritten → vacant k → (∀ j, j < k → ¬ vacant j) → takes k) ∧
    (∀ pre k post, (∀ j, ¬ vacant j) → s.cam.order = pre ++ k :: post → (∀ j ∈ pre, ¬ old j) → old k → takes k) ∧
    ((∀ j, ¬ vacant j) → (∀ j ∈ s.cam.order, ¬ old j) → Makes .cameraFrameStart s [.capture] fun t =>
      t.cam = { s.cam with rx := some ⟨none, 0, true, 0xFFFF⟩ })) ∧
  (∀ (s : State) (line : List Byte), s.cam.rx = none → exec (.cameraLine line) s = .next s ∧ exec .cameraFrameEnd s = .next s) ∧
  (∀ (s : State) (line : List Byte) (k : Fin 3) (n : Nat) (sound : Bool) (chk : BitVec 16),
    let w := s.cam.settings.width
    let h := s.cam.settings.height
    let bytes := line.take (2 * w)
    let a := k.1 * 38 * 65536 + n * (2 * w)
    let columns := (List.range 16).map fun i => (2 * i + 1) * w / 32
    s.cam.rx = some ⟨some k, n, sound, chk⟩ → (n < h → a + bytes.length ≤ 134217728) →
    Makes (.cameraLine line) s [.memory, .capture] fun t =>
      (∀ x, t.mem.read x = if n < h ∧ a ≤ x ∧ x < a + bytes.length then bytes.getD (x - a) 0#8 else s.mem.read x) ∧
      t.cam.slots.sel k = ⟨.filling (n + 1), (s.cam.slots.sel k).holds⟩ ∧ (∀ j, j ≠ k → t.cam.slots.sel j = s.cam.slots.sel j) ∧
      ∃ chk', t.cam = { s.cam with
          slots := t.cam.slots, rx := some ⟨some k, n + 1, sound && decide (line.length = 2 * w), chk'⟩ } ∧
        (n < h → (∃ j, j < 16 ∧ (2 * j + 1) * h / 32 = n) →
          chk' = checkFrom chk (columns.flatMap fun x => [line.getD (2 * x) 0#8, line.getD (2 * x + 1) 0#8])) ∧
        (h ≤ n ∨ (∀ j, j < 16 → (2 * j + 1) * h / 32 ≠ n) → chk' = chk)) ∧
  (∀ s : State, s.cam.status ≠ .off → s.cam.rx.isSome = true →
    ∃ u, exec .cameraFrameEnd s = .next u ∧ u.cam.rx = none ∧ exec .cameraFrameStart s = exec .cameraFrameStart u) ∧
  ∀ (s : State) (slot : Option (Fin 3)) (n : Nat) (sound : Bool) (chk : BitVec 16),
    s.cam.rx = some ⟨slot, n, sound, chk⟩ → s.cam.status ≠ .off →
    let c := s.cam
    let good := sound = true ∧ n = c.settings.height
    let run := if c.prevSig = some chk then satInc c.equalRun else 0
    Makes .cameraFrameEnd s (.capture :: cameraPieces) fun t =>
      t.cam.rx = none ∧ t.cam.shown = c.shown ∧ t.cam.lastWritten = c.lastWritten ∧
      (∀ k, slot = some k → t.cam.slots.sel k = ⟨if good then .complete else .empty, (c.slots.sel k).holds⟩) ∧
      (∀ j, slot ≠ some j → t.cam.slots.sel j = c.slots.sel j) ∧
      (∀ k, slot = some k → t.cam.order = if good then c.order ++ [k] else c.order) ∧ (slot = none → t.cam.order = c.order) ∧
      (t.cam.status = c.status → t.link.notices = s.link.notices) ∧
      (t.cam.status = c.status → t.guide = s.guide) ∧
      (t.cam.status ≠ c.status → Noted s t (.cameraState t.cam.status) ∧
        GuideFollows s.guide { s.guide with camStatus := t.cam.status } (s.steerDelta s.guide.geometry.ratio) t.guide) ∧
      (good → t.cam.good = satInc c.good ∧ t.cam.short = c.short ∧ t.cam.timer = some 0 ∧ t.cam.prevSig = some chk ∧
        t.cam.equalRun = run ∧ t.cam.frozen = (if c.prevSig = some chk then satInc c.frozen else c.frozen) ∧
        t.cam.status = (match c.status with
          | .waking => .live
          | .live => if c.settings.freezeCount ≤ run then .frozen else .live
          | .frozen => if c.prevSig = some chk then .frozen else .live
          | .lost => if c.recovery = 2 then .live else .lost
          | .off => .off) ∧
        t.cam.recovery = (if c.status = .lost then (if c.recovery = 2 then 0 else c.recovery + 1) else c.recovery)) ∧
      (¬ good → t.cam.good = c.good ∧ t.cam.short = satInc c.short ∧ t.cam.timer = c.timer ∧ t.cam.status = c.status ∧
        t.cam.frozen = c.frozen ∧
        t.cam.prevSig = (if c.status = .lost then none else c.prevSig) ∧
        t.cam.equalRun = (if c.status = .lost then 0 else c.equalRun) ∧
        t.cam.recovery = (if c.status = .lost then 0 else c.recovery))

/-- A timeout in WAKING, LIVE or FROZEN makes the camera LOST and stops the Generator; one in LOST clears the recovery
(R121, R122, R124, R126, R127, R148). The model's own choice in it: log 1, log 2. -/
def Obligations.CameraTimeoutsLoseTheCamera : Prop :=
  (∀ (s : State) (c : Instr) (e : Nat), s.cam.timer = some e →
      (c = .wakeTimeout ∧ s.cam.status = .waking ∧ s.cam.settings.wakeTimeout * 10 ≤ e) ∨
      (c = .frameTimeout ∧ (s.cam.status = .live ∨ s.cam.status = .frozen) ∧ s.cam.settings.frameTimeout * 10 ≤ e) →
    Makes c s cameraPieces fun t =>
      t.cam = { s.cam with status := .lost, timer := some 0, prevSig := none, equalRun := 0, recovery := 0 } ∧
      t.guide = (if s.guide.active = true then Guide.stopped { s.guide with camStatus := .lost }
        else { s.guide with camStatus := .lost }) ∧ Noted s t (.cameraState .lost)) ∧
  (∀ (s : State) (e : Nat), s.cam.status = .lost → s.cam.timer = some e → s.cam.settings.frameTimeout * 10 ≤ e →
    Makes .frameTimeout s [.camera] fun t =>
    t.cam = { s.cam with timer := some 0, prevSig := none, equalRun := 0, recovery := 0 }) ∧
  (∀ s : State, s.cam.status ≠ .waking ∨ (∀ e, s.cam.timer = some e → e < s.cam.settings.wakeTimeout * 10) →
    exec .wakeTimeout s = .next s) ∧
  ∀ s : State, s.cam.status = .off ∨ s.cam.status = .waking ∨ (∀ e, s.cam.timer = some e → e < s.cam.settings.frameTimeout * 10) →
    exec .frameTimeout s = .next s

/-- Geometry, style and steering request a recompute; a drawing fills the back plane by the guide arithmetic, and its
flip brings it in front (R136, R137, R138, R139, R140, R141, R142, R143, R145, R146, R147, R149). The model's own choice
in it: log 2, log 14, log 37. -/
def Obligations.GuideRequestsAndDrawingEnd : Prop :=
  let steered (ratio : Nat) (value : Int) : Int := max (-4500) (min 4500 (Int.tdiv (value * 1000) ratio))
  let tangentOf (a : Nat) : Nat := if a / 100 < 45 then
      Config.tanTable.getD (a / 100) 0 +
        (Config.tanTable.getD (a / 100 + 1) 0 - Config.tanTable.getD (a / 100) 0) * (a % 100) / 100
    else 65536
  let point (g : Geometry) (offset : Int) (kappa : Nat) (neg : Bool) (p : Nat × Option (Fin 3)) : Option TrackPoint :=
    let dev : Int := ((kappa * p.1 * (p.1 + 2 * g.overhang) / 2 ^ 25 : Nat) : Int)
    let x := max (-8000) (min 8000 (offset + if neg then -dev else dev))
    let y : Int := p.1
    let h (i : Fin 9) : Int := (g.homography.sel i).toInt
    let den := h 6 * x + h 7 * y + h 8
    if den ≤ 0 then none
    else some ⟨max (-4096) (min 8191 (Int.tdiv (h 0 * x + h 1 * y + h 2) den)),
      max (-4096) (min 8191 (Int.tdiv (h 3 * x + h 4 * y + h 5) den)), p.2⟩
  let track (g : Geometry) (offset : Int) (kappa : Nat) (neg : Bool) : List TrackPoint :=
    ((g.distances.map (point g offset kappa neg)).takeWhile Option.isSome).filterMap id
  let line (p q : TrackPoint) : List (Int × Int) :=
    let m := max (q.u - p.u).natAbs (q.v - p.v).natAbs
    (List.range (m + 1)).map fun n => (p.u + Int.tdiv ((q.u - p.u) * n) m, p.v + Int.tdiv ((q.v - p.v) * n) m)
  let chain (ps : List TrackPoint) : List (Int × Int) := (ps.zip ps.tail).flatMap fun e => line e.1 e.2
  let barOf (m : Fin 3) (l r : List TrackPoint) : List (Int × Int) :=
    match l.find? (fun p => decide (p.marker = some m)), r.find? (fun p => decide (p.marker = some m)) with
    | some p, some q => line p q
    | _, _ => []
  let paint (c : BitVec 16) (ps : List (Int × Int)) : List ((Int × Int) × BitVec 16) := ps.map fun p => (p, c)
  let place (m : Option (Fin 3)) : Nat := match m with
    | none => 0
    | some k => k.1 + 1
  (∀ (s : State) (c : Instr) (geometry : Geometry) (valid : Bool) (style : GuideStyle) (result : Result), Running s →
    ((∃ f, c = .setGeometry (.whole f) ∧ style = s.guide.style ∧ valid = true ∧
        geometry = ⟨max 1000 (min 2500 f.ratio), max 2000 (min 3500 f.wheelbase), max 300 (min 1500 f.overhang),
          max 1200 (min 2000 f.track), max 1000 (min 5000 f.reach), f.homography, f.marker1, f.marker2, f.marker3, f.staticLines⟩ ∧
        f.marker1 < f.marker2 ∧ f.marker2 < f.marker3 ∧ f.marker3 < geometry.reach ∧
        result = if geometry.ratio = f.ratio ∧ geometry.wheelbase = f.wheelbase ∧ geometry.overhang = f.overhang ∧
          geometry.track = f.track ∧ geometry.reach = f.reach then .done else .adjusted) ∨
      (∃ f : SetGuideStyle, c = .setGuideStyle (.whole f) ∧ f.undefinedBit = false ∧ geometry = s.guide.geometry ∧
        valid = s.guide.valid ∧ result = .done ∧
        style = ⟨f.track.getD s.guide.style.track, f.marker1.getD s.guide.style.marker1, f.marker2.getD s.guide.style.marker2,
          f.marker3.getD s.guide.style.marker3, f.static.getD s.guide.style.static⟩)) →
    Answers c s result .empty [.geometry, .guide] fun t =>
      Recomputes { s.guide with geometry := geometry, valid := valid, style := style } (s.steerDelta geometry.ratio) t.guide) ∧
  (∀ (s : State) (f : SetGeometry), Running s →
    ¬ (f.marker1 < f.marker2 ∧ f.marker2 < f.marker3 ∧ f.marker3 < max 1000 (min 5000 f.reach)) →
    TurnsAway (.setGeometry (.whole f)) s .badValue) ∧
  (∀ (s : State) (f : SetGuideStyle), Running s → f.undefinedBit = true → TurnsAway (.setGuideStyle (.whole f)) s .badValue) ∧
  (∀ (s : State) (extended : Bool) (identifier dlc : Nat) (data : List Byte) (n : Fin 16), ReverseSettled s →
    Running s ∨ .receiver ∉ s.steps → (∀ m, (s.rule m).accepts extended identifier = decide (m = n)) → (s.rule n).target = .steerAngle →
    let r := s.rule n
    let raw := rawField r.order r.startBit data r.length
    r.covered data.length = true → r.invalidPattern ≠ some raw → (r.alive = none ∨ r.aliveOf data ≠ r.lastAlive) →
    let angle := steered s.guide.geometry.ratio (r.convert raw)
    let moves := (s.signal .steerAngle).state ≠ .fresh ∨ ∀ a, s.guide.lastAngle = some a → 10 ≤ (angle - a).natAbs
    Makes (.busFrame (.data extended identifier dlc data)) s [.rules, .busCounts, .signals, .notices, .guide] fun t =>
      (moves → Recomputes s.guide (some angle) t.guide) ∧ (¬ moves → t.guide = s.guide)) ∧
  (∀ s : State, (∀ d, s.guide.comp ≠ .drawing d) → exec .drawingEnd s = .next s) ∧
  (∀ (s : State) (d : Drawing), s.guide.comp = .drawing d → d.width * d.height * 2 ≤ 38 * 65536 →
    let back : Fin 2 := 1 - s.guide.front
    let base := (114 + back.1 * 38) * 65536
    let covers (x y : Nat) (p : (Int × Int) × BitVec 16) : Bool :=
      decide (p.1.1 - 1 ≤ x ∧ (x : Int) ≤ p.1.1 + 2 ∧ p.1.2 - 1 ≤ y ∧ (y : Int) ≤ p.1.2 + 2)
    let hit := ∃ c ∈ s.fmm.pending, c.reader = .guide ∧ c.unit = .guidePlane back
    let held := ∃ o, (s.guide.holds.sel back).has o = true
    let angle := s.steerDelta s.guide.geometry.ratio
    let g := s.guide
    Makes .drawingEnd s [.memory, .guide, .consequences] fun t =>
      (∀ a, a < base ∨ base + 38 * 65536 ≤ a → t.mem.read a = s.mem.read a) ∧
      (∀ x y, x < d.width → y < d.height → t.mem.read16 (base + (y * d.width + x) * 2) =
        match d.strokes.reverse.find? (covers x y) with
        | some p => p.2.toNat
        | none => 0) ∧
      t.fmm.pending = s.fmm.pending.filter (fun c => !decide (c.reader = .guide)) ∧
      (¬ hit → t.guide = { g with comp := .flipPending d (decide ((s.out .centre).owner = .off)) }) ∧
      (hit → held → t.guide = { g with comp := .waiting, recompute := false }) ∧
      (hit → ¬ held → t.guide = { g with
        comp := .drawing ⟨g.geometry, g.style, g.camWidth, g.camHeight, angle⟩, recompute := false, lastAngle := angle })) ∧
  (∀ (s : State) (o : Output) (d : Drawing) (anyView : Bool), (s.out o).owner ≠ .off → s.guide.comp = .flipPending d anyView →
    (∀ c ∈ s.fmm.pending, c.reader ≠ .scan o) →
    let flips := if anyView = true then (s.out o).owner = .camera ∨ (s.out o).owner = .linger else o = .centre
    let held := ∃ p, p ≠ o ∧ (s.guide.holds.sel s.guide.front).has p = true
    let angle := s.steerDelta s.guide.geometry.ratio
    Makes (.refreshEvent o) s refreshPieces fun t =>
      (¬ flips → t.guide.comp = .flipPending d anyView ∧ t.guide.front = s.guide.front ∧ t.guide.content = s.guide.content) ∧
      (flips → t.guide.front = 1 - s.guide.front ∧ t.guide.content = (if d.angle.isSome then .dynamic else .static) ∧
        t.guide.recompute = false ∧
        (s.guide.recompute = false → t.guide.comp = .idle ∧ t.guide.lastAngle = s.guide.lastAngle) ∧
        (s.guide.recompute = true → held → t.guide.comp = .waiting ∧ t.guide.lastAngle = s.guide.lastAngle) ∧
        (s.guide.recompute = true → ¬ held → t.guide.lastAngle = angle ∧
          t.guide.comp = .drawing ⟨s.guide.geometry, s.guide.style, s.guide.camWidth, s.guide.camHeight, angle⟩))) ∧
  (∀ g : Geometry,
    (g.distances).Perm (((List.range 8).map fun k => (k * g.reach / 7, none)) ++
      [(g.marker1, some 0), (g.marker2, some 1), (g.marker3, some 2)]) ∧
    (g.distances).Pairwise fun p q => p.1 < q.1 ∨ (p.1 = q.1 ∧ place p.2 ≤ place q.2)) ∧
  ∀ d : Drawing,
    let g := d.geometry
    let half : Int := ((g.track / 2 : Nat) : Int)
    d.strokes =
      (if g.staticLines then paint d.style.static (chain (track g half 0 false)) ++ paint d.style.static (chain (track g (-half) 0 false))
        else []) ++
      (match d.angle with
        | none => []
        | some angle =>
          let kappa := tangentOf angle.natAbs * 256 / g.wheelbase
          let l := track g half kappa (decide (angle < 0))
          let r := track g (-half) kappa (decide (angle < 0))
          paint d.style.track (chain l) ++ paint d.style.track (chain r) ++ paint d.style.marker1 (barOf 0 l r) ++
            paint d.style.marker2 (barOf 1 l r) ++ paint d.style.marker3 (barOf 2 l r))

/-- PLAY CHIME merges, takes the lowest free entry, evicts or is refused; SAFETY preempts; CANCEL CHIME and repetition
ends end chimes (R152, R153, R154, R155, R156, R157). -/
def Obligations.ChimesAreAdmittedAndCancelled : Prop :=
  (∀ (s : State) (f : PlayChime), Running s →
    let clamp (x : ChimeSound) : Option (Sound × Bool) := match x with
      | .tone n on off level => some (.tone (max 6 (min 255 n)) (max 10 (min 2000 on)) (min 2000 off) (min 63 level),
          decide (6 ≤ n ∧ n ≤ 255 ∧ 10 ≤ on ∧ on ≤ 2000 ∧ off ≤ 2000 ∧ level ≤ 63))
      | .sample k level => if h : k < 16 then some (.sample ⟨k, h⟩ (min 63 level), decide (level ≤ 63)) else none
    let rank (c : ChimeClass) : Nat := match c with
      | .info => 0
      | .warning => 1
      | .safety => 2
    (f.cls = .undefined ∨ f.sound = .undefined ∨ (∃ x, f.sound = .legal x ∧ clamp x = none) →
      TurnsAway (.playChime (.whole f)) s .badValue) ∧
    ∀ cls x sound kept, f.cls = .legal cls → f.sound = .legal x → clamp x = some (sound, kept) →
      (∀ n level, sound = .sample n level → ((s.sample n).state = .undefined ∨ (s.sample n).state = .damaged →
        TurnsAway (.playChime (.whole f)) s .badValue) ∧
        ((s.sample n).state = .loading → TurnsAway (.playChime (.whole f)) s .notNow)) ∧
      ((∀ n level, sound = .sample n level → (s.sample n).state = .ready) →
        let result := if kept = true ∧ f.repeats ≤ 15 then Result.done else .adjusted
        let same (i : Fin 8) : Prop := ∃ e, s.entry i = some e ∧ e.origin = .host ∧ e.sound = sound
        let fresh (playing : Bool) : ChimeEntry :=
          ⟨cls, .host, sound, min 15 f.repeats, f.tag, playing, s.chime.nextAge, 0, 0, none⟩
        let answered (i : Fin 8) (e : ChimeEntry) : Prop :=
          Answers (.playChime (.whole f)) s result (.chimeEntry i) chimePieces fun t =>
            t.entry i = some e ∧ (∀ j, j ≠ i → t.entry j = s.entry j) ∧ t.link.notices = s.link.notices
        (∀ i e, s.entry i = some e → e.origin = .host → e.sound = sound → (∀ j, same j → j = i) → s.playingEntry.isSome = true →
          let c := if rank e.cls < rank cls then cls else e.cls
          e.playing = true ∨ c ≠ .safety ∨ e.cls = .safety →
          answered i { e with cls := c, repetitions :=
            if e.repetitions = 0 ∨ min 15 f.repeats = 0 then 0 else max e.repetitions (min 15 f.repeats) }) ∧
        (∀ i, (∀ j, ¬ same j) → s.entry i = none → (∀ j, j < i → s.entry j ≠ none) →
          (s.playingEntry.isSome = true → cls ≠ .safety → answered i (fresh false)) ∧
          ((∀ j, s.entry j = none) → answered i (fresh true)) ∧
          (∀ p e, cls = .safety → s.playingEntry = some p → s.entry p = some e → e.cls ≠ .safety →
            (∀ j d, s.entry j = some d → d.cls ≠ .safety ∧ (d.playing = true → j = p)) →
            (e.origin = .host → 3 ≤ e.preempted → s.recv.revEff = false) →
            Answers (.playChime (.whole f)) s result (.chimeEntry i) chimePieces fun t =>
              t.entry i = some (fresh true) ∧
              (e.origin = .park ∨ e.preempted < 3 →
                t.entry p = some { e with playing := false, position := 0, preempted := min 4 (e.preempted + 1) } ∧
                t.link.notices = s.link.notices) ∧
              (e.origin = .host → 3 ≤ e.preempted → t.entry p = none ∧ Noted s t (.chimeEnded p e.tag .preemptLimit)) ∧
              ∀ j, j ≠ i → j ≠ p → t.entry j = s.entry j)) ∧
        ((∀ j, ¬ same j) → (∀ j, s.entry j ≠ none) →
          ((∀ j e, s.entry j = some e → e.origin = .host → e.playing = false → rank cls ≤ rank e.cls) →
            TurnsAway (.playChime (.whole f)) s .noSpace) ∧
          (∀ i e, s.entry i = some e → e.origin = .host → e.playing = false → rank e.cls < rank cls → cls ≠ .safety →
            (∀ j d, s.entry j = some d → d.origin = .host → d.playing = false → j ≠ i →
              rank e.cls < rank d.cls ∨ (rank e.cls = rank d.cls ∧ d.age < e.age)) →
            s.playingEntry.isSome = true → s.recv.revEff = false →
            Answers (.playChime (.whole f)) s result (.chimeEntry i) chimePieces fun t =>
              t.entry i = some (fresh false) ∧ (∀ j, j ≠ i → t.entry j = s.entry j) ∧
              Noted s t (.chimeEnded i e.tag .evicted))))) ∧
  (∀ (s : State) (i : Fin 8) (e : ChimeEntry), s.entry i = some e → e.playing = true →
    (∀ j d, s.entry j = some d → d.playing = true → j = i) → s.recv.revEff = false →
    (∀ c ∈ s.fmm.pending, c.reader = .chime → c.played = false) →
    (match e.sound with
      | .tone _ on off _ => (on + off) * 48
      | .sample n _ => (s.sample n).count) ≤ e.position + 1 →
    let waits := ∃ j d, s.entry j = some d ∧ d.playing = false ∧ classRank e.cls < classRank d.cls
    Makes .outputSamplePeriod s handPieces fun t =>
      let chooses := (∀ j f, Chosen s j f → t.entry j = some (ChimeEntry.started f) ∧
          ∀ k, k ≠ i → k ≠ j → t.entry k = s.entry k) ∧
        ((∀ j d, s.entry j = some d → j = i) → ∀ j, j ≠ i → t.entry j = none)
      (e.repetitions = 1 → t.entry i = none ∧ Noted s t (.chimeEnded i e.tag .played) ∧ chooses) ∧
      (e.repetitions ≠ 1 → waits → t.entry i = some { e with
        playing := false, position := 0, repetitions := e.repetitions - 1 } ∧ t.link.notices = s.link.notices ∧ chooses) ∧
      (e.repetitions ≠ 1 → ¬ waits → t.entry i = some { ChimeEntry.started e with repetitions := e.repetitions - 1 } ∧
        t.link.notices = s.link.notices ∧ ∀ j, j ≠ i → t.entry j = s.entry j)) ∧
  ∀ (s : State) (f : CancelChime), Running s → (8 ≤ f.entry → TurnsAway (.cancelChime (.whole f)) s .badValue) ∧
    ∀ i : Fin 8, i.1 = f.entry →
      ((s.entry i = none ∨ ∃ e, s.entry i = some e ∧ (e.tag ≠ f.tag ∨ e.origin = .park)) →
        TurnsAway (.cancelChime (.whole f)) s .notNow) ∧
      (∀ e, s.entry i = some e → e.tag = f.tag → e.origin = .host → s.recv.revEff = false →
        Answers (.cancelChime (.whole f)) s .done .empty chimePieces fun t =>
          t.entry i = none ∧ Noted s t (.chimeEnded i e.tag .cancelled) ∧
          ∀ p, s.playingEntry = some p → p ≠ i → ∀ j, j ≠ i → t.entry j = s.entry j)

/-- SET PARK CADENCE, a distance and a rise of REV_EFF decide the wanted park sound again from the nearest counted
distance (R38, R46, R157, R162, R163, R164). The model's own choice in it: log 20, log 51. -/
def Obligations.ParkCadenceIsDecidedAnew : Prop :=
  (∀ (s : State) (f : SetParkCadence), Running s →
    (f.undefinedBit = true → TurnsAway (.setParkCadence (.whole f)) s .badValue) ∧
    (f.undefinedBit = false →
      let c := s.chime.cadence
      let d : ParkCadence := ⟨(f.near.map fun n => max 20 (min 60 n)).getD c.near, (f.far.map fun n => max 100 (min 250 n)).getD c.far,
        (f.halfPeriod.map fun n => max 6 (min 255 n)).getD c.halfPeriod, (f.level.map (min 63)).getD c.level⟩
      let result := if f.near.all (fun n => decide (20 ≤ n ∧ n ≤ 60)) && f.far.all (fun n => decide (100 ≤ n ∧ n ≤ 250)) &&
        f.halfPeriod.all (fun n => decide (6 ≤ n ∧ n ≤ 255)) && f.level.all (fun n => decide (n ≤ 63)) then Result.done else .adjusted
      Answers (.setParkCadence (.whole f)) s result .empty (.cadence :: chimePieces) fun t =>
        t.chime.cadence = d ∧
        (s.recv.revEff = false → (∀ i, t.entry i = s.entry i) ∧ t.chime.mode = s.chime.mode ∧
          t.chime.sensorGiven = s.chime.sensorGiven ∧ t.link.notices = s.link.notices) ∧
        (s.recv.revEff = true → ParkDecided s t d s.chime.sensorGiven s.nearest))) ∧
  (∀ (s : State) (extended : Bool) (identifier dlc : Nat) (data : List Byte) (n : Fin 16), Running s → ReverseSettled s →
    (∀ m, (s.rule m).accepts extended identifier = decide (m = n)) →
    let r := s.rule n
    r.target ∈ [SignalId.distOuterL, .distInnerL, .distInnerR, .distOuterR] → r.covered data.length = true →
    r.invalidPattern ≠ some (rawField r.order r.startBit data r.length) → (r.alive = none ∨ r.aliveOf data ≠ r.lastAlive) →
    Makes (.busFrame (.data extended identifier dlc data)) s ([.rules, .busCounts, .signals] ++ chimePieces) fun t =>
      (s.recv.revEff = false → (∀ i, t.entry i = s.entry i) ∧ t.chime.mode = s.chime.mode) ∧
      (s.recv.revEff = true → ParkDecided s t s.chime.cadence s.chime.sensorGiven t.nearest)) ∧
  (∀ (s : State) (c : Instr) (i : SignalId), Running s → ReverseSettled s →
    i ∈ [SignalId.distOuterL, .distInnerL, .distInnerR, .distOuterR] →
    (∃ e, (s.signal i).timer = some e ∧
      ((c = .signalHeld i ∧ (s.signal i).state = .fresh ∧ (s.signal i).timeout * 10 ≤ e) ∨
       (c = .signalLost i ∧ (s.signal i).state = .held ∧ 3 * (s.signal i).timeout * 10 ≤ e))) →
    Makes c s (.signals :: chimePieces) fun t =>
      (s.recv.revEff = false → (∀ k, t.entry k = s.entry k) ∧ t.chime.mode = s.chime.mode) ∧
      (s.recv.revEff = true → ParkDecided s t s.chime.cadence s.chime.sensorGiven t.nearest)) ∧
  ∀ (s : State) (e : Nat), Running s → s.recv.debounce = some e → s.recv.debounceTime * 10 ≤ e → s.recv.source = .line → s.recv.rawLine = true → s.recv.revEff = false →
    (∀ c ∈ s.fmm.pending, c.reader ≠ .scan .centre) → Makes .debounceExpiry s (.reverse :: reversePieces) fun t =>
      ParkDecided s t s.chime.cadence false s.nearest

/-- A sample slot takes a run, is READY when written whole, and gives its run back, never while a chime names it (R159,
R160, R161). The model's own choice in it: log 13. -/
def Obligations.SamplesAreDefinedLoadedAndFreed : Prop :=
  (∀ (s : State) (k : Nat), Running s → 16 ≤ k →
    (∀ n, TurnsAway (.defineSample (.whole ⟨k, n⟩)) s .badValue) ∧
    (∀ a d, TurnsAway (.loadSampleBlock (.whole ⟨k, a, d⟩)) s .badValue) ∧ TurnsAway (.freeSample (.whole k)) s .badValue) ∧
  ∀ (s : State) (n : Fin 16), Running s →
    let x := s.sample n
    let named := ∃ i e level, s.entry i = some e ∧ e.sound = .sample n level
    (x.state ≠ .undefined → ∀ k, TurnsAway (.defineSample (.whole ⟨n.1, k⟩)) s .notNow) ∧
    (∀ k, x.state = .undefined → s.fmm.runOf (.sample n) = none →
      let count := max 1 (min 192000 k)
      let pages := (count * 2 + 65535) / 65536
      (s.selfTest.isSome = true → TurnsAway (.defineSample (.whole ⟨n.1, k⟩)) s .busy) ∧
      (s.selfTest = none → s.fmm.placeHigh (.sample n) pages = none → TurnsAway (.defineSample (.whole ⟨n.1, k⟩)) s .noSpace) ∧
      ∀ g, s.selfTest = none → s.fmm.placeHigh (.sample n) pages = some g →
        Answers (.defineSample (.whole ⟨n.1, k⟩)) s (if count = k then .done else .adjusted) .empty [.pageMap, .samples] fun t =>
          t.fmm = g ∧ t.sample n = ⟨.loading, count, 0⟩ ∧ ∀ m, m ≠ n → t.sample m = s.sample m) ∧
    (∀ (offset : Nat) (data : List Byte),
      let c := Instr.loadSampleBlock (.whole ⟨n.1, offset, data⟩)
      (data = [] → TurnsAway c s .badValue) ∧
      (data ≠ [] → x.state = .undefined → TurnsAway c s .notNow) ∧
      (data ≠ [] → x.state ≠ .undefined → 2 * x.count < offset + data.length → TurnsAway c s .badValue) ∧
      (data ≠ [] → offset + data.length ≤ 2 * x.count → x.state = .ready → named → TurnsAway c s .notNow) ∧
      ∀ run, data ≠ [] → x.state ≠ .undefined → offset + data.length ≤ 2 * x.count → ¬ (x.state = .ready ∧ named) →
        s.fmm.runOf (.sample n) = some run →
        let a := run.base * 65536 + offset
        let old := if x.state = .ready then 0 else x.mark
        let mark := if offset ≤ old ∧ old < offset + data.length then offset + data.length else old
        a + data.length ≤ 134217728 →
        Answers c s .done .empty [.memory, .samples] fun t =>
          (∀ y, t.mem.read y = if a ≤ y ∧ y < a + data.length then data.getD (y - a) 0#8 else s.mem.read y) ∧
          (∀ m, m ≠ n → t.sample m = s.sample m) ∧
          t.sample n = ⟨if mark = 2 * x.count then .ready else if x.state = .ready then .loading else x.state, x.count, mark⟩) ∧
    (x.state = .undefined → Answers (.freeSample (.whole n.1)) s .done .empty [] fun _ => True) ∧
    (x.state ≠ .undefined → named → TurnsAway (.freeSample (.whole n.1)) s .notNow) ∧
    (x.state ≠ .undefined → ¬ named → Answers (.freeSample (.whole n.1)) s .done .empty [.pageMap, .consequences, .samples] fun t =>
      t.fmm = s.fmm.free (.sample n) ∧ t.sample n = ⟨.undefined, 0, 0⟩ ∧ ∀ m, m ≠ n → t.sample m = s.sample m)

/-- SET MIX stores and retargets; a ramp tick moves each applied attenuation by one; a sample period mixes film and
chime (R158, R165, R166, R167). The model's own choice in it: log 19, log 33. -/
def Obligations.MixerSetsRampsAndMixes : Prop :=
  (∀ (s : State) (f : SetMix), Running s → (3 ≤ f.output → TurnsAway (.setMix (.whole f)) s .badValue) ∧
    ∀ k : Fin 3, k.1 = f.output →
      let legal := f.undefinedBit = false ∧ f.film ≠ some .undefined ∧ ¬ (k = 0 ∧ f.chimeFlag = some false)
      let result := if f.filmVolume.all (fun n => decide (n ≤ 63)) && f.chimeVolume.all (fun n => decide (n ≤ 63)) &&
        f.duck.all (fun n => decide (n ≤ 30)) && f.rev.all (fun n => decide (n ≤ 63)) then Result.done else .adjusted
      (¬ legal → TurnsAway (.setMix (.whole f)) s .badValue) ∧
      (legal → Answers (.setMix (.whole f)) s result .empty [.mixer] fun t =>
        let x := s.mixer.outs.sel k
        let y := t.mixer.outs.sel k
        let m := t.mixer
        y.film = (match f.film with
          | some (.legal i) => i
          | _ => x.film) ∧
        y.filmVolume = (f.filmVolume.map (min 63)).getD x.filmVolume ∧ y.chimeFlag = f.chimeFlag.getD x.chimeFlag ∧
        y.chimeVolume = (f.chimeVolume.map (min 63)).getD x.chimeVolume ∧
        m.duck = (f.duck.map (min 30)).getD s.mixer.duck ∧ m.rev = (f.rev.map (min 63)).getD s.mixer.rev ∧
        m.revEff = s.mixer.revEff ∧ m.playing = s.mixer.playing ∧ m.samples = s.mixer.samples ∧
        (m.outs.sel 0).target = min 63 ((m.outs.sel 0).filmVolume +
          max (if m.playing then m.duck else 0) (if m.revEff then m.rev else 0)) ∧
        (m.outs.sel 1).target = (m.outs.sel 1).filmVolume ∧ (m.outs.sel 2).target = (m.outs.sel 2).filmVolume ∧
        (∀ j, (m.outs.sel j).applied = (s.mixer.outs.sel j).applied ∧ (m.outs.sel j).clips = (s.mixer.outs.sel j).clips) ∧
        ∀ j, j ≠ k → m.outs.sel j = { s.mixer.outs.sel j with target := (m.outs.sel j).target })) ∧
  (∀ s : State, Makes .mixerRampTick s [.mixer] fun t => ∃ outs, t.mixer = { s.mixer with outs := outs } ∧
    ∀ k, let x := s.mixer.outs.sel k
      outs.sel k = { x with applied :=
        if x.applied < x.target then x.applied + 1 else if x.target < x.applied then x.applied - 1 else x.applied }) ∧
  ∀ s : State, (∀ c ∈ s.fmm.pending, c.reader = .chime → c.played = false) →
    let g (n : Nat) : Int := ((Config.gainTable.getD n 0 : Nat) : Int)
    Makes .outputSamplePeriod s handPieces fun t => ∃ v : Int,
      ((∀ i e, s.entry i = some e → e.playing = false) → v = 0 ∧ ∀ i, t.entry i = s.entry i) ∧
      (∀ i e, s.playingEntry = some i → s.entry i = some e →
        (∀ n on off level, e.sound = .tone n on off level →
          v = if e.position < on * 48 then
              (if e.position / n % 2 = 0 then (32767 * g level) >>> 15 else -((32767 * g level) >>> 15)) else 0) ∧
        (∀ n level run, e.sound = .sample n level → s.fmm.runOf (.sample n) = some run →
          let a := run.base * 65536 + 2 * e.position
          v = ((BitVec.ofNat 16 ((s.mem.read a).toNat * 256 + (s.mem.read (a + 1)).toNat)).toInt * g level) >>> 15) ∧
        (e.position + 1 < (match e.sound with
            | .tone _ on off _ => (on + off) * 48
            | .sample n _ => (s.sample n).count) →
          t.entry i = some { e with position := e.position + 1 } ∧ ∀ j, j ≠ i → t.entry j = s.entry j)) ∧
      ∀ k, let x := s.mixer.outs.sel k
        let film : StereoIn := match x.film with
          | none => ⟨0, 0⟩
          | some i => if (s.stream i).state = .running ∧ s.pacer.audio = .present then s.pacer.film.sel (streamNo i) else ⟨0, 0⟩
        let chime := if x.chimeFlag then v else 0
        let left := (film.left.toInt * g x.applied + chime * g x.chimeVolume) >>> 15
        let right := (film.right.toInt * g x.applied + chime * g x.chimeVolume) >>> 15
        let clips := (if left < -32768 ∨ 32767 < left then 1 else 0) + if right < -32768 ∨ 32767 < right then 1 else 0
        t.mixer.samples.sel k = ⟨max (-32768) (min 32767 left), max (-32768) (min 32767 right)⟩ ∧
        (t.mixer.outs.sel k).clips = satAdd x.clips clips ∧ (t.mixer.outs.sel k).applied = x.applied

/-- READ SECTOR answers a half; ERASE and WRITE are checked in order, set the mark, and change the sector at their end
(R185, R186, R187). The model's own choice in it: log 2. -/
def Obligations.StoreOperationsBeginAndEnd : Prop :=
  (∀ (s : State) (n half : Nat) (data : List Byte), Running s →
    (8 ≤ n ∨ 2 ≤ half → TurnsAway (.readSector (.whole ⟨n, half⟩)) s .badValue ∧
      TurnsAway (.writeSector (.whole ⟨n, half, data⟩)) s .badValue) ∧
    (8 ≤ n → TurnsAway (.eraseSector (.whole n)) s .badValue)) ∧
  (∀ (s : State) (n : Fin 8) (half : Fin 2) (data : List Byte), Running s →
    let bytes := (s.sector n).bytes
    let part := if half = 0 then bytes.take 128 else bytes.drop 128
    let begun (kind : StoreOpKind) (t : State) : Prop := t.store.op = some ⟨n, kind⟩ ∧
      t.sector n = { s.sector n with mark := true } ∧ ∀ m, m ≠ n → t.sector m = s.sector m
    (s.store.op.isSome = true → TurnsAway (.readSector (.whole ⟨n.1, half.1⟩)) s .busy) ∧
    (s.store.op = none → Reports (.readSector (.whole ⟨n.1, half.1⟩)) s (.sectorHalf part (s.sector n).state)) ∧
    (n = 0 → TurnsAway (.eraseSector (.whole n.1)) s .notNow ∧ TurnsAway (.writeSector (.whole ⟨n.1, half.1, data⟩)) s .notNow) ∧
    (n ≠ 0 → s.store.op.isSome = true →
      TurnsAway (.eraseSector (.whole n.1)) s .busy ∧ TurnsAway (.writeSector (.whole ⟨n.1, half.1, data⟩)) s .busy) ∧
    (n ≠ 0 → s.store.op = none →
      Answers (.eraseSector (.whole n.1)) s .accepted .empty [.store] (begun .erase) ∧
      ((∃ b ∈ part, b ≠ 0xFF#8) → TurnsAway (.writeSector (.whole ⟨n.1, half.1, data⟩)) s .notNow) ∧
      ((∀ b ∈ part, b = 0xFF#8) →
        Answers (.writeSector (.whole ⟨n.1, half.1, data⟩)) s .accepted .empty [.store] (begun (.write half (data.take 128)))))) ∧
  (∀ s : State, s.store.op = none → exec .storeOperationEnd s = .next s) ∧
  ∀ (s : State) (n : Fin 8) (kind : StoreOpKind), s.store.op = some ⟨n, kind⟩ →
    let bytes := match kind with
      | .erase => List.replicate 256 0xFF#8
      | .write half data => if half = 0 then data ++ (s.sector n).bytes.drop 128 else (s.sector n).bytes.take 128 ++ data
    let state := if bytes.all (fun b => decide (b = 0xFF#8)) then SectorState.erased
      else if n.1 ≤ 4 ∧ (check (bytes.take 254)).toNat ≠ (bytes.getD 254 0#8).toNat * 256 + (bytes.getD 255 0#8).toNat then .corrupt
      else .valid
    let name := match kind with
      | .erase => StoreOpName.erase
      | .write _ _ => .write
    Makes .storeOperationEnd s [.store, .notices] fun t =>
      t.store.op = none ∧ t.sector n = ⟨bytes, false, some state⟩ ∧ (∀ m, m ≠ n → t.sector m = s.sector m) ∧
      Noted s t (.storeDone n name state)

/-- RUN SELF TEST fixes the free pages as its set; its end leaves every other page alone and reports the first failing
test (R13, R21, R189, R190). The model's own choice in it: log 2, log 12, log 34. -/
def Obligations.SelfTestRunsOverFreePages : Prop :=
  (∀ s : State, Running s →
    (s.selfTest.isSome = true → TurnsAway .runSelfTest s .busy) ∧
    (s.selfTest = none → Answers .runSelfTest s .accepted .empty [.selfTest] fun t => ∃ x, t.selfTest = some x ∧
      x.errorFound = false ∧ x.late = [] ∧
      let bytes := (s.sector 0).bytes
      let one := (check (bytes.take 254)).toNat = (bytes.getD 254 0#8).toNat * 256 + (bytes.getD 255 0#8).toNat
      let two := ∀ n : Fin 8, 1 ≤ n.1 → n.1 ≤ 4 → (s.sector n).state = some .valid
      (¬ one → x.early = 1 ∧ x.pages = []) ∧ (one → ¬ two → x.early = 2 ∧ x.pages = []) ∧
      (one → two → x.early = 0 ∧ x.pages.Pairwise (· < ·) ∧ ∀ p, p ∈ x.pages ↔ p < 2048 ∧ s.fmm.ownerOf p = .free))) ∧
  (∀ (s : State) (b : Bool), s.selfTest = none → exec (.selfTestEnd b) s = .next s) ∧
  ∀ (s : State) (b : Bool) (x : SelfTest), s.selfTest = some x → (∀ c ∈ s.fmm.pending, c.reader ≠ .selfTest) →
    Makes (.selfTestEnd b) s [.memory, .selfTest, .notices] fun t =>
      t.selfTest = none ∧ (∀ a, a / 65536 ∉ x.pages → t.mem.read a = s.mem.read a) ∧
      (∀ a, a / 65536 ∈ x.pages → t.mem.read a =
        if a / 8 ∈ x.late ∧ a / 8 ∈ s.mem.bad then 0#8 else ~~~ Config.selfTestPattern a) ∧
      Noted s t (.selfTestDone (if x.early ≠ 0 then x.early else if x.errorFound = true ∨ b = true then 3 else 0))

/-- Every query is answered DONE with the state it is about, and changes nothing; numbers out of range are answered
BAD_VALUE (R41, R42, R71, R93, R116, R133, R150, R168, R179, R180). The model's own choice in it: log 3, log 4, log 46. -/
def Obligations.QueriesReportTheState : Prop :=
  (∀ s : State, ∃ x : Table (Option SectorState) 8, (∀ n, x.sel n = (s.sector n).state) ∧
    Reports .getIdentity s (.identity 0x4620#16 1 s.part.phase x)) ∧
  ∀ s : State, Running s →
    (∃ r, Reports .getState s (.state r) ∧ r.cause = s.part.cause ∧
      (Comes .getState s → r.outstanding = s.link.requests.length + (if s.link.requests.any Outstanding.isExecuting then 0 else 1) ∧
        r.notTaken = s.link.notTaken ∧ r.badFrames = (s.taking 0x04#8).link.badFrames) ∧ r.notices = s.noticeKeys ∧ r.revEff = s.recv.revEff ∧
      (∀ o, r.owners.sel (outputNo o) = (s.out o).owner) ∧ r.camera = s.cam.status ∧
      (∀ i, r.streams.sel (streamNo i) = (s.stream i).state) ∧ r.storeOp = s.store.op.isSome ∧ r.selfTest = s.selfTest.isSome) ∧
    (∀ k, 16 ≤ k → TurnsAway (.readRules (.whole k)) s .badValue) ∧
    (∀ k, k < 16 → ∃ rs, Reports (.readRules (.whole k)) s (.rules rs) ∧ rs.length = min 8 (16 - k) ∧
      ∀ j n : Nat, ∀ h : n < 16, n = k + j → j < 8 → rs[j]? = some (n, s.rule ⟨n, h⟩)) ∧
    (∃ r, Reports .readSignals s (.signals r) ∧ r.signals.length = 7 ∧
      (∀ i, ∃ x, r.signals[(signalNo i).1]? = some x ∧ x.value = (s.signal i).value ∧ x.state = (s.signal i).state ∧
        x.age = (match (s.signal i).timer with
          | some e => min 65535 (e / 10)
          | none => 65535) ∧
        (∀ n, x.rule = some n → (s.rule n).enabled = true ∧ (s.rule n).target = i) ∧
        (x.rule = none → ∀ n, (s.rule n).enabled = true → (s.rule n).target ≠ i)) ∧
      r.rawLine = s.recv.rawLine ∧ r.line = s.recv.line ∧ r.lostLatch = s.recv.lostLatch ∧ r.revEff = s.recv.revEff ∧
      r.source = s.recv.source ∧ r.debounceTime = s.recv.debounceTime ∧ r.goodFrames = s.recv.goodFrames ∧
      r.busErrors = s.recv.busErrors ∧ r.busTerm = s.busTerm) ∧
    (∀ k, 2 ≤ k → TurnsAway (.getStream (.whole k)) s .badValue) ∧
    (∀ i, let x := s.stream i
      ∃ r, Reports (.getStream (.whole (streamNo i).1)) s (.stream r) ∧ r.state = x.state ∧ r.width = x.width ∧
      r.height = x.height ∧ r.format = x.format ∧ r.slotCount = x.slotCount ∧ r.slots = x.ring ∧ r.lastWritten = x.lastWritten ∧
      r.clock = x.clock ∧ r.clockRunning = x.clockRunning ∧ r.trim = x.trim ∧ r.tolerance = x.tolerance ∧
      r.lastStamp = x.lastStamp ∧ r.lastSequence = x.lastSequence ∧ r.endMark = x.endMark ∧ r.counters = x.counters ∧
      r.lead = s.lead i ∧ r.audio = s.pacer.audio) ∧
    (∀ k, 24 ≤ k → TurnsAway (.getLayer (.whole k)) s .badValue) ∧
    (∀ n : Fin 24, let l := s.layer n
      ∃ r, Reports (.getLayer (.whole n.1)) s (.layer r) ∧ r.layer = n.1 ∧ r.state = l.state ∧
      (l.state = .unused → r.size = none ∧ r.run = none ∧ r.mark = none ∧ r.bytes.length = 6) ∧
      (r.bytes.getD 0 0).toNat = n.1 ∧ 6 ≤ r.bytes.length ∧ r.bytes.length ≤ 38 ∧
      r.bytes.drop 6 = (match r.size with
          | some (w, h) => bytes16 w ++ bytes16 h
          | none => []) ++ (match r.run with
          | some (base, count) => bytes16 base ++ bytes16 count
          | none => []) ++ (match r.mark with
          | some k => bytes24 k
          | none => []) ++ outputs.flatMap (fun o => match r.placements.sel (outputNo o) with
          | some p => bytes16 (BitVec.ofInt 16 p.x).toNat ++ bytes16 (BitVec.ofInt 16 p.y).toNat ++
              [BitVec.ofNat 8 p.z, BitVec.ofNat 8 p.alpha, BitVec.ofNat 8 p.visible.toNat]
          | none => []) ∧
      (l.state ≠ .unused → r.kind = l.kind ∧ r.format = l.format ∧ r.planes = l.planes ∧ r.permitted = l.permitted ∧
        r.front = l.front ∧ r.flipPending = l.flipPending ∧ r.vinLoad = l.vinLoad.isSome ∧ r.damaged = l.damaged ∧
        r.size = (if l.width = 0 ∧ l.height = 0 then none else some (l.width, l.height)) ∧
          r.mark = (if l.mark = 0 then none else some l.mark) ∧ r.placements = l.placements ∧
          r.run = (s.fmm.runOf (.layer n)).map (fun x => (x.base, x.count)) ∧
          ∀ c, r.designations.sel c = decide (s.layers.designations.sel c = some n))) ∧
    (∀ k, 3 ≤ k → TurnsAway (.getOutput (.whole k)) s .badValue) ∧
    (∀ o, let x := s.out o
      ∃ r, Reports (.getOutput (.whole (outputNo o).1)) s (.output r) ∧ r.enabled = x.enabled ∧ r.hostTiming = x.hostTiming ∧
      r.activeTiming = x.activeTiming ∧ r.background = x.background ∧ r.source = x.source ∧ r.mirror = x.mirror ∧
      r.owner = x.owner ∧ r.reason = x.reason ∧ r.wasOff = x.wasOff ∧ r.linger = x.linger.map (· / 10) ∧ r.fit = x.lastFit ∧
      r.shownCard = x.shownCard ∧ r.placements = s.placedOn o ∧ r.policy = s.comp.policy ∧ r.hysteresis = 50 ∧
      r.suppression = if o = .centre then some s.comp.suppression else none) ∧
    (∃ r, Reports .getCamera s (.camera r) ∧ r.status = s.cam.status ∧ r.settings = s.cam.settings ∧ r.demand = s.comp.demand ∧
      r.runs = (s.comp.demand || s.cam.settings.keepWarm) ∧ r.timer = s.cam.timer.map (· / 10) ∧ r.prevSig = s.cam.prevSig ∧
      r.equalRun = s.cam.equalRun ∧ r.recovery = s.cam.recovery ∧ r.newest = s.cam.order.getLast? ∧ r.shown = s.cam.shown ∧
      r.lastWritten = s.cam.lastWritten ∧ r.good = s.cam.good ∧ r.short = s.cam.short ∧ r.frozen = s.cam.frozen ∧
      r.slots.length = 3 ∧ ∀ k : Fin 3, ∃ x, r.slots[k.1]? = some x ∧ x.state = (s.cam.slots.sel k).state ∧
        x.holds = (s.cam.slots.sel k).holds ∧ (∀ p, x.place = some p → s.cam.order[p]? = some k) ∧
        (x.place = none → k ∉ s.cam.order)) ∧
    (∃ r, Reports .getGeometry s (.geometry r) ∧ r.geometry = s.guide.geometry ∧ r.valid = s.guide.valid ∧
      r.style = s.guide.style ∧ r.active = s.guide.active ∧ r.recompute = s.guide.recompute ∧ r.lastAngle = s.guide.lastAngle ∧
      r.front = s.guide.front ∧ r.content = s.guide.content ∧ r.holds = s.guide.holds ∧ r.camWidth = s.guide.camWidth ∧
      r.camHeight = s.guide.camHeight ∧ r.onView = s.guide.onView) ∧
    (∃ r, Reports .getChimes s (.chimes r) ∧ r.entries = s.chime.entries ∧ r.samples = s.chime.samples ∧
      r.cadence = s.chime.cadence ∧ r.mode = s.chime.mode ∧ r.sensorGiven = s.chime.sensorGiven ∧ r.nearest = s.nearest) ∧
    ∃ r, Reports .getMix s (.mix r) ∧ r.outs = s.mixer.outs ∧ r.duck = s.mixer.duck ∧ r.rev = s.mixer.rev ∧
      r.revEff = s.mixer.revEff ∧ r.playing = s.mixer.playing

/-- Every step keeps frame memory in its canonical form and the page map lawful (R2, R3, R5, R10). The model's own
choice in it: log 8. -/
def Obligations.FrameMemoryAndPageMapStayLawful : Prop :=
  ∀ s t : State, s.mem.wf ∧ s.fmm.lawful → Sys2Proof.Machine.step s = .next t → t.mem.wf ∧ t.fmm.lawful

/-- Every step keeps the request list and the notice queue lawful (R172, R173, R176, R184). -/
def Obligations.RequestsAndNoticesStayLawful : Prop :=
  ∀ s t : State, RequestsLawful s ∧ NoticesLawful s → Sys2Proof.Machine.step s = .next t → RequestsLawful t ∧ NoticesLawful t

/-- Every step keeps REV_EFF as source and terms give it, CENTRE in a REVERSE view while it is set, and one rule per
target (R39, R44, R45, R97). -/
def Obligations.ReverseStaysSettledAndShown : Prop :=
  ∀ s t : State, ReverseSettled s ∧ ReverseShown s ∧ TargetsUnique s → Sys2Proof.Machine.step s = .next t → ReverseSettled t ∧ ReverseShown t ∧ TargetsUnique t

/-- Every step keeps the frame rings, the VIN ports' loads and the placements of every output lawful (R50, R62, R77,
R85). -/
def Obligations.RingsPortsAndPlacementsStayLawful : Prop :=
  ∀ s t : State, PortsLawful s ∧ (∀ o, s.placementsLawful o) → Sys2Proof.Machine.step s = .next t → PortsLawful t ∧ (∀ o, t.placementsLawful o)

/-- Every step keeps the chime table lawful and the Mixer's targets as their inputs give them (R152, R162, R165, R166). -/
def Obligations.ChimesAndTargetsStayLawful : Prop :=
  ∀ s t : State, ChimesLawful s ∧ TargetsFollow s → Sys2Proof.Machine.step s = .next t → ChimesLawful t ∧ TargetsFollow t

/-- Every step keeps demand, camera and outputs in agreement, and suppression on while SPEED is missing or high (R95,
R98, R100, R106, R112, R120). -/
def Obligations.ViewsCameraAndSuppressionStayLawful : Prop :=
  ∀ s t : State, CameraFollows s ∧ OutputsLawful s ∧ SuppressionCautious s → Sys2Proof.Machine.step s = .next t → CameraFollows t ∧ OutputsLawful t ∧ SuppressionCautious t

/-- The state after reset meets every invariant, is STARTING with nothing waiting, and holds the manual's reset values
(R5, R24, R48, R49, R95, R112, R128, R144, R152, R172, R181, 10_start_up_calibration_store_and_self_test.md 10.1). The
model's own choice in it: log 6, log 7, log 8, log 13. -/
def Obligations.ResetStateIsLawful : Prop :=
  let s := State.reset
  s.mem.wf ∧ s.fmm.lawful ∧ RequestsLawful s ∧ NoticesLawful s ∧ ReverseSettled s ∧ ReverseShown s ∧ TargetsUnique s ∧
  PortsLawful s ∧ (∀ o, s.placementsLawful o) ∧ ChimesLawful s ∧ TargetsFollow s ∧ CameraFollows s ∧ OutputsLawful s ∧
  SuppressionCautious s ∧
  s.part = ⟨.starting, .power⟩ ∧ s.pending = [] ∧ s.link.requests = [] ∧ s.link.notices = [] ∧
  (∀ i, s.stream i = Stream.initial ∧ s.vin i = .idle) ∧ (∀ n, s.layer n = Layer.initial) ∧
  (∀ o, (s.out o).enabled = true ∧ (s.out o).owner = .normal ∧ (s.out o).source = none) ∧
  s.cam.status = .off ∧ s.guide.comp = .idle ∧ s.guide.content = .hidden ∧ (∀ i, s.entry i = none) ∧
  s.fmm.lowTop = 190 ∧ s.fmm.highBottom = 2048 ∧ (∀ a, s.mem.read a = 0#8) ∧ s.comp.suppression = true ∧
  ∀ n : Fin 8, (s.sector n).state = some (if n = 0 then .valid else .erased)
end

