-- ==== Sys2Proof/Laws/State.lean ====
section
/-! SUPPORT. One lemma per field and update of the state: what reading a field after a record has been replaced gives. -/

namespace Sys2Proof

/-- An entry just replaced. -/
@[simp] theorem Table.sel_put_same {α : Type} {n : Nat} (t : Table α n) (i : Fin n) (x : α) : (t.put i x).sel i = x := by
  exact Vector.getElem_set_self i.2

/-- Another entry than the one replaced. -/
theorem Table.sel_put_ne {α : Type} {n : Nat} (t : Table α n) {i j : Fin n} (x : α) (h : i ≠ j) :
    (t.put i x).sel j = t.sel j := by
  have h' : i.1 ≠ j.1 := fun e => h (Fin.ext e)
  exact Vector.getElem_set_ne i.2 j.2 h' 

/-- An entry after one has been replaced. -/
theorem Table.sel_put {α : Type} {n : Nat} (t : Table α n) (i j : Fin n) (x : α) :
    (t.put i x).sel j = if i = j then x else t.sel j := by
  split
  · subst_vars; simp
  · exact t.sel_put_ne x ‹_›

/-- An entry after one has been changed. -/
theorem Table.sel_upd {α : Type} {n : Nat} (t : Table α n) (i j : Fin n) (f : α → α) :
    (t.upd i f).sel j = if i = j then f (t.sel j) else t.sel j := by
  unfold Table.upd
  rw [Table.sel_put]
  split
  · subst_vars; rfl
  · rfl

/-- An entry of a table of equal entries. -/
@[simp] theorem Table.sel_fill {α : Type} {n : Nat} (x : α) (i : Fin n) : (Table.fill n x).sel i = x := by
  simp [Table.sel, Table.fill, Vector.get]

/-- Tables with equal entries are equal. -/
theorem Table.ext_sel {α : Type} {n : Nat} {t u : Table α n} (h : ∀ i, t.sel i = u.sel i) : t = u := by
  apply Vector.ext
  intro i hi
  have := h ⟨i, hi⟩
  simpa [Table.sel, Vector.get] using this

namespace Machine

/-- Outputs have different numbers. -/
@[simp] theorem outputNo_inj (o p : Output) : outputNo o = outputNo p ↔ o = p := by cases o <;> cases p <;> decide

/-- Streams have different numbers. -/
@[simp] theorem streamNo_inj (i j : StreamId) : streamNo i = streamNo j ↔ i = j := by cases i <;> cases j <;> decide

/-- Signals have different numbers. -/
@[simp] theorem signalNo_inj (i j : SignalId) : signalNo i = signalNo j ↔ i = j := by cases i <;> cases j <;> decide

variable (s : State)

/-! ### putOut -/
@[simp] theorem putOut_out_same (o : Output) (x : OutputRec) : (s.putOut o x).out o = x := Table.sel_put_same _ _ _
theorem putOut_out_ne (o : Output) (x : OutputRec) {j : Output} (h : o ≠ j) : (s.putOut o x).out j = s.out j :=
  Table.sel_put_ne _ _ (fun e => h (((outputNo_inj o j).1 e)))
theorem putOut_out (o : Output) (x : OutputRec) (j : Output) : (s.putOut o x).out j = if o = j then x else s.out j := by
  split
  · subst_vars; simp
  · exact putOut_out_ne s o x ‹_›
@[simp] theorem putOut_part (o : Output) (x : OutputRec) : (s.putOut o x).part = s.part := rfl
@[simp] theorem putOut_steps (o : Output) (x : OutputRec) : (s.putOut o x).steps = s.steps := rfl
@[simp] theorem putOut_link (o : Output) (x : OutputRec) : (s.putOut o x).link = s.link := rfl
@[simp] theorem putOut_recv (o : Output) (x : OutputRec) : (s.putOut o x).recv = s.recv := rfl
@[simp] theorem putOut_fmm (o : Output) (x : OutputRec) : (s.putOut o x).fmm = s.fmm := rfl
@[simp] theorem putOut_mem (o : Output) (x : OutputRec) : (s.putOut o x).mem = s.mem := rfl
@[simp] theorem putOut_pacer (o : Output) (x : OutputRec) : (s.putOut o x).pacer = s.pacer := rfl
@[simp] theorem putOut_layers (o : Output) (x : OutputRec) : (s.putOut o x).layers = s.layers := rfl
@[simp] theorem putOut_cam (o : Output) (x : OutputRec) : (s.putOut o x).cam = s.cam := rfl
@[simp] theorem putOut_guide (o : Output) (x : OutputRec) : (s.putOut o x).guide = s.guide := rfl
@[simp] theorem putOut_chime (o : Output) (x : OutputRec) : (s.putOut o x).chime = s.chime := rfl
@[simp] theorem putOut_mixer (o : Output) (x : OutputRec) : (s.putOut o x).mixer = s.mixer := rfl
@[simp] theorem putOut_store (o : Output) (x : OutputRec) : (s.putOut o x).store = s.store := rfl
@[simp] theorem putOut_selfTest (o : Output) (x : OutputRec) : (s.putOut o x).selfTest = s.selfTest := rfl
@[simp] theorem putOut_free (o : Output) (x : OutputRec) : (s.putOut o x).free = s.free := rfl
@[simp] theorem putOut_pending (o : Output) (x : OutputRec) : (s.putOut o x).pending = s.pending := rfl
@[simp] theorem putOut_comp_policy (o : Output) (x : OutputRec) : (s.putOut o x).comp.policy = s.comp.policy := rfl
@[simp] theorem putOut_comp_suppression (o : Output) (x : OutputRec) : (s.putOut o x).comp.suppression = s.comp.suppression := rfl
@[simp] theorem putOut_comp_demand (o : Output) (x : OutputRec) : (s.putOut o x).comp.demand = s.comp.demand := rfl
@[simp] theorem putOut_stream (o : Output) (x : OutputRec) (j : StreamId) : (s.putOut o x).stream j = s.stream j := rfl
@[simp] theorem putOut_vin (o : Output) (x : OutputRec) (j : StreamId) : (s.putOut o x).vin j = s.vin j := rfl
@[simp] theorem putOut_layer (o : Output) (x : OutputRec) (j : Fin 24) : (s.putOut o x).layer j = s.layer j := rfl
@[simp] theorem putOut_signal (o : Output) (x : OutputRec) (j : SignalId) : (s.putOut o x).signal j = s.signal j := rfl
@[simp] theorem putOut_rule (o : Output) (x : OutputRec) (j : Fin 16) : (s.putOut o x).rule j = s.rule j := rfl
@[simp] theorem putOut_entry (o : Output) (x : OutputRec) (j : Fin 8) : (s.putOut o x).entry j = s.entry j := rfl
@[simp] theorem putOut_sample (o : Output) (x : OutputRec) (j : Fin 16) : (s.putOut o x).sample j = s.sample j := rfl
@[simp] theorem putOut_sector (o : Output) (x : OutputRec) (j : Fin 8) : (s.putOut o x).sector j = s.sector j := rfl

/-! ### putStream -/
@[simp] theorem putStream_stream_same (i : StreamId) (x : Stream) : (s.putStream i x).stream i = x := Table.sel_put_same _ _ _
theorem putStream_stream_ne (i : StreamId) (x : Stream) {j : StreamId} (h : i ≠ j) : (s.putStream i x).stream j = s.stream j :=
  Table.sel_put_ne _ _ (fun e => h (((streamNo_inj i j).1 e)))
theorem putStream_stream (i : StreamId) (x : Stream) (j : StreamId) : (s.putStream i x).stream j = if i = j then x else s.stream j := by
  split
  · subst_vars; simp
  · exact putStream_stream_ne s i x ‹_›
@[simp] theorem putStream_part (i : StreamId) (x : Stream) : (s.putStream i x).part = s.part := rfl
@[simp] theorem putStream_steps (i : StreamId) (x : Stream) : (s.putStream i x).steps = s.steps := rfl
@[simp] theorem putStream_link (i : StreamId) (x : Stream) : (s.putStream i x).link = s.link := rfl
@[simp] theorem putStream_recv (i : StreamId) (x : Stream) : (s.putStream i x).recv = s.recv := rfl
@[simp] theorem putStream_fmm (i : StreamId) (x : Stream) : (s.putStream i x).fmm = s.fmm := rfl
@[simp] theorem putStream_mem (i : StreamId) (x : Stream) : (s.putStream i x).mem = s.mem := rfl
@[simp] theorem putStream_layers (i : StreamId) (x : Stream) : (s.putStream i x).layers = s.layers := rfl
@[simp] theorem putStream_comp (i : StreamId) (x : Stream) : (s.putStream i x).comp = s.comp := rfl
@[simp] theorem putStream_cam (i : StreamId) (x : Stream) : (s.putStream i x).cam = s.cam := rfl
@[simp] theorem putStream_guide (i : StreamId) (x : Stream) : (s.putStream i x).guide = s.guide := rfl
@[simp] theorem putStream_chime (i : StreamId) (x : Stream) : (s.putStream i x).chime = s.chime := rfl
@[simp] theorem putStream_mixer (i : StreamId) (x : Stream) : (s.putStream i x).mixer = s.mixer := rfl
@[simp] theorem putStream_store (i : StreamId) (x : Stream) : (s.putStream i x).store = s.store := rfl
@[simp] theorem putStream_selfTest (i : StreamId) (x : Stream) : (s.putStream i x).selfTest = s.selfTest := rfl
@[simp] theorem putStream_free (i : StreamId) (x : Stream) : (s.putStream i x).free = s.free := rfl
@[simp] theorem putStream_pending (i : StreamId) (x : Stream) : (s.putStream i x).pending = s.pending := rfl
@[simp] theorem putStream_pacer_vin (i : StreamId) (x : Stream) : (s.putStream i x).pacer.vin = s.pacer.vin := rfl
@[simp] theorem putStream_pacer_audio (i : StreamId) (x : Stream) : (s.putStream i x).pacer.audio = s.pacer.audio := rfl
@[simp] theorem putStream_pacer_film (i : StreamId) (x : Stream) : (s.putStream i x).pacer.film = s.pacer.film := rfl
@[simp] theorem putStream_pacer_paceTimer (i : StreamId) (x : Stream) : (s.putStream i x).pacer.paceTimer = s.pacer.paceTimer := rfl
@[simp] theorem putStream_out (i : StreamId) (x : Stream) (j : Output) : (s.putStream i x).out j = s.out j := rfl
@[simp] theorem putStream_vin (i : StreamId) (x : Stream) (j : StreamId) : (s.putStream i x).vin j = s.vin j := rfl
@[simp] theorem putStream_layer (i : StreamId) (x : Stream) (j : Fin 24) : (s.putStream i x).layer j = s.layer j := rfl
@[simp] theorem putStream_signal (i : StreamId) (x : Stream) (j : SignalId) : (s.putStream i x).signal j = s.signal j := rfl
@[simp] theorem putStream_rule (i : StreamId) (x : Stream) (j : Fin 16) : (s.putStream i x).rule j = s.rule j := rfl
@[simp] theorem putStream_entry (i : StreamId) (x : Stream) (j : Fin 8) : (s.putStream i x).entry j = s.entry j := rfl
@[simp] theorem putStream_sample (i : StreamId) (x : Stream) (j : Fin 16) : (s.putStream i x).sample j = s.sample j := rfl
@[simp] theorem putStream_sector (i : StreamId) (x : Stream) (j : Fin 8) : (s.putStream i x).sector j = s.sector j := rfl

/-! ### putVin -/
@[simp] theorem putVin_vin_same (p : StreamId) (x : VinFrame) : (s.putVin p x).vin p = x := Table.sel_put_same _ _ _
theorem putVin_vin_ne (p : StreamId) (x : VinFrame) {j : StreamId} (h : p ≠ j) : (s.putVin p x).vin j = s.vin j :=
  Table.sel_put_ne _ _ (fun e => h (((streamNo_inj p j).1 e)))
theorem putVin_vin (p : StreamId) (x : VinFrame) (j : StreamId) : (s.putVin p x).vin j = if p = j then x else s.vin j := by
  split
  · subst_vars; simp
  · exact putVin_vin_ne s p x ‹_›
@[simp] theorem putVin_part (p : StreamId) (x : VinFrame) : (s.putVin p x).part = s.part := rfl
@[simp] theorem putVin_steps (p : StreamId) (x : VinFrame) : (s.putVin p x).steps = s.steps := rfl
@[simp] theorem putVin_link (p : StreamId) (x : VinFrame) : (s.putVin p x).link = s.link := rfl
@[simp] theorem putVin_recv (p : StreamId) (x : VinFrame) : (s.putVin p x).recv = s.recv := rfl
@[simp] theorem putVin_fmm (p : StreamId) (x : VinFrame) : (s.putVin p x).fmm = s.fmm := rfl
@[simp] theorem putVin_mem (p : StreamId) (x : VinFrame) : (s.putVin p x).mem = s.mem := rfl
@[simp] theorem putVin_layers (p : StreamId) (x : VinFrame) : (s.putVin p x).layers = s.layers := rfl
@[simp] theorem putVin_comp (p : StreamId) (x : VinFrame) : (s.putVin p x).comp = s.comp := rfl
@[simp] theorem putVin_cam (p : StreamId) (x : VinFrame) : (s.putVin p x).cam = s.cam := rfl
@[simp] theorem putVin_guide (p : StreamId) (x : VinFrame) : (s.putVin p x).guide = s.guide := rfl
@[simp] theorem putVin_chime (p : StreamId) (x : VinFrame) : (s.putVin p x).chime = s.chime := rfl
@[simp] theorem putVin_mixer (p : StreamId) (x : VinFrame) : (s.putVin p x).mixer = s.mixer := rfl
@[simp] theorem putVin_store (p : StreamId) (x : VinFrame) : (s.putVin p x).store = s.store := rfl
@[simp] theorem putVin_selfTest (p : StreamId) (x : VinFrame) : (s.putVin p x).selfTest = s.selfTest := rfl
@[simp] theorem putVin_free (p : StreamId) (x : VinFrame) : (s.putVin p x).free = s.free := rfl
@[simp] theorem putVin_pending (p : StreamId) (x : VinFrame) : (s.putVin p x).pending = s.pending := rfl
@[simp] theorem putVin_pacer_streams (p : StreamId) (x : VinFrame) : (s.putVin p x).pacer.streams = s.pacer.streams := rfl
@[simp] theorem putVin_pacer_audio (p : StreamId) (x : VinFrame) : (s.putVin p x).pacer.audio = s.pacer.audio := rfl
@[simp] theorem putVin_pacer_film (p : StreamId) (x : VinFrame) : (s.putVin p x).pacer.film = s.pacer.film := rfl
@[simp] theorem putVin_pacer_paceTimer (p : StreamId) (x : VinFrame) : (s.putVin p x).pacer.paceTimer = s.pacer.paceTimer := rfl
@[simp] theorem putVin_out (p : StreamId) (x : VinFrame) (j : Output) : (s.putVin p x).out j = s.out j := rfl
@[simp] theorem putVin_stream (p : StreamId) (x : VinFrame) (j : StreamId) : (s.putVin p x).stream j = s.stream j := rfl
@[simp] theorem putVin_layer (p : StreamId) (x : VinFrame) (j : Fin 24) : (s.putVin p x).layer j = s.layer j := rfl
@[simp] theorem putVin_signal (p : StreamId) (x : VinFrame) (j : SignalId) : (s.putVin p x).signal j = s.signal j := rfl
@[simp] theorem putVin_rule (p : StreamId) (x : VinFrame) (j : Fin 16) : (s.putVin p x).rule j = s.rule j := rfl
@[simp] theorem putVin_entry (p : StreamId) (x : VinFrame) (j : Fin 8) : (s.putVin p x).entry j = s.entry j := rfl
@[simp] theorem putVin_sample (p : StreamId) (x : VinFrame) (j : Fin 16) : (s.putVin p x).sample j = s.sample j := rfl
@[simp] theorem putVin_sector (p : StreamId) (x : VinFrame) (j : Fin 8) : (s.putVin p x).sector j = s.sector j := rfl

/-! ### putLayer -/
@[simp] theorem putLayer_layer_same (n : Fin 24) (x : Layer) : (s.putLayer n x).layer n = x := Table.sel_put_same _ _ _
theorem putLayer_layer_ne (n : Fin 24) (x : Layer) {j : Fin 24} (h : n ≠ j) : (s.putLayer n x).layer j = s.layer j := Table.sel_put_ne _ _ h
theorem putLayer_layer (n : Fin 24) (x : Layer) (j : Fin 24) : (s.putLayer n x).layer j = if n = j then x else s.layer j := by
  split
  · subst_vars; simp
  · exact putLayer_layer_ne s n x ‹_›
@[simp] theorem putLayer_part (n : Fin 24) (x : Layer) : (s.putLayer n x).part = s.part := rfl
@[simp] theorem putLayer_steps (n : Fin 24) (x : Layer) : (s.putLayer n x).steps = s.steps := rfl
@[simp] theorem putLayer_link (n : Fin 24) (x : Layer) : (s.putLayer n x).link = s.link := rfl
@[simp] theorem putLayer_recv (n : Fin 24) (x : Layer) : (s.putLayer n x).recv = s.recv := rfl
@[simp] theorem putLayer_fmm (n : Fin 24) (x : Layer) : (s.putLayer n x).fmm = s.fmm := rfl
@[simp] theorem putLayer_mem (n : Fin 24) (x : Layer) : (s.putLayer n x).mem = s.mem := rfl
@[simp] theorem putLayer_pacer (n : Fin 24) (x : Layer) : (s.putLayer n x).pacer = s.pacer := rfl
@[simp] theorem putLayer_comp (n : Fin 24) (x : Layer) : (s.putLayer n x).comp = s.comp := rfl
@[simp] theorem putLayer_cam (n : Fin 24) (x : Layer) : (s.putLayer n x).cam = s.cam := rfl
@[simp] theorem putLayer_guide (n : Fin 24) (x : Layer) : (s.putLayer n x).guide = s.guide := rfl
@[simp] theorem putLayer_chime (n : Fin 24) (x : Layer) : (s.putLayer n x).chime = s.chime := rfl
@[simp] theorem putLayer_mixer (n : Fin 24) (x : Layer) : (s.putLayer n x).mixer = s.mixer := rfl
@[simp] theorem putLayer_store (n : Fin 24) (x : Layer) : (s.putLayer n x).store = s.store := rfl
@[simp] theorem putLayer_selfTest (n : Fin 24) (x : Layer) : (s.putLayer n x).selfTest = s.selfTest := rfl
@[simp] theorem putLayer_free (n : Fin 24) (x : Layer) : (s.putLayer n x).free = s.free := rfl
@[simp] theorem putLayer_pending (n : Fin 24) (x : Layer) : (s.putLayer n x).pending = s.pending := rfl
@[simp] theorem putLayer_layers_designations (n : Fin 24) (x : Layer) : (s.putLayer n x).layers.designations = s.layers.designations := rfl
@[simp] theorem putLayer_layers_clearing (n : Fin 24) (x : Layer) : (s.putLayer n x).layers.clearing = s.layers.clearing := rfl
@[simp] theorem putLayer_out (n : Fin 24) (x : Layer) (j : Output) : (s.putLayer n x).out j = s.out j := rfl
@[simp] theorem putLayer_stream (n : Fin 24) (x : Layer) (j : StreamId) : (s.putLayer n x).stream j = s.stream j := rfl
@[simp] theorem putLayer_vin (n : Fin 24) (x : Layer) (j : StreamId) : (s.putLayer n x).vin j = s.vin j := rfl
@[simp] theorem putLayer_signal (n : Fin 24) (x : Layer) (j : SignalId) : (s.putLayer n x).signal j = s.signal j := rfl
@[simp] theorem putLayer_rule (n : Fin 24) (x : Layer) (j : Fin 16) : (s.putLayer n x).rule j = s.rule j := rfl
@[simp] theorem putLayer_entry (n : Fin 24) (x : Layer) (j : Fin 8) : (s.putLayer n x).entry j = s.entry j := rfl
@[simp] theorem putLayer_sample (n : Fin 24) (x : Layer) (j : Fin 16) : (s.putLayer n x).sample j = s.sample j := rfl
@[simp] theorem putLayer_sector (n : Fin 24) (x : Layer) (j : Fin 8) : (s.putLayer n x).sector j = s.sector j := rfl

/-! ### putSignal -/
@[simp] theorem putSignal_signal_same (i : SignalId) (x : Signal) : (s.putSignal i x).signal i = x := Table.sel_put_same _ _ _
theorem putSignal_signal_ne (i : SignalId) (x : Signal) {j : SignalId} (h : i ≠ j) : (s.putSignal i x).signal j = s.signal j :=
  Table.sel_put_ne _ _ (fun e => h (((signalNo_inj i j).1 e)))
theorem putSignal_signal (i : SignalId) (x : Signal) (j : SignalId) : (s.putSignal i x).signal j = if i = j then x else s.signal j := by
  split
  · subst_vars; simp
  · exact putSignal_signal_ne s i x ‹_›
@[simp] theorem putSignal_part (i : SignalId) (x : Signal) : (s.putSignal i x).part = s.part := rfl
@[simp] theorem putSignal_steps (i : SignalId) (x : Signal) : (s.putSignal i x).steps = s.steps := rfl
@[simp] theorem putSignal_link (i : SignalId) (x : Signal) : (s.putSignal i x).link = s.link := rfl
@[simp] theorem putSignal_fmm (i : SignalId) (x : Signal) : (s.putSignal i x).fmm = s.fmm := rfl
@[simp] theorem putSignal_mem (i : SignalId) (x : Signal) : (s.putSignal i x).mem = s.mem := rfl
@[simp] theorem putSignal_pacer (i : SignalId) (x : Signal) : (s.putSignal i x).pacer = s.pacer := rfl
@[simp] theorem putSignal_layers (i : SignalId) (x : Signal) : (s.putSignal i x).layers = s.layers := rfl
@[simp] theorem putSignal_comp (i : SignalId) (x : Signal) : (s.putSignal i x).comp = s.comp := rfl
@[simp] theorem putSignal_cam (i : SignalId) (x : Signal) : (s.putSignal i x).cam = s.cam := rfl
@[simp] theorem putSignal_guide (i : SignalId) (x : Signal) : (s.putSignal i x).guide = s.guide := rfl
@[simp] theorem putSignal_chime (i : SignalId) (x : Signal) : (s.putSignal i x).chime = s.chime := rfl
@[simp] theorem putSignal_mixer (i : SignalId) (x : Signal) : (s.putSignal i x).mixer = s.mixer := rfl
@[simp] theorem putSignal_store (i : SignalId) (x : Signal) : (s.putSignal i x).store = s.store := rfl
@[simp] theorem putSignal_selfTest (i : SignalId) (x : Signal) : (s.putSignal i x).selfTest = s.selfTest := rfl
@[simp] theorem putSignal_free (i : SignalId) (x : Signal) : (s.putSignal i x).free = s.free := rfl
@[simp] theorem putSignal_pending (i : SignalId) (x : Signal) : (s.putSignal i x).pending = s.pending := rfl
@[simp] theorem putSignal_recv_bitRate (i : SignalId) (x : Signal) : (s.putSignal i x).recv.bitRate = s.recv.bitRate := rfl
@[simp] theorem putSignal_recv_rules (i : SignalId) (x : Signal) : (s.putSignal i x).recv.rules = s.recv.rules := rfl
@[simp] theorem putSignal_recv_rawLine (i : SignalId) (x : Signal) : (s.putSignal i x).recv.rawLine = s.recv.rawLine := rfl
@[simp] theorem putSignal_recv_line (i : SignalId) (x : Signal) : (s.putSignal i x).recv.line = s.recv.line := rfl
@[simp] theorem putSignal_recv_debounce (i : SignalId) (x : Signal) : (s.putSignal i x).recv.debounce = s.recv.debounce := rfl
@[simp] theorem putSignal_recv_debounceTime (i : SignalId) (x : Signal) : (s.putSignal i x).recv.debounceTime = s.recv.debounceTime := rfl
@[simp] theorem putSignal_recv_source (i : SignalId) (x : Signal) : (s.putSignal i x).recv.source = s.recv.source := rfl
@[simp] theorem putSignal_recv_lostLatch (i : SignalId) (x : Signal) : (s.putSignal i x).recv.lostLatch = s.recv.lostLatch := rfl
@[simp] theorem putSignal_recv_revEff (i : SignalId) (x : Signal) : (s.putSignal i x).recv.revEff = s.recv.revEff := rfl
@[simp] theorem putSignal_recv_goodFrames (i : SignalId) (x : Signal) : (s.putSignal i x).recv.goodFrames = s.recv.goodFrames := rfl
@[simp] theorem putSignal_recv_busErrors (i : SignalId) (x : Signal) : (s.putSignal i x).recv.busErrors = s.recv.busErrors := rfl
@[simp] theorem putSignal_out (i : SignalId) (x : Signal) (j : Output) : (s.putSignal i x).out j = s.out j := rfl
@[simp] theorem putSignal_stream (i : SignalId) (x : Signal) (j : StreamId) : (s.putSignal i x).stream j = s.stream j := rfl
@[simp] theorem putSignal_vin (i : SignalId) (x : Signal) (j : StreamId) : (s.putSignal i x).vin j = s.vin j := rfl
@[simp] theorem putSignal_layer (i : SignalId) (x : Signal) (j : Fin 24) : (s.putSignal i x).layer j = s.layer j := rfl
@[simp] theorem putSignal_rule (i : SignalId) (x : Signal) (j : Fin 16) : (s.putSignal i x).rule j = s.rule j := rfl
@[simp] theorem putSignal_entry (i : SignalId) (x : Signal) (j : Fin 8) : (s.putSignal i x).entry j = s.entry j := rfl
@[simp] theorem putSignal_sample (i : SignalId) (x : Signal) (j : Fin 16) : (s.putSignal i x).sample j = s.sample j := rfl
@[simp] theorem putSignal_sector (i : SignalId) (x : Signal) (j : Fin 8) : (s.putSignal i x).sector j = s.sector j := rfl

/-! ### putRule -/
@[simp] theorem putRule_rule_same (n : Fin 16) (x : Rule) : (s.putRule n x).rule n = x := Table.sel_put_same _ _ _
theorem putRule_rule_ne (n : Fin 16) (x : Rule) {j : Fin 16} (h : n ≠ j) : (s.putRule n x).rule j = s.rule j := Table.sel_put_ne _ _ h
theorem putRule_rule (n : Fin 16) (x : Rule) (j : Fin 16) : (s.putRule n x).rule j = if n = j then x else s.rule j := by
  split
  · subst_vars; simp
  · exact putRule_rule_ne s n x ‹_›
@[simp] theorem putRule_part (n : Fin 16) (x : Rule) : (s.putRule n x).part = s.part := rfl
@[simp] theorem putRule_steps (n : Fin 16) (x : Rule) : (s.putRule n x).steps = s.steps := rfl
@[simp] theorem putRule_link (n : Fin 16) (x : Rule) : (s.putRule n x).link = s.link := rfl
@[simp] theorem putRule_fmm (n : Fin 16) (x : Rule) : (s.putRule n x).fmm = s.fmm := rfl
@[simp] theorem putRule_mem (n : Fin 16) (x : Rule) : (s.putRule n x).mem = s.mem := rfl
@[simp] theorem putRule_pacer (n : Fin 16) (x : Rule) : (s.putRule n x).pacer = s.pacer := rfl
@[simp] theorem putRule_layers (n : Fin 16) (x : Rule) : (s.putRule n x).layers = s.layers := rfl
@[simp] theorem putRule_comp (n : Fin 16) (x : Rule) : (s.putRule n x).comp = s.comp := rfl
@[simp] theorem putRule_cam (n : Fin 16) (x : Rule) : (s.putRule n x).cam = s.cam := rfl
@[simp] theorem putRule_guide (n : Fin 16) (x : Rule) : (s.putRule n x).guide = s.guide := rfl
@[simp] theorem putRule_chime (n : Fin 16) (x : Rule) : (s.putRule n x).chime = s.chime := rfl
@[simp] theorem putRule_mixer (n : Fin 16) (x : Rule) : (s.putRule n x).mixer = s.mixer := rfl
@[simp] theorem putRule_store (n : Fin 16) (x : Rule) : (s.putRule n x).store = s.store := rfl
@[simp] theorem putRule_selfTest (n : Fin 16) (x : Rule) : (s.putRule n x).selfTest = s.selfTest := rfl
@[simp] theorem putRule_free (n : Fin 16) (x : Rule) : (s.putRule n x).free = s.free := rfl
@[simp] theorem putRule_pending (n : Fin 16) (x : Rule) : (s.putRule n x).pending = s.pending := rfl
@[simp] theorem putRule_recv_bitRate (n : Fin 16) (x : Rule) : (s.putRule n x).recv.bitRate = s.recv.bitRate := rfl
@[simp] theorem putRule_recv_signals (n : Fin 16) (x : Rule) : (s.putRule n x).recv.signals = s.recv.signals := rfl
@[simp] theorem putRule_recv_rawLine (n : Fin 16) (x : Rule) : (s.putRule n x).recv.rawLine = s.recv.rawLine := rfl
@[simp] theorem putRule_recv_line (n : Fin 16) (x : Rule) : (s.putRule n x).recv.line = s.recv.line := rfl
@[simp] theorem putRule_recv_debounce (n : Fin 16) (x : Rule) : (s.putRule n x).recv.debounce = s.recv.debounce := rfl
@[simp] theorem putRule_recv_debounceTime (n : Fin 16) (x : Rule) : (s.putRule n x).recv.debounceTime = s.recv.debounceTime := rfl
@[simp] theorem putRule_recv_source (n : Fin 16) (x : Rule) : (s.putRule n x).recv.source = s.recv.source := rfl
@[simp] theorem putRule_recv_lostLatch (n : Fin 16) (x : Rule) : (s.putRule n x).recv.lostLatch = s.recv.lostLatch := rfl
@[simp] theorem putRule_recv_revEff (n : Fin 16) (x : Rule) : (s.putRule n x).recv.revEff = s.recv.revEff := rfl
@[simp] theorem putRule_recv_goodFrames (n : Fin 16) (x : Rule) : (s.putRule n x).recv.goodFrames = s.recv.goodFrames := rfl
@[simp] theorem putRule_recv_busErrors (n : Fin 16) (x : Rule) : (s.putRule n x).recv.busErrors = s.recv.busErrors := rfl
@[simp] theorem putRule_out (n : Fin 16) (x : Rule) (j : Output) : (s.putRule n x).out j = s.out j := rfl
@[simp] theorem putRule_stream (n : Fin 16) (x : Rule) (j : StreamId) : (s.putRule n x).stream j = s.stream j := rfl
@[simp] theorem putRule_vin (n : Fin 16) (x : Rule) (j : StreamId) : (s.putRule n x).vin j = s.vin j := rfl
@[simp] theorem putRule_layer (n : Fin 16) (x : Rule) (j : Fin 24) : (s.putRule n x).layer j = s.layer j := rfl
@[simp] theorem putRule_signal (n : Fin 16) (x : Rule) (j : SignalId) : (s.putRule n x).signal j = s.signal j := rfl
@[simp] theorem putRule_entry (n : Fin 16) (x : Rule) (j : Fin 8) : (s.putRule n x).entry j = s.entry j := rfl
@[simp] theorem putRule_sample (n : Fin 16) (x : Rule) (j : Fin 16) : (s.putRule n x).sample j = s.sample j := rfl
@[simp] theorem putRule_sector (n : Fin 16) (x : Rule) (j : Fin 8) : (s.putRule n x).sector j = s.sector j := rfl

/-! ### putEntry -/
@[simp] theorem putEntry_entry_same (i : Fin 8) (x : Option ChimeEntry) : (s.putEntry i x).entry i = x := Table.sel_put_same _ _ _
theorem putEntry_entry_ne (i : Fin 8) (x : Option ChimeEntry) {j : Fin 8} (h : i ≠ j) : (s.putEntry i x).entry j = s.entry j := Table.sel_put_ne _ _ h
theorem putEntry_entry (i : Fin 8) (x : Option ChimeEntry) (j : Fin 8) : (s.putEntry i x).entry j = if i = j then x else s.entry j := by
  split
  · subst_vars; simp
  · exact putEntry_entry_ne s i x ‹_›
@[simp] theorem putEntry_part (i : Fin 8) (x : Option ChimeEntry) : (s.putEntry i x).part = s.part := rfl
@[simp] theorem putEntry_steps (i : Fin 8) (x : Option ChimeEntry) : (s.putEntry i x).steps = s.steps := rfl
@[simp] theorem putEntry_link (i : Fin 8) (x : Option ChimeEntry) : (s.putEntry i x).link = s.link := rfl
@[simp] theorem putEntry_recv (i : Fin 8) (x : Option ChimeEntry) : (s.putEntry i x).recv = s.recv := rfl
@[simp] theorem putEntry_fmm (i : Fin 8) (x : Option ChimeEntry) : (s.putEntry i x).fmm = s.fmm := rfl
@[simp] theorem putEntry_mem (i : Fin 8) (x : Option ChimeEntry) : (s.putEntry i x).mem = s.mem := rfl
@[simp] theorem putEntry_pacer (i : Fin 8) (x : Option ChimeEntry) : (s.putEntry i x).pacer = s.pacer := rfl
@[simp] theorem putEntry_layers (i : Fin 8) (x : Option ChimeEntry) : (s.putEntry i x).layers = s.layers := rfl
@[simp] theorem putEntry_comp (i : Fin 8) (x : Option ChimeEntry) : (s.putEntry i x).comp = s.comp := rfl
@[simp] theorem putEntry_cam (i : Fin 8) (x : Option ChimeEntry) : (s.putEntry i x).cam = s.cam := rfl
@[simp] theorem putEntry_guide (i : Fin 8) (x : Option ChimeEntry) : (s.putEntry i x).guide = s.guide := rfl
@[simp] theorem putEntry_mixer (i : Fin 8) (x : Option ChimeEntry) : (s.putEntry i x).mixer = s.mixer := rfl
@[simp] theorem putEntry_store (i : Fin 8) (x : Option ChimeEntry) : (s.putEntry i x).store = s.store := rfl
@[simp] theorem putEntry_selfTest (i : Fin 8) (x : Option ChimeEntry) : (s.putEntry i x).selfTest = s.selfTest := rfl
@[simp] theorem putEntry_free (i : Fin 8) (x : Option ChimeEntry) : (s.putEntry i x).free = s.free := rfl
@[simp] theorem putEntry_pending (i : Fin 8) (x : Option ChimeEntry) : (s.putEntry i x).pending = s.pending := rfl
@[simp] theorem putEntry_chime_nextAge (i : Fin 8) (x : Option ChimeEntry) : (s.putEntry i x).chime.nextAge = s.chime.nextAge := rfl
@[simp] theorem putEntry_chime_samples (i : Fin 8) (x : Option ChimeEntry) : (s.putEntry i x).chime.samples = s.chime.samples := rfl
@[simp] theorem putEntry_chime_cadence (i : Fin 8) (x : Option ChimeEntry) : (s.putEntry i x).chime.cadence = s.chime.cadence := rfl
@[simp] theorem putEntry_chime_mode (i : Fin 8) (x : Option ChimeEntry) : (s.putEntry i x).chime.mode = s.chime.mode := rfl
@[simp] theorem putEntry_chime_sensorGiven (i : Fin 8) (x : Option ChimeEntry) : (s.putEntry i x).chime.sensorGiven = s.chime.sensorGiven := rfl
@[simp] theorem putEntry_out (i : Fin 8) (x : Option ChimeEntry) (j : Output) : (s.putEntry i x).out j = s.out j := rfl
@[simp] theorem putEntry_stream (i : Fin 8) (x : Option ChimeEntry) (j : StreamId) : (s.putEntry i x).stream j = s.stream j := rfl
@[simp] theorem putEntry_vin (i : Fin 8) (x : Option ChimeEntry) (j : StreamId) : (s.putEntry i x).vin j = s.vin j := rfl
@[simp] theorem putEntry_layer (i : Fin 8) (x : Option ChimeEntry) (j : Fin 24) : (s.putEntry i x).layer j = s.layer j := rfl
@[simp] theorem putEntry_signal (i : Fin 8) (x : Option ChimeEntry) (j : SignalId) : (s.putEntry i x).signal j = s.signal j := rfl
@[simp] theorem putEntry_rule (i : Fin 8) (x : Option ChimeEntry) (j : Fin 16) : (s.putEntry i x).rule j = s.rule j := rfl
@[simp] theorem putEntry_sample (i : Fin 8) (x : Option ChimeEntry) (j : Fin 16) : (s.putEntry i x).sample j = s.sample j := rfl
@[simp] theorem putEntry_sector (i : Fin 8) (x : Option ChimeEntry) (j : Fin 8) : (s.putEntry i x).sector j = s.sector j := rfl

/-! ### putSample -/
@[simp] theorem putSample_sample_same (n : Fin 16) (x : Sample) : (s.putSample n x).sample n = x := Table.sel_put_same _ _ _
theorem putSample_sample_ne (n : Fin 16) (x : Sample) {j : Fin 16} (h : n ≠ j) : (s.putSample n x).sample j = s.sample j := Table.sel_put_ne _ _ h
theorem putSample_sample (n : Fin 16) (x : Sample) (j : Fin 16) : (s.putSample n x).sample j = if n = j then x else s.sample j := by
  split
  · subst_vars; simp
  · exact putSample_sample_ne s n x ‹_›
@[simp] theorem putSample_part (n : Fin 16) (x : Sample) : (s.putSample n x).part = s.part := rfl
@[simp] theorem putSample_steps (n : Fin 16) (x : Sample) : (s.putSample n x).steps = s.steps := rfl
@[simp] theorem putSample_link (n : Fin 16) (x : Sample) : (s.putSample n x).link = s.link := rfl
@[simp] theorem putSample_recv (n : Fin 16) (x : Sample) : (s.putSample n x).recv = s.recv := rfl
@[simp] theorem putSample_fmm (n : Fin 16) (x : Sample) : (s.putSample n x).fmm = s.fmm := rfl
@[simp] theorem putSample_mem (n : Fin 16) (x : Sample) : (s.putSample n x).mem = s.mem := rfl
@[simp] theorem putSample_pacer (n : Fin 16) (x : Sample) : (s.putSample n x).pacer = s.pacer := rfl
@[simp] theorem putSample_layers (n : Fin 16) (x : Sample) : (s.putSample n x).layers = s.layers := rfl
@[simp] theorem putSample_comp (n : Fin 16) (x : Sample) : (s.putSample n x).comp = s.comp := rfl
@[simp] theorem putSample_cam (n : Fin 16) (x : Sample) : (s.putSample n x).cam = s.cam := rfl
@[simp] theorem putSample_guide (n : Fin 16) (x : Sample) : (s.putSample n x).guide = s.guide := rfl
@[simp] theorem putSample_mixer (n : Fin 16) (x : Sample) : (s.putSample n x).mixer = s.mixer := rfl
@[simp] theorem putSample_store (n : Fin 16) (x : Sample) : (s.putSample n x).store = s.store := rfl
@[simp] theorem putSample_selfTest (n : Fin 16) (x : Sample) : (s.putSample n x).selfTest = s.selfTest := rfl
@[simp] theorem putSample_free (n : Fin 16) (x : Sample) : (s.putSample n x).free = s.free := rfl
@[simp] theorem putSample_pending (n : Fin 16) (x : Sample) : (s.putSample n x).pending = s.pending := rfl
@[simp] theorem putSample_chime_entries (n : Fin 16) (x : Sample) : (s.putSample n x).chime.entries = s.chime.entries := rfl
@[simp] theorem putSample_chime_nextAge (n : Fin 16) (x : Sample) : (s.putSample n x).chime.nextAge = s.chime.nextAge := rfl
@[simp] theorem putSample_chime_cadence (n : Fin 16) (x : Sample) : (s.putSample n x).chime.cadence = s.chime.cadence := rfl
@[simp] theorem putSample_chime_mode (n : Fin 16) (x : Sample) : (s.putSample n x).chime.mode = s.chime.mode := rfl
@[simp] theorem putSample_chime_sensorGiven (n : Fin 16) (x : Sample) : (s.putSample n x).chime.sensorGiven = s.chime.sensorGiven := rfl
@[simp] theorem putSample_out (n : Fin 16) (x : Sample) (j : Output) : (s.putSample n x).out j = s.out j := rfl
@[simp] theorem putSample_stream (n : Fin 16) (x : Sample) (j : StreamId) : (s.putSample n x).stream j = s.stream j := rfl
@[simp] theorem putSample_vin (n : Fin 16) (x : Sample) (j : StreamId) : (s.putSample n x).vin j = s.vin j := rfl
@[simp] theorem putSample_layer (n : Fin 16) (x : Sample) (j : Fin 24) : (s.putSample n x).layer j = s.layer j := rfl
@[simp] theorem putSample_signal (n : Fin 16) (x : Sample) (j : SignalId) : (s.putSample n x).signal j = s.signal j := rfl
@[simp] theorem putSample_rule (n : Fin 16) (x : Sample) (j : Fin 16) : (s.putSample n x).rule j = s.rule j := rfl
@[simp] theorem putSample_entry (n : Fin 16) (x : Sample) (j : Fin 8) : (s.putSample n x).entry j = s.entry j := rfl
@[simp] theorem putSample_sector (n : Fin 16) (x : Sample) (j : Fin 8) : (s.putSample n x).sector j = s.sector j := rfl

/-! ### putSector -/
@[simp] theorem putSector_sector_same (n : Fin 8) (x : Sector) : (s.putSector n x).sector n = x := Table.sel_put_same _ _ _
theorem putSector_sector_ne (n : Fin 8) (x : Sector) {j : Fin 8} (h : n ≠ j) : (s.putSector n x).sector j = s.sector j := Table.sel_put_ne _ _ h
theorem putSector_sector (n : Fin 8) (x : Sector) (j : Fin 8) : (s.putSector n x).sector j = if n = j then x else s.sector j := by
  split
  · subst_vars; simp
  · exact putSector_sector_ne s n x ‹_›
@[simp] theorem putSector_part (n : Fin 8) (x : Sector) : (s.putSector n x).part = s.part := rfl
@[simp] theorem putSector_steps (n : Fin 8) (x : Sector) : (s.putSector n x).steps = s.steps := rfl
@[simp] theorem putSector_link (n : Fin 8) (x : Sector) : (s.putSector n x).link = s.link := rfl
@[simp] theorem putSector_recv (n : Fin 8) (x : Sector) : (s.putSector n x).recv = s.recv := rfl
@[simp] theorem putSector_fmm (n : Fin 8) (x : Sector) : (s.putSector n x).fmm = s.fmm := rfl
@[simp] theorem putSector_mem (n : Fin 8) (x : Sector) : (s.putSector n x).mem = s.mem := rfl
@[simp] theorem putSector_pacer (n : Fin 8) (x : Sector) : (s.putSector n x).pacer = s.pacer := rfl
@[simp] theorem putSector_layers (n : Fin 8) (x : Sector) : (s.putSector n x).layers = s.layers := rfl
@[simp] theorem putSector_comp (n : Fin 8) (x : Sector) : (s.putSector n x).comp = s.comp := rfl
@[simp] theorem putSector_cam (n : Fin 8) (x : Sector) : (s.putSector n x).cam = s.cam := rfl
@[simp] theorem putSector_guide (n : Fin 8) (x : Sector) : (s.putSector n x).guide = s.guide := rfl
@[simp] theorem putSector_chime (n : Fin 8) (x : Sector) : (s.putSector n x).chime = s.chime := rfl
@[simp] theorem putSector_mixer (n : Fin 8) (x : Sector) : (s.putSector n x).mixer = s.mixer := rfl
@[simp] theorem putSector_selfTest (n : Fin 8) (x : Sector) : (s.putSector n x).selfTest = s.selfTest := rfl
@[simp] theorem putSector_free (n : Fin 8) (x : Sector) : (s.putSector n x).free = s.free := rfl
@[simp] theorem putSector_pending (n : Fin 8) (x : Sector) : (s.putSector n x).pending = s.pending := rfl
@[simp] theorem putSector_store_op (n : Fin 8) (x : Sector) : (s.putSector n x).store.op = s.store.op := rfl
@[simp] theorem putSector_out (n : Fin 8) (x : Sector) (j : Output) : (s.putSector n x).out j = s.out j := rfl
@[simp] theorem putSector_stream (n : Fin 8) (x : Sector) (j : StreamId) : (s.putSector n x).stream j = s.stream j := rfl
@[simp] theorem putSector_vin (n : Fin 8) (x : Sector) (j : StreamId) : (s.putSector n x).vin j = s.vin j := rfl
@[simp] theorem putSector_layer (n : Fin 8) (x : Sector) (j : Fin 24) : (s.putSector n x).layer j = s.layer j := rfl
@[simp] theorem putSector_signal (n : Fin 8) (x : Sector) (j : SignalId) : (s.putSector n x).signal j = s.signal j := rfl
@[simp] theorem putSector_rule (n : Fin 8) (x : Sector) (j : Fin 16) : (s.putSector n x).rule j = s.rule j := rfl
@[simp] theorem putSector_entry (n : Fin 8) (x : Sector) (j : Fin 8) : (s.putSector n x).entry j = s.entry j := rfl
@[simp] theorem putSector_sample (n : Fin 8) (x : Sector) (j : Fin 16) : (s.putSector n x).sample j = s.sample j := rfl

/-! ### report -/
@[simp] theorem report_part (r : Report) : (s.report r).part = s.part := rfl
@[simp] theorem report_steps (r : Report) : (s.report r).steps = s.steps := rfl
@[simp] theorem report_recv (r : Report) : (s.report r).recv = s.recv := rfl
@[simp] theorem report_fmm (r : Report) : (s.report r).fmm = s.fmm := rfl
@[simp] theorem report_mem (r : Report) : (s.report r).mem = s.mem := rfl
@[simp] theorem report_pacer (r : Report) : (s.report r).pacer = s.pacer := rfl
@[simp] theorem report_layers (r : Report) : (s.report r).layers = s.layers := rfl
@[simp] theorem report_comp (r : Report) : (s.report r).comp = s.comp := rfl
@[simp] theorem report_cam (r : Report) : (s.report r).cam = s.cam := rfl
@[simp] theorem report_guide (r : Report) : (s.report r).guide = s.guide := rfl
@[simp] theorem report_chime (r : Report) : (s.report r).chime = s.chime := rfl
@[simp] theorem report_mixer (r : Report) : (s.report r).mixer = s.mixer := rfl
@[simp] theorem report_store (r : Report) : (s.report r).store = s.store := rfl
@[simp] theorem report_selfTest (r : Report) : (s.report r).selfTest = s.selfTest := rfl
@[simp] theorem report_free (r : Report) : (s.report r).free = s.free := rfl
@[simp] theorem report_pending (r : Report) : (s.report r).pending = s.pending := rfl
@[simp] theorem report_notices (r : Report) : (s.report r).link.notices = queueReport r s.link.notices := rfl
@[simp] theorem report_link_requests (r : Report) : (s.report r).link.requests = s.link.requests := rfl
@[simp] theorem report_link_notTaken (r : Report) : (s.report r).link.notTaken = s.link.notTaken := rfl
@[simp] theorem report_link_badFrames (r : Report) : (s.report r).link.badFrames = s.link.badFrames := rfl
@[simp] theorem report_link_transaction (r : Report) : (s.report r).link.transaction = s.link.transaction := rfl
@[simp] theorem report_link_lastAnswer (r : Report) : (s.report r).link.lastAnswer = s.link.lastAnswer := rfl
@[simp] theorem report_out (r : Report) (j : Output) : (s.report r).out j = s.out j := rfl
@[simp] theorem report_stream (r : Report) (j : StreamId) : (s.report r).stream j = s.stream j := rfl
@[simp] theorem report_vin (r : Report) (j : StreamId) : (s.report r).vin j = s.vin j := rfl
@[simp] theorem report_layer (r : Report) (j : Fin 24) : (s.report r).layer j = s.layer j := rfl
@[simp] theorem report_signal (r : Report) (j : SignalId) : (s.report r).signal j = s.signal j := rfl
@[simp] theorem report_rule (r : Report) (j : Fin 16) : (s.report r).rule j = s.rule j := rfl
@[simp] theorem report_entry (r : Report) (j : Fin 8) : (s.report r).entry j = s.entry j := rfl
@[simp] theorem report_sample (r : Report) (j : Fin 16) : (s.report r).sample j = s.sample j := rfl
@[simp] theorem report_sector (r : Report) (j : Fin 8) : (s.report r).sector j = s.sector j := rfl

end Machine

end Sys2Proof
end

