-- ==== Sys2Proof/Laws/Frames.lean ====
section
/-! SUPPORT. For each shared operation, once, the pieces of the state it may change. -/

namespace Sys2Proof.Machine

-- One theorem after another: the many tasks of asynchronous elaboration exhaust the thread limit of the check.
set_option Elab.async false

open Sys2Proof

/-! ## How frames compose -/

theorem Changes.refl (ps : List Piece) (s : State) : Changes ps s s := by
  intro p _
  cases p <;> simp [Piece.same]

theorem Piece.same_trans {s t u : State} : ∀ p, Piece.same s t p → Piece.same t u p → Piece.same s u p := by
  intro p h k
  cases p <;> simp only [Piece.same] at h k ⊢ <;> simp_all

theorem Changes.trans {ps : List Piece} {s t u : State} (h : Changes ps s t) (k : Changes ps t u) : Changes ps s u :=
  fun p hp => Piece.same_trans p (h p hp) (k p hp)

/-- A frame holds with more pieces listed. -/
theorem Changes.mono {ps qs : List Piece} {s t : State} (h : Changes ps s t)
    (sub : (ps.all fun p => qs.contains p) = true := by decide) : Changes qs s t := by
  intro p hp
  refine h p fun hin => hp ?_
  have := List.all_eq_true.1 sub p hin
  simpa using this

theorem Changes.ite {ps : List Piece} {s t u : State} {c : Prop} [Decidable c] (h : Changes ps s t) (k : Changes ps s u) :
    Changes ps s (if c then t else u) := by
  split
  · exact h
  · exact k

/-- A fold changes what its step changes. -/
theorem Changes.foldl {α : Type} {ps : List Piece} {f : State → α → State} (h : ∀ t x, Changes ps t (f t x)) :
    ∀ (xs : List α) (s : State), Changes ps s (xs.foldl f s)
  | [], s => .refl ps s
  | x :: xs, s => (h s x).trans (Changes.foldl h xs (f s x))

/-- What a frame that leaves a piece out says of it. -/
theorem Changes.at {ps : List Piece} {s t : State} (h : Changes ps s t) (p : Piece)
    (out : ps.contains p = false := by decide) : Piece.same s t p := by
  refine h p fun hin => ?_
  have : ps.contains p = true := by simpa using hin
  rw [this] at out
  exact Bool.noConfusion out

/-! ## Records replaced (Ops) -/

theorem putOut_changes (s : State) (o : Output) (r : OutputRec) : Changes [.owners, .outSettings, .outRun] s (s.putOut o r) := by
  intro p hp
  cases p <;> first | exact absurd (by decide) hp | (simp only [Piece.same]; repeat' first | rfl | trivial)

/-- A record replaced by one with the same owner state and settings. -/
theorem putOut_run (s : State) (o : Output) (r : OutputRec)
    (h : (r.enabled = (s.out o).enabled ∧ r.owner = (s.out o).owner ∧ r.reason = (s.out o).reason ∧ r.wasOff = (s.out o).wasOff) ∧
      r.hostTiming = (s.out o).hostTiming ∧ r.background = (s.out o).background ∧ r.source = (s.out o).source ∧
      r.mirror = (s.out o).mirror) : Changes [.outRun] s (s.putOut o r) := by
  intro p hp
  by_cases h1 : p = .owners
  · subst h1
    intro q
    rw [putOut_out]
    split
    · subst_vars; exact h.1
    · exact ⟨rfl, rfl, rfl, rfl⟩
  · by_cases h2 : p = .outSettings
    · subst h2
      intro q
      rw [putOut_out]
      split
      · subst_vars; exact h.2
      · exact ⟨rfl, rfl, rfl, rfl⟩
    · exact putOut_changes s o r p (by simp at hp; simp [h1, h2, hp])

/-- A record replaced by one with the same settings. -/
theorem putOut_owner (s : State) (o : Output) (r : OutputRec)
    (h : r.hostTiming = (s.out o).hostTiming ∧ r.background = (s.out o).background ∧ r.source = (s.out o).source ∧
      r.mirror = (s.out o).mirror) : Changes [.owners, .outRun] s (s.putOut o r) := by
  intro p hp
  by_cases h2 : p = .outSettings
  · subst h2
    intro q
    rw [putOut_out]
    split
    · subst_vars; exact h
    · exact ⟨rfl, rfl, rfl, rfl⟩
  · exact putOut_changes s o r p (by simp at hp; simp [h2, hp])

theorem putStream_changes (s : State) (i : StreamId) (r : Stream) : Changes [.rings] s (s.putStream i r) := by
  (intro p hp
   cases p <;> first | exact absurd (by decide) hp | (simp only [Piece.same]; repeat' first | rfl | trivial | apply And.intro | intro _))

theorem putVin_changes (s : State) (p : StreamId) (f : VinFrame) : Changes [.vin] s (s.putVin p f) := by
  (intro p hp
   cases p <;> first | exact absurd (by decide) hp | (simp only [Piece.same]; repeat' first | rfl | trivial | apply And.intro | intro _))

theorem putLayer_changes (s : State) (n : Fin 24) (r : Layer) : Changes [.layers] s (s.putLayer n r) := by
  (intro p hp
   cases p <;> first | exact absurd (by decide) hp | (simp only [Piece.same]; repeat' first | rfl | trivial | apply And.intro | intro _))

theorem putSignal_changes (s : State) (i : SignalId) (r : Signal) : Changes [.signals] s (s.putSignal i r) := by
  (intro p hp
   cases p <;> first | exact absurd (by decide) hp | (simp only [Piece.same]; repeat' first | rfl | trivial | apply And.intro | intro _))

theorem putRule_changes (s : State) (n : Fin 16) (r : Rule) : Changes [.rules] s (s.putRule n r) := by
  (intro p hp
   cases p <;> first | exact absurd (by decide) hp | (simp only [Piece.same]; repeat' first | rfl | trivial | apply And.intro | intro _))

theorem putEntry_changes (s : State) (i : Fin 8) (e : Option ChimeEntry) : Changes [.entries] s (s.putEntry i e) := by
  (intro p hp
   cases p <;> first | exact absurd (by decide) hp | (simp only [Piece.same]; repeat' first | rfl | trivial | apply And.intro | intro _))

theorem putSample_changes (s : State) (n : Fin 16) (x : Sample) : Changes [.samples] s (s.putSample n x) := by
  (intro p hp
   cases p <;> first | exact absurd (by decide) hp | (simp only [Piece.same]; repeat' first | rfl | trivial | apply And.intro | intro _))

theorem putSector_changes (s : State) (n : Fin 8) (x : Sector) : Changes [.store] s (s.putSector n x) := by
  (intro p hp
   cases p <;> first | exact absurd (by decide) hp | (simp only [Piece.same]; repeat' first | rfl | trivial | apply And.intro | intro _))

theorem report_changes (s : State) (r : Report) : Changes [.notices] s (s.report r) := by
  (intro p hp
   cases p <;> first | exact absurd (by decide) hp | (simp only [Piece.same]; repeat' first | rfl | trivial | apply And.intro | intro _))

theorem advanceRequests_changes (s : State) : Changes [.requests] s s.advanceRequests := by
  (intro p hp
   cases p <;> first | exact absurd (by decide) hp | (simp only [Piece.same]; repeat' first | rfl | trivial | apply And.intro | intro _))

theorem answer_changes (s : State) (code : Byte) (r : Result) (b : ReplyBody) : Changes [.requests] s (s.answer code r b) := by
  (intro p hp
   cases p <;> first | exact absurd (by decide) hp | (simp only [Piece.same]; repeat' first | rfl | trivial | apply And.intro | intro _))

theorem setTransaction_changes (s : State) (x : Option Transaction) : Changes [.requests] s (s.setTransaction x) := by
  (intro p hp
   cases p <;> first | exact absurd (by decide) hp | (simp only [Piece.same]; repeat' first | rfl | trivial | apply And.intro | intro _))

theorem enlist_changes (s : State) (tag code : Byte) (r : Option Result) : Changes [.requests] s (s.enlist tag code r) := by
  refine Changes.ite ?_ ?_
  · (intro p hp
     cases p <;> first | exact absurd (by decide) hp | (simp only [Piece.same]; repeat' first | rfl | trivial | apply And.intro | intro _))
  · (intro p hp
     cases p <;> first | exact absurd (by decide) hp | (simp only [Piece.same]; repeat' first | rfl | trivial | apply And.intro | intro _))

/-- The end of a request frame changes what taking it changes, and the transaction under way. -/
theorem frameEnds_changes {ps : List Piece} {take : State → State} (h : ∀ t, Changes ps t (take t)) (s : State)
    (sub : ([Piece.requests].all fun p => ps.contains p) = true := by decide) : Changes ps s (s.frameEnds take) := by
  unfold State.frameEnds
  split
  · exact Changes.ite (.refl _ _) (((setTransaction_changes _ _).mono sub).trans (h _))
  · exact h s

/-- What a request row may be the frame end of changes the list of requests alone. -/
theorem taking_changes (s : State) (code : Byte) : Changes [.requests] s (s.taking code) :=
  Changes.ite (.refl _ _) (frameEnds_changes (fun _ => enlist_changes _ _ _ _) s)

/-- A request changes what its block changes, and the list of requests. -/
theorem request_changes {ps : List Piece} {code : Byte} {block : State → State × Reply}
    (h : ∀ t, Changes ps t (block t).1) (s : State) : Changes (.requests :: ps) s (request code block s) := by
  have up : ∀ {t u}, Changes ps t u → Changes (.requests :: ps) t u := fun h p hp => h p fun hin => hp (.tail _ hin)
  have an : ∀ t c r b, Changes (.requests :: ps) t (State.answer t c r b) := fun t c r b p hp =>
    answer_changes t c r b p fun hin => hp (by simp at hin; simp [hin])
  have ht : Changes (.requests :: ps) s (s.taking code) := fun p hp =>
    taking_changes s code p fun hin => hp (by simp at hin; simp [hin])
  unfold request
  dsimp only
  split
  · have hb := ht.trans (up (h (s.taking code)))
    split
    · rename_i t r b e
      rw [e] at hb
      exact hb.trans (an t _ _ _)
    · rename_i t e
      rw [e] at hb
      exact hb
  · exact ht

/-- The same for a request with a body. -/
theorem requestWith_changes {α : Type} {ps : List Piece} {code : Byte} {block : α → State → State × Reply}
    (h : ∀ f t, Changes ps t (block f t).1) (b : Body α) (s : State) :
    Changes (.requests :: ps) s (requestWith code b block s) := by
  refine request_changes (fun t => ?_) s
  cases b with
  | whole f => exact h f t
  | short => exact .refl ps t

/-! ## Frame memory (Fmm) -/

theorem offerError_changes (s : State) (page : Nat) (o : Owner) (rd : Reader) :
    Changes [.errorRecord, .notices] s (s.offerError page o rd) := by
  unfold State.offerError
  split <;> (intro p hp
             cases p <;> first | exact absurd (by decide) hp | (simp only [Piece.same]; repeat' first | rfl | trivial | apply And.intro | intro _))

/-- The pieces that finding an uncorrectable error may change. -/
def errorPieces : List Piece := [.memory, .errorRecord, .consequences, .selfTest, .free, .notices]

theorem selfTestFinds_changes (s : State) (w : Nat) : Changes [.selfTest, .free] s (s.selfTestFinds w) := by
  unfold State.selfTestFinds
  split
  · refine Changes.ite ?_ (.refl _ _)
    (intro p hp
     cases p <;> first | exact absurd (by decide) hp | (simp only [Piece.same]; repeat' first | rfl | trivial | apply And.intro | intro _))
  · exact .refl _ _

theorem findError_changes (s : State) (rd : Reader) (w : Nat) : Changes errorPieces s (s.findError rd w) := by
  have h1 : Changes errorPieces s { s with mem := s.mem.markBad w } := by
    (intro p hp
     cases p <;> first | exact absurd (by decide) hp | (simp only [Piece.same]; repeat' first | rfl | trivial | apply And.intro | intro _))
  have h3 : ∀ (t : State) (c : Consequence), Changes errorPieces t { t with fmm := t.fmm.hold c } := by
    intro t c
    have : (t.fmm.hold c).runs = t.fmm.runs ∧ (t.fmm.hold c).lowTop = t.fmm.lowTop ∧
        (t.fmm.hold c).highBottom = t.fmm.highBottom ∧ (t.fmm.hold c).record = t.fmm.record ∧
        (t.fmm.hold c).corrected = t.fmm.corrected := by
      unfold Fmm.hold
      split <;> exact ⟨rfl, rfl, rfl, rfl, rfl⟩
    intro p hp
    cases p <;> first | exact absurd (by decide) hp | (simp only [Piece.same] <;> simp [this, State.out])
  unfold State.findError
  dsimp only
  have h3' := h1.trans ((offerError_changes _ (w / Config.pageWords) (s.fmm.ownerOf (w / Config.pageWords)) rd).mono
    (qs := errorPieces))
  generalize State.offerError _ _ _ _ = u at h3' ⊢
  have h4 : Changes errorPieces s (if rd = .selfTest then u.selfTestFinds w else u) :=
    Changes.ite (h3'.trans ((selfTestFinds_changes u w).mono)) h3'
  split
  · exact h4.trans (h3 _ _)
  · exact h4

/-! ## The Stream Pacer -/

theorem setStreamState_changes (s : State) (i : StreamId) (st : StreamState) :
    Changes [.rings, .notices] s (s.setStreamState i st) :=
  ((putStream_changes _ _ _).mono).trans ((report_changes _ _).mono)

theorem pace_changes (s : State) (i : StreamId) (e : Nat) : Changes [.rings, .notices] s (s.pace i e) := by
  unfold State.pace
  refine Changes.ite ?_ (.refl _ _)
  dsimp only
  refine Changes.ite (Changes.trans (Changes.ite ?_ ?_) (setStreamState_changes _ _ _)) (Changes.ite ?_ ?_) <;>
  first
  | exact (putStream_changes _ _ _).mono
  | exact ((putStream_changes _ _ _).mono).trans ((report_changes _ _).mono)

theorem releaseScan_changes (s : State) (o : Output) : Changes [.rings] s (s.releaseScan o) :=
  (putStream_changes _ _ _).trans (putStream_changes _ _ _)

theorem selectSlot_changes (s : State) (i : StreamId) (tag : FrameTag) :
    Changes [.rings, .vin, .notices] s (s.selectSlot i tag) := by
  unfold State.selectSlot
  dsimp only
  split
  · exact ((putStream_changes _ _ _).mono).trans ((putVin_changes _ _ _).mono)
  · exact (((putStream_changes _ _ _).mono).trans ((putVin_changes _ _ _).mono)).trans ((report_changes _ _).mono)

theorem badTag_changes (s : State) (i : StreamId) : Changes [.rings, .vin, .notices] s (s.badTag i) :=
  (((putStream_changes _ _ _).mono).trans ((putVin_changes _ _ _).mono)).trans ((report_changes _ _).mono)

theorem shortPicture_changes (s : State) (i : StreamId) (k : Nat) : Changes [.rings, .notices] s (s.shortPicture i k) :=
  ((putStream_changes _ _ _).mono).trans ((report_changes _ _).mono)

theorem completePicture_changes (s : State) (i : StreamId) (k : Nat) (tag : FrameTag) :
    Changes [.rings, .notices] s (s.completePicture i k tag) := by
  unfold State.completePicture
  dsimp only
  refine Changes.ite (((putStream_changes _ _ _).mono).trans ((report_changes _ _).mono)) ?_
  refine Changes.ite (Changes.trans (Changes.ite ?_ ?_) (setStreamState_changes _ _ _)) (Changes.ite ?_ ?_) <;>
  first
  | exact (putStream_changes _ _ _).mono
  | exact ((putStream_changes _ _ _).mono).trans ((report_changes _ _).mono)

theorem endPicture_changes (s : State) (i : StreamId) (k : Nat) (short : Bool) :
    Changes [.rings, .notices] s (s.endPicture i k short) := by
  unfold State.endPicture
  dsimp only
  split
  · exact Changes.ite (completePicture_changes _ _ _ _) (shortPicture_changes _ _ _)
  · exact .refl _ _

theorem mem_changes (s : State) (m : FrameMemory) : Changes [.memory] s { s with mem := m } := by
  (intro p hp
   cases p <;> first | exact absurd (by decide) hp | (simp only [Piece.same]; repeat' first | rfl | trivial | apply And.intro | intro _))

theorem pictureLine_changes (s : State) (i : StreamId) (k : Nat) (line : List Byte) :
    Changes [.memory, .rings, .vin] s (s.pictureLine i k line) := by
  unfold State.pictureLine
  dsimp only
  split
  · refine Changes.ite ?_ (.refl _ _)
    refine Changes.ite (Changes.trans ?_ ((putVin_changes _ _ _).mono)) ?_ <;>
    exact ((mem_changes _ _).mono).trans ((putStream_changes _ _ _).mono)
  · exact .refl _ _

theorem dropSlot_changes (s : State) (i : StreamId) (k : Nat) (st : Option Nat) :
    Changes [.rings, .notices] s (s.dropSlot i k st) :=
  (Changes.ite ((putStream_changes _ _ _).mono) (.refl _ _)).trans ((report_changes _ _).mono)

/-! ## The Layer Store -/

theorem flip_changes (s : State) (n : Fin 24) : Changes [.layers, .notices] s (s.flip n) := by
  unfold State.flip
  dsimp only
  refine Changes.ite (Changes.trans (Changes.ite ?_ ?_) ((report_changes _ _).mono)) (Changes.ite ?_ ?_) <;>
  first
  | exact (putLayer_changes _ _ _).mono
  | exact ((putLayer_changes _ _ _).mono).trans ((report_changes _ _).mono)

theorem flipWhere_changes (s : State) (p : State → Fin 24 → Bool) : Changes [.layers, .notices] s (s.flipWhere p) :=
  Changes.foldl (fun t n => Changes.ite (flip_changes t n) (.refl _ t)) _ s

theorem settleFlips_changes (s : State) : Changes [.layers, .notices] s s.settleFlips := flipWhere_changes s _

theorem repair_changes (s : State) (n : Fin 24) (plane : Fin 2) : Changes [.layers, .notices] s (s.repair n plane) := by
  unfold State.repair
  dsimp only
  refine Changes.ite (Changes.ite (Changes.trans ?_ (flip_changes _ _)) ?_) ?_ <;> exact (putLayer_changes _ _ _).mono

theorem requestFlip_changes (s : State) (n : Fin 24) : Changes [.layers, .notices] s (s.requestFlip n).1 := by
  unfold State.requestFlip
  split
  · exact (putLayer_changes _ _ _).mono
  · exact flip_changes _ _

theorem beginLayerFrame_changes (s : State) (p : StreamId) (target w h : Nat) (a : Bool) :
    Changes [.layers, .vin, .notices] s (s.beginLayerFrame p target w h a) := by
  unfold State.beginLayerFrame
  split
  · exact (putVin_changes _ _ _).mono
  · dsimp only
    exact Changes.ite (((putVin_changes _ _ _).mono).trans ((report_changes _ _).mono))
      (((putLayer_changes _ _ _).mono).trans ((putVin_changes _ _ _).mono))

theorem failLayerFrame_changes (s : State) (n : Fin 24) : Changes [.layers, .notices] s (s.failLayerFrame n) :=
  ((putLayer_changes _ _ _).mono).trans ((report_changes _ _).mono)

theorem layerLine_changes (s : State) (p : StreamId) (n : Fin 24) (k : Nat) (a : Bool) (line : List Byte) :
    Changes [.memory, .layers, .vin, .notices] s (s.layerLine p n k a line) := by
  unfold State.layerLine
  dsimp only
  refine Changes.ite (Changes.ite ?_ ?_) (.refl _ _)
  · exact (((mem_changes _ _).mono).trans ((failLayerFrame_changes _ _).mono)).trans ((putVin_changes _ _ _).mono)
  · exact ((mem_changes _ _).mono).trans ((putVin_changes _ _ _).mono)

theorem completeLayerFrame_changes (s : State) (n : Fin 24) (a : Bool) :
    Changes [.layers, .notices] s (s.completeLayerFrame n a) := by
  unfold State.completeLayerFrame
  dsimp only
  have h := (((putLayer_changes s n { s.layer n with mark := (s.layer n).planeSize, vinLoad := none }).mono
    (qs := [.layers, .notices])).trans (repair_changes _ n (s.layer n).target)).trans
    ((report_changes _ (loadedEvent n)).mono)
  exact Changes.ite (h.trans (requestFlip_changes _ _)) h

theorem damageLayer_changes (s : State) (n : Fin 24) (i : Nat) : Changes [.layers, .notices] s (s.damageLayer n i) :=
  (((putLayer_changes _ _ _).mono).trans ((report_changes _ _).mono)).trans (settleFlips_changes _)

theorem mapFrames_changes (s : State) (f : OutputFrame → OutputFrame) : Changes [.outRun] s (s.mapFrames f) :=
  Changes.foldl (fun t o => putOut_run t o { t.out o with frame := (t.out o).frame.map f } ⟨⟨rfl, rfl, rfl, rfl⟩, rfl, rfl, rfl, rfl⟩) _ s

theorem Fmm.free_rest (f : Fmm) (o : RunOwner) : (f.free o).record = f.record ∧ (f.free o).corrected = f.corrected := by
  unfold Fmm.free
  split <;> exact ⟨rfl, rfl⟩

theorem fmmFree_changes (s : State) (o : RunOwner) : Changes [.pageMap, .consequences] s { s with fmm := s.fmm.free o } := by
  intro p hp
  cases p <;> first | exact absurd (by decide) hp | (simp only [Piece.same] <;> simp [Fmm.free_rest, State.out])

theorem freeLayer_changes (s : State) (d : Table (Option (Fin 24)) 3) (o : RunOwner) :
    Changes [.pageMap, .consequences, .designations] s
      { s with layers := { s.layers with designations := d }, fmm := s.fmm.free o } := by
  intro p hp
  cases p <;> first | exact absurd (by decide) hp | (simp only [Piece.same] <;> simp [Fmm.free_rest, State.out])

theorem deleteLayer_changes (s : State) (n : Fin 24) :
    Changes [.pageMap, .consequences, .layers, .designations, .vin, .outRun] s (s.deleteLayer n) := by
  have h1 : Changes [.pageMap, .consequences, .layers, .designations, .vin, .outRun] s
      (State.putLayer (match (s.layer n).vinLoad with
        | some p => s.putVin p .ignored
        | none => s) n .initial) := by
    refine Changes.trans ?_ ((putLayer_changes _ _ _).mono)
    split
    · exact (putVin_changes _ _ _).mono
    · exact .refl _ _
  unfold State.deleteLayer
  dsimp only
  generalize State.putLayer _ n .initial = u at h1 ⊢
  exact (h1.trans ((freeLayer_changes u _ _).mono)).trans ((mapFrames_changes _ _).mono)

/-! ## The Guide Line Generator -/

theorem beginDrawing_changes (s : State) : Changes [.guide] s s.beginDrawing := by
  (intro p hp
   cases p <;> first | exact absurd (by decide) hp | (simp only [Piece.same]; repeat' first | rfl | trivial | apply And.intro | intro _))

theorem beginComputation_changes (s : State) : Changes [.guide] s s.beginComputation := by
  unfold State.beginComputation
  refine Changes.ite (beginDrawing_changes s) ?_
  (intro p hp
   cases p <;> first | exact absurd (by decide) hp | (simp only [Piece.same]; repeat' first | rfl | trivial | apply And.intro | intro _))

theorem requestRecompute_changes (s : State) : Changes [.guide] s s.requestRecompute := by
  unfold State.requestRecompute
  refine Changes.ite ?_ (.refl _ _)
  split
  · exact beginComputation_changes s
  · exact .refl _ _
  · (intro p hp
     cases p <;> first | exact absurd (by decide) hp | (simp only [Piece.same]; repeat' first | rfl | trivial | apply And.intro | intro _))
  · (intro p hp
     cases p <;> first | exact absurd (by decide) hp | (simp only [Piece.same]; repeat' first | rfl | trivial | apply And.intro | intro _))

theorem dropGuideConsequences_changes (s : State) : Changes [.consequences] s s.dropGuideConsequences := by
  (intro p hp
   cases p <;> first | exact absurd (by decide) hp | (simp only [Piece.same]; repeat' first | rfl | trivial | apply And.intro | intro _))

theorem flipByAnyView_changes (s : State) : Changes [.guide] s s.flipByAnyView := by
  unfold State.flipByAnyView
  split
  · (intro p hp
     cases p <;> first | exact absurd (by decide) hp | (simp only [Piece.same]; repeat' first | rfl | trivial | apply And.intro | intro _))
  · exact .refl _ _

theorem stopGuide_changes (s : State) : Changes [.guide, .consequences] s s.stopGuide := by
  (intro p hp
   cases p <;> first | exact absurd (by decide) hp | (simp only [Piece.same]; repeat' first | rfl | trivial | apply And.intro | intro _))

/-- A change of what the Generator was handed, with a change of its own state alone. -/
theorem handGuide_changes (s : State) (f : Guide → Guide)
    (h : (f s.guide).geometry = s.guide.geometry ∧ (f s.guide).valid = s.guide.valid ∧ (f s.guide).style = s.guide.style) :
    Changes [.guide, .consequences] s (s.handGuide f) := by
  have h1 : Changes [.guide, .consequences] s { s with guide := f s.guide } := by
    intro p hp
    cases p <;> first | exact absurd (by decide) hp | (simp only [Piece.same]; first | exact h | (repeat' first | rfl | trivial | apply And.intro | intro _))
  unfold State.handGuide
  dsimp only
  exact Changes.ite (h1.trans (stopGuide_changes _)) (Changes.ite (h1.trans ((requestRecompute_changes _).mono)) h1)

theorem redraw_changes (s : State) : Changes [.guide] s s.redraw := by
  have h1 : Changes [.guide] s { s with guide := { s.guide with comp := .idle, recompute := false } } := by
    (intro p hp
     cases p <;> first | exact absurd (by decide) hp | (simp only [Piece.same]; repeat' first | rfl | trivial | apply And.intro | intro _))
  exact h1.trans (beginComputation_changes _)

theorem steerLost_changes (s : State) : Changes [.guide, .consequences] s s.steerLost := by
  have h1 : Changes [.guide, .consequences] s { s with guide := { s.guide with content := .hidden, onView := .none } } := by
    (intro p hp
     cases p <;> first | exact absurd (by decide) hp | (simp only [Piece.same]; repeat' first | rfl | trivial | apply And.intro | intro _))
  unfold State.steerLost
  dsimp only
  refine Changes.ite (Changes.ite ?_ ?_) (.refl _ _)
  · exact (Changes.trans (Changes.ite h1 (.refl _ _)) ((dropGuideConsequences_changes _).mono)).trans ((redraw_changes _).mono)
  · exact (Changes.ite h1 (.refl _ _)).trans ((requestRecompute_changes _).mono)

theorem steerUpdated_changes (s : State) (b : Bool) : Changes [.guide] s (s.steerUpdated b) :=
  Changes.ite (requestRecompute_changes s) (.refl _ _)

theorem releaseGuide_changes (s : State) (o : Output) : Changes [.guide] s (s.releaseGuide o) := by
  have h1 : ∀ x, Changes [.guide] s { s with guide := { s.guide with holds := x } } := by
    intro x
    (intro p hp
     cases p <;> first | exact absurd (by decide) hp | (simp only [Piece.same]; repeat' first | rfl | trivial | apply And.intro | intro _))
  exact Changes.ite ((h1 _).trans (beginDrawing_changes _)) (h1 _)

theorem flipGuide_changes (s : State) : Changes [.guide] s s.flipGuide := by
  unfold State.flipGuide
  split
  · dsimp only
    have h1 : ∀ d : Drawing, Changes [.guide] s { s with guide := { s.guide with
        front := s.guide.back, content := d.content, onView := d.summary, comp := .idle } } := by
      intro d
      (intro p hp
       cases p <;> first | exact absurd (by decide) hp | (simp only [Piece.same]; repeat' first | rfl | trivial | apply And.intro | intro _))
    exact Changes.ite ((h1 _).trans (redraw_changes _)) (h1 _)
  · exact .refl _ _

theorem endDrawing_changes (s : State) : Changes [.memory, .guide, .consequences] s s.endDrawing := by
  unfold State.endDrawing
  split
  · dsimp only
    refine Changes.ite (Changes.trans ?_ ((redraw_changes _).mono)) ?_
    · (intro p hp
       cases p <;> first | exact absurd (by decide) hp | (simp only [Piece.same]; repeat' first | rfl | trivial | apply And.intro | intro _))
    · (intro p hp
       cases p <;> first | exact absurd (by decide) hp | (simp only [Piece.same]; repeat' first | rfl | trivial | apply And.intro | intro _))
  · exact .refl _ _

/-! ## The Camera Monitor -/

theorem setCameraStatus_changes (s : State) (st : CameraStatus) : Changes cameraPieces s (s.setCameraStatus st) := by
  have h1 : Changes cameraPieces s (State.report { s with cam := { s.cam with status := st } } (.cameraState st)) := by
    (intro p hp
     cases p <;> first | exact absurd (by decide) hp | (simp only [Piece.same]; repeat' first | rfl | trivial | apply And.intro | intro _))
  exact h1.trans ((handGuide_changes _ _ ⟨rfl, rfl, rfl⟩).mono)

theorem wakeCamera_changes (s : State) : Changes cameraPieces s s.wakeCamera := by
  have h1 : Changes cameraPieces s { s with cam := { s.cam with
      timer := some 0, prevSig := none, equalRun := 0, recovery := 0 } } := by
    (intro p hp
     cases p <;> first | exact absurd (by decide) hp | (simp only [Piece.same]; repeat' first | rfl | trivial | apply And.intro | intro _))
  exact h1.trans (setCameraStatus_changes _ _)

theorem stopCamera_changes (s : State) : Changes (.capture :: cameraPieces) s s.stopCamera := by
  have h1 : Changes (.capture :: cameraPieces) s { s with cam := { s.cam with
      timer := none, prevSig := none, equalRun := 0, recovery := 0, rx := none
      slots := ((s.cam.slots.upd 0 CaptureSlot.unfilled).upd 1 CaptureSlot.unfilled).upd 2 CaptureSlot.unfilled } } := by
    (intro p hp
     cases p <;> first | exact absurd (by decide) hp | (simp only [Piece.same]; repeat' first | rfl | trivial | apply And.intro | intro _))
  exact h1.trans ((setCameraStatus_changes _ _).mono)

theorem followCamera_changes (s : State) : Changes (.capture :: cameraPieces) s s.followCamera :=
  Changes.ite (Changes.ite ((wakeCamera_changes s).mono) (.refl _ _)) (Changes.ite (.refl _ _) (stopCamera_changes s))

theorem loseCamera_changes (s : State) : Changes cameraPieces s s.loseCamera := by
  have h1 : Changes cameraPieces s { s with cam := { s.cam with
      timer := some 0, prevSig := none, equalRun := 0, recovery := 0 } } := by
    (intro p hp
     cases p <;> first | exact absurd (by decide) hp | (simp only [Piece.same]; repeat' first | rfl | trivial | apply And.intro | intro _))
  exact h1.trans (setCameraStatus_changes _ _)

theorem wakeExpired_changes (s : State) : Changes cameraPieces s s.wakeExpired :=
  Changes.ite (loseCamera_changes s) (.refl _ _)

theorem frameExpired_changes (s : State) : Changes cameraPieces s s.frameExpired := by
  unfold State.frameExpired
  refine Changes.ite ?_ (.refl _ _)
  split
  · exact loseCamera_changes s
  · exact loseCamera_changes s
  · (intro p hp
     cases p <;> first | exact absurd (by decide) hp | (simp only [Piece.same]; repeat' first | rfl | trivial | apply And.intro | intro _))
  · exact .refl _ _
  · exact .refl _ _

theorem captureLine_changes (s : State) (rx : CameraRx) (line : List Byte) :
    Changes [.memory, .capture] s (s.captureLine rx line) := by
  unfold State.captureLine
  dsimp only
  split
  · (intro p hp
     cases p <;> first | exact absurd (by decide) hp | (simp only [Piece.same]; repeat' first | rfl | trivial | apply And.intro | intro _))
  · (intro p hp
     cases p <;> first | exact absurd (by decide) hp | (simp only [Piece.same]; repeat' first | rfl | trivial | apply And.intro | intro _))

theorem goodFrame_changes (s : State) (sig : BitVec 16) : Changes cameraPieces s (s.goodFrame sig) := by
  have h1 : Changes cameraPieces s { s with cam := Camera.compare { s.cam with timer := some 0 } sig } := by
    unfold Camera.compare
    split <;> (intro p hp
               cases p <;> first | exact absurd (by decide) hp | (simp only [Piece.same]; repeat' first | rfl | trivial | apply And.intro | intro _))
  unfold State.goodFrame
  dsimp only
  split
  · exact .refl _ _
  · exact h1.trans (setCameraStatus_changes _ _)
  · exact Changes.ite (h1.trans (setCameraStatus_changes _ _)) h1
  · exact Changes.ite (h1.trans (setCameraStatus_changes _ _)) h1
  · refine Changes.ite (Changes.trans (h1.trans ?_) (setCameraStatus_changes _ _)) (h1.trans ?_)
    · (intro p hp
       cases p <;> first | exact absurd (by decide) hp | (simp only [Piece.same]; repeat' first | rfl | trivial | apply And.intro | intro _))
    · (intro p hp
       cases p <;> first | exact absurd (by decide) hp | (simp only [Piece.same]; repeat' first | rfl | trivial | apply And.intro | intro _))

theorem shortFrame_changes (s : State) : Changes cameraPieces s s.shortFrame := by
  refine Changes.ite ?_ (.refl _ _)
  (intro p hp
   cases p <;> first | exact absurd (by decide) hp | (simp only [Piece.same]; repeat' first | rfl | trivial | apply And.intro | intro _))

theorem endCameraFrame_changes (s : State) : Changes (.capture :: cameraPieces) s s.endCameraFrame := by
  unfold State.endCameraFrame
  split
  · exact .refl _ _
  · dsimp only
    refine Changes.ite (Changes.trans ?_ ((goodFrame_changes _ _).mono)) (Changes.trans ?_ ((shortFrame_changes _).mono)) <;>
    (split
     · split
       · (intro p hp
          cases p <;> first | exact absurd (by decide) hp | (simp only [Piece.same]; repeat' first | rfl | trivial | apply And.intro | intro _))
       · (intro p hp
          cases p <;> first | exact absurd (by decide) hp | (simp only [Piece.same]; repeat' first | rfl | trivial | apply And.intro | intro _))
     · (intro p hp
        cases p <;> first | exact absurd (by decide) hp | (simp only [Piece.same]; repeat' first | rfl | trivial | apply And.intro | intro _)))

theorem startCameraFrame_changes (s : State) : Changes (.capture :: cameraPieces) s s.startCameraFrame := by
  have h1 : ∀ t : State, Changes (.capture :: cameraPieces) t { t with cam := t.cam.startFrame } := by
    intro t
    unfold Camera.startFrame
    split
    · (intro p hp
       cases p <;> first | exact absurd (by decide) hp | (simp only [Piece.same]; repeat' first | rfl | trivial | apply And.intro | intro _))
    · (intro p hp
       cases p <;> first | exact absurd (by decide) hp | (simp only [Piece.same]; repeat' first | rfl | trivial | apply And.intro | intro _))
  exact Changes.ite (.refl _ _) ((endCameraFrame_changes s).trans (h1 _))

theorem discardCapture_changes (s : State) (k : Fin 3) : Changes [.capture] s (s.discardCapture k) := by
  refine Changes.ite ?_ (.refl _ _)
  (intro p hp
   cases p <;> first | exact absurd (by decide) hp | (simp only [Piece.same]; repeat' first | rfl | trivial | apply And.intro | intro _))

theorem releaseCapture_changes (s : State) (o : Output) : Changes [.capture] s (s.releaseCapture o) := by
  (intro p hp
   cases p <;> first | exact absurd (by decide) hp | (simp only [Piece.same]; repeat' first | rfl | trivial | apply And.intro | intro _))

theorem takeCapture_changes (s : State) (o : Output) : Changes [.capture] s (s.takeCapture o) := by
  unfold State.takeCapture
  dsimp only
  split
  · (intro p hp
     cases p <;> first | exact absurd (by decide) hp | (simp only [Piece.same]; repeat' first | rfl | trivial | apply And.intro | intro _))
  · (intro p hp
     cases p <;> first | exact absurd (by decide) hp | (simp only [Piece.same]; repeat' first | rfl | trivial | apply And.intro | intro _))

/-! ## The Chime Player and the Mixer -/

theorem mixer_changes (s : State) (m : Mixer) : Changes [.mixer] s { s with mixer := m } := by
  (intro p hp
   cases p <;> first | exact absurd (by decide) hp | (simp only [Piece.same]; repeat' first | rfl | trivial | apply And.intro | intro _))

theorem handMixerRev_changes (s : State) (b : Bool) : Changes [.mixer] s (s.handMixerRev b) := mixer_changes s _

theorem park_changes (s : State) (m : ParkMode) (b : Bool) :
    Changes [.park] s { s with chime := { s.chime with mode := m, sensorGiven := b } } := by
  (intro p hp
   cases p <;> first | exact absurd (by decide) hp | (simp only [Piece.same]; repeat' first | rfl | trivial | apply And.intro | intro _))

theorem chooseChime_changes (s : State) : Changes [.entries] s s.chooseChime := by
  unfold State.chooseChime
  refine Changes.ite (.refl _ _) ?_
  split
  · exact putEntry_changes _ _ _
  · exact .refl _ _

theorem endEntry_changes (s : State) (i : Fin 8) (r : ChimeEnd) : Changes [.entries, .park, .notices] s (s.endEntry i r) := by
  unfold State.endEntry
  split
  · exact .refl _ _
  · dsimp only
    refine Changes.ite (Changes.trans ?_ ((park_changes _ _ _).mono)) ?_ <;>
    exact ((putEntry_changes _ _ _).mono).trans ((report_changes _ _).mono)

theorem makeEntry_changes (s : State) (i : Fin 8) (c : ChimeClass) (o : ChimeOrigin) (x : Sound) (n : Nat) (tag : Byte) :
    Changes [.entries] s (s.makeEntry i c o x n tag) := by
  (intro p hp
   cases p <;> first | exact absurd (by decide) hp | (simp only [Piece.same]; repeat' first | rfl | trivial | apply And.intro | intro _))

theorem admitPark_changes (s : State) (x : Sound) (n : Nat) : Changes [.entries, .park, .notices] s (s.admitPark x n).1 := by
  unfold State.admitPark
  split
  · exact ((makeEntry_changes _ _ _ _ _ _ _).mono).trans ((chooseChime_changes _).mono)
  · split
    · split
      · exact .refl _ _
      · exact ((endEntry_changes _ _ _).trans ((makeEntry_changes _ _ _ _ _ _ _).mono)).trans ((chooseChime_changes _).mono)
    · exact .refl _ _

theorem cancelPark_changes (s : State) : Changes [.entries, .park, .notices] s s.cancelPark := by
  unfold State.cancelPark
  split
  · exact (endEntry_changes _ _ _).trans ((chooseChime_changes _).mono)
  · exact .refl _ _

theorem makeSensorChime_changes (s : State) : Changes [.entries, .park, .notices] s s.makeSensorChime := by
  unfold State.makeSensorChime
  dsimp only
  exact Changes.ite ((admitPark_changes _ _ _).trans ((park_changes _ _ _).mono)) (admitPark_changes _ _ _)

theorem makeBeat_changes (s : State) (m : ParkMode) (x : Sound) : Changes [.entries, .park, .notices] s (s.makeBeat m x) := by
  unfold State.makeBeat
  dsimp only
  exact Changes.ite ((admitPark_changes _ _ _).trans ((park_changes _ _ _).mono)) (admitPark_changes _ _ _)

theorem changeBeat_changes (s : State) (m : ParkMode) (x : Sound) : Changes [.entries, .park, .notices] s (s.changeBeat m x) := by
  unfold State.changeBeat
  dsimp only
  split
  · exact ((park_changes s m s.chime.sensorGiven).mono).trans ((putEntry_changes _ _ _).mono)
  · exact (park_changes s m s.chime.sensorGiven).mono

theorem applyWish_changes (s : State) (w : ParkWish) (b : Bool) : Changes [.entries, .park, .notices] s (s.applyWish w b) := by
  unfold State.applyWish
  split
  · exact .refl _ _
  · exact makeSensorChime_changes _
  · exact makeBeat_changes _ _ _
  · exact Changes.ite (.refl _ _) (cancelPark_changes _)
  · exact .refl _ _
  · exact (cancelPark_changes _).trans (makeBeat_changes _ _ _)
  · exact cancelPark_changes _
  · exact (cancelPark_changes _).trans (makeSensorChime_changes _)
  · exact changeBeat_changes _ _ _

theorem decidePark_changes (s : State) : Changes [.entries, .park, .notices] s s.decidePark :=
  Changes.ite (applyWish_changes _ _ _) (.refl _ _)

theorem retryPark_changes (s : State) : Changes [.entries, .park, .notices] s s.retryPark :=
  Changes.ite (decidePark_changes s) (.refl _ _)

theorem afterEnd_changes (s : State) : Changes [.entries, .park, .notices] s s.afterEnd :=
  ((chooseChime_changes s).mono).trans (retryPark_changes _)

theorem syncPlaying_changes (s : State) : Changes [.mixer] s s.syncPlaying := Changes.ite (.refl _ _) (mixer_changes s _)

theorem chimeRise_changes (s : State) : Changes chimePieces s s.chimeRise :=
  (((park_changes s s.chime.mode false).mono).trans ((decidePark_changes _).mono)).trans ((syncPlaying_changes _).mono)

theorem chimeFall_changes (s : State) : Changes chimePieces s s.chimeFall :=
  (((cancelPark_changes s).mono).trans ((park_changes _ .absent s.cancelPark.chime.sensorGiven).mono)).trans
    ((syncPlaying_changes _).mono)

theorem parkEvent_changes (s : State) : Changes chimePieces s s.parkEvent :=
  ((decidePark_changes s).mono).trans ((syncPlaying_changes _).mono)

theorem preempt_changes (s : State) : Changes [.entries, .park, .notices] s s.preempt := by
  unfold State.preempt
  split
  · exact (chooseChime_changes _).mono
  · split
    · exact .refl _ _
    · refine Changes.ite (.refl _ _) (Changes.ite ((endEntry_changes _ _ _).trans (afterEnd_changes _)) ?_)
      exact ((putEntry_changes _ _ _).mono).trans ((chooseChime_changes _).mono)

theorem endRepetition_changes (s : State) (i : Fin 8) (e : ChimeEntry) :
    Changes [.entries, .park, .notices] s (s.endRepetition i e) := by
  unfold State.endRepetition
  dsimp only
  refine Changes.ite ((endEntry_changes _ _ _).trans (afterEnd_changes _)) (Changes.ite ?_ ((putEntry_changes _ _ _).mono))
  exact ((putEntry_changes _ _ _).mono).trans ((chooseChime_changes _).mono)

theorem damageSample_changes (s : State) (n : Fin 16) : Changes (.samples :: chimePieces) s (s.damageSample n) := by
  unfold State.damageSample
  dsimp only
  refine Changes.ite ?_ ((putSample_changes _ _ _).mono)
  have h1 := (putSample_changes s n { s.sample n with state := .damaged, mark := 0 }).mono (qs := .samples :: chimePieces)
  generalize s.putSample n { s.sample n with state := .damaged, mark := 0 } = t at h1 ⊢
  have h2 : Changes (.samples :: chimePieces) t
      (entryIds.foldl (fun u i => if u.entryIs (fun e => e.sound.names n) i then u.endEntry i .played else u) t) :=
    Changes.foldl (fun t i => Changes.ite ((endEntry_changes t i .played).mono) (.refl _ t)) _ _
  exact ((h1.trans h2).trans ((afterEnd_changes _).mono)).trans ((syncPlaying_changes _).mono)

theorem advanceVoice_changes (s : State) : Changes [.entries, .park, .notices] s s.advanceVoice := by
  unfold State.advanceVoice
  split
  · exact .refl _ _
  · split
    · exact .refl _ _
    · dsimp only
      exact Changes.ite (endRepetition_changes _ _ _) ((putEntry_changes _ _ _).mono)

/-! ## Consequences and refresh events -/

theorem handConsequence_changes (s : State) (c : Consequence) : Changes handPieces s (s.handConsequence c) := by
  unfold State.handConsequence
  split
  · exact (dropSlot_changes _ _ _ _).mono
  · exact (damageLayer_changes _ _ _).mono
  · exact (discardCapture_changes _ _).mono
  · exact (requestRecompute_changes _).mono
  · exact (damageSample_changes _ _).mono

theorem handDue_changes (s : State) (r : Reader) : Changes handPieces s (s.handDue r) := by
  have h1 : ∀ x, Changes handPieces s { s with fmm := { s.fmm with pending := x } } := by
    intro x
    (intro p hp
     cases p <;> first | exact absurd (by decide) hp | (simp only [Piece.same]; repeat' first | rfl | trivial | apply And.intro | intro _))
  exact (h1 _).trans (Changes.foldl handConsequence_changes _ _)

theorem formSample_changes (s : State) : Changes [.mixer, .consequences] s s.formSample := by
  (intro p hp
   cases p <;> first | exact absurd (by decide) hp | (simp only [Piece.same]; repeat' first | rfl | trivial | apply And.intro | intro _))

theorem endFrame_changes (s : State) (o : Output) : Changes [.outRun, .rings] s (s.endFrame o) :=
  ((putOut_run s o { s.out o with
      frame := none
      activeTiming := if (s.out o).owner = .normal then (s.out o).hostTiming else (s.out o).activeTiming }
    ⟨⟨rfl, rfl, rfl, rfl⟩, rfl, rfl, rfl, rfl⟩).mono).trans ((releaseScan_changes _ o).mono)

theorem handAndPace_changes (s : State) (o : Output) : Changes (.free :: handPieces) s (s.handAndPace o) := by
  have h1 : ∀ x, Changes (.free :: handPieces) s { s with free := x } := by
    intro x
    (intro p hp
     cases p <;> first | exact absurd (by decide) hp | (simp only [Piece.same]; repeat' first | rfl | trivial | apply And.intro | intro _))
  unfold State.handAndPace
  split
  · exact (handDue_changes _ _).mono
  · dsimp only
    refine Changes.ite (Changes.ite ?_ ?_) ?_
    · exact ((h1 _).trans ((pace_changes _ _ _).mono)).trans ((handDue_changes _ _).mono)
    · exact ((h1 _).trans ((handDue_changes _ _).mono)).trans ((pace_changes _ _ _).mono)
    · exact ((handDue_changes _ _).mono).trans ((pace_changes _ _ _).mono)

theorem refreshLayers_changes (s : State) (o : Output) : Changes [.outRun, .layers, .notices] s (s.refreshLayers o) :=
  (((putOut_run s o { s.out o with shownCard := s.cardOf o } ⟨⟨rfl, rfl, rfl, rfl⟩, rfl, rfl, rfl, rfl⟩).mono).trans
    ((flipWhere_changes _ _).mono)).trans ((settleFlips_changes _).mono)

theorem refreshCamera_changes (s : State) (o : Output) : Changes [.capture] s (s.refreshCamera o) :=
  Changes.ite (takeCapture_changes s o) (.refl _ _)

theorem beginFrame_changes (s : State) (o : Output) : Changes [.outRun, .guide] s (s.beginFrame o) := by
  have h1 := (putOut_run s o { s.out o with
      frame := some ⟨(s.out o).activeTiming, s.baseOf o, s.layersOf o⟩, lastFit := (s.baseOf o).fit }
    ⟨⟨rfl, rfl, rfl, rfl⟩, rfl, rfl, rfl, rfl⟩).mono (qs := [.outRun, .guide])
  unfold State.beginFrame
  dsimp only
  generalize s.putOut o _ = t at h1 ⊢
  split
  · refine h1.trans ?_
    (intro p hp
     cases p <;> first | exact absurd (by decide) hp | (simp only [Piece.same]; repeat' first | rfl | trivial | apply And.intro | intro _))
  · exact h1

theorem refresh_changes (s : State) (o : Output) : Changes refreshPieces s (s.refresh o) := by
  unfold State.refresh
  refine Changes.ite (.refl _ _) ?_
  dsimp only
  have h0 := ((endFrame_changes s o).mono (qs := refreshPieces)).trans ((handAndPace_changes _ o).mono)
  have h1 := h0.trans ((releaseCapture_changes _ o).mono)
  have h2 := (h1.trans ((releaseGuide_changes _ o).mono)).trans ((refreshLayers_changes _ o).mono)
  clear h0 h1
  generalize State.refreshLayers _ _ = u at h2 ⊢
  refine (Changes.trans ?_ ((refreshCamera_changes _ o).mono)).trans ((beginFrame_changes _ o).mono)
  exact Changes.ite (h2.trans ((flipGuide_changes _).mono)) h2

/-! ## View ownership -/

theorem recomputeDemand_changes (s : State) :
    Changes [.demand, .camera, .capture, .guide, .consequences, .notices] s s.recomputeDemand := by
  have h1 : ∀ x, Changes [.demand, .camera, .capture, .guide, .consequences, .notices] s { s with comp := { s.comp with demand := x } } := by
    intro x
    (intro p hp
     cases p <;> first | exact absurd (by decide) hp | (simp only [Piece.same]; repeat' first | rfl | trivial | apply And.intro | intro _))
  unfold State.recomputeDemand
  dsimp only
  exact Changes.ite (.refl _ _) (((h1 _).trans ((followCamera_changes _).mono)).trans ((handGuide_changes _ _ ⟨rfl, rfl, rfl⟩).mono))

theorem ownerChanged_changes (s : State) (o : Output) (r : OwnerReason) : Changes ownerPieces s (s.ownerChanged o r) :=
  (((report_changes _ _).mono).trans ((settleFlips_changes _).mono)).trans ((recomputeDemand_changes _).mono)

/-- An owner change of a record with the same settings. -/
theorem setOwner_changes (s : State) (o : Output) (r : OutputRec) (why : OwnerReason)
    (h : r.hostTiming = (s.out o).hostTiming ∧ r.background = (s.out o).background ∧ r.source = (s.out o).source ∧
      r.mirror = (s.out o).mirror) : Changes ([.owners, .outRun] ++ ownerPieces) s (s.setOwner o r why) :=
  ((putOut_owner s o r h).mono).trans ((ownerChanged_changes _ _ _).mono)

theorem turnOff_changes (s : State) (o : Output) (why : OwnerReason) : Changes viewPieces s (s.turnOff o why) := by
  unfold State.turnOff
  dsimp only
  have h1 := ((handDue_changes s (.scan o)).mono (qs := viewPieces)).trans
    ((putOut_owner (s.handDue (.scan o)) o { (s.handDue (.scan o)).out o with
      owner := .off, enabled := false, wasOff := false, linger := none, frame := none } ⟨rfl, rfl, rfl, rfl⟩).mono)
  have h2 := Changes.ite (c := o = .centre) (h1.trans ((flipByAnyView_changes _).mono)) h1
  exact (((h2.trans ((releaseScan_changes _ o).mono)).trans ((releaseCapture_changes _ o).mono)).trans
    ((releaseGuide_changes _ o).mono)).trans ((ownerChanged_changes _ _ _).mono)

theorem toNormal_changes (s : State) (o : Output) (why : OwnerReason) :
    Changes ([.owners, .outRun] ++ ownerPieces) s (s.toNormal o why) := setOwner_changes s o _ why ⟨rfl, rfl, rfl, rfl⟩

theorem afterView_changes (s : State) (o : Output) (why : OwnerReason) : Changes viewPieces s (s.afterView o why) :=
  Changes.ite (turnOff_changes _ _ _) ((toNormal_changes _ _ _).mono)

theorem speedTestOf_changes (s : State) (o : Output) : Changes viewPieces s (s.speedTestOf o) := by
  unfold State.speedTestOf
  dsimp only
  refine Changes.ite ?_ (.refl _ _)
  split
  · exact afterView_changes _ _ _
  · exact Changes.ite ((toNormal_changes _ _ _).mono) (.refl _ _)
  · exact .refl _ _
  · exact .refl _ _

theorem speedTest_changes (s : State) : Changes viewPieces s s.speedTest := Changes.foldl speedTestOf_changes _ s

theorem suppressionTest_changes (s : State) : Changes [.suppression] s s.suppressionTest := by
  (intro p hp
   cases p <;> first | exact absurd (by decide) hp | (simp only [Piece.same]; repeat' first | rfl | trivial | apply And.intro | intro _))

theorem forceOn_changes (s : State) (o : Output) : Changes (.free :: viewPieces) s (s.forceOn o) :=
  ((setOwner_changes s o { s.out o with
      owner := .camera, reason := .reverse, enabled := true, wasOff := true, activeTiming := (s.out o).hostTiming } .reverse
    ⟨rfl, rfl, rfl, rfl⟩).mono).trans ((refresh_changes _ o).mono)

theorem riseOf_changes (s : State) (o : Output) : Changes (.free :: viewPieces) s (s.riseOf o) := by
  unfold State.riseOf
  dsimp only
  split
  · exact Changes.ite (forceOn_changes s o) (.refl _ _)
  · exact Changes.ite ((setOwner_changes s o { s.out o with owner := .camera, reason := .reverse } .reverse
      ⟨rfl, rfl, rfl, rfl⟩).mono) (.refl _ _)
  · exact (setOwner_changes s o { s.out o with owner := .camera, reason := .reverse, linger := none } .reverse
      ⟨rfl, rfl, rfl, rfl⟩).mono
  · exact Changes.ite (((putOut_owner s o { s.out o with reason := .reverse } ⟨rfl, rfl, rfl, rfl⟩).mono).trans
      ((report_changes _ _).mono)) (.refl _ _)

theorem viewRise_changes (s : State) : Changes (.free :: viewPieces) s s.viewRise := Changes.foldl riseOf_changes _ s

theorem fallOf_changes (s : State) (o : Output) : Changes viewPieces s (s.fallOf o) := by
  unfold State.fallOf
  dsimp only
  refine Changes.ite (Changes.ite (afterView_changes _ _ _) ?_) (.refl _ _)
  exact ((setOwner_changes s o { s.out o with owner := .linger, linger := some 0 } .reverseEnd
    ⟨rfl, rfl, rfl, rfl⟩).mono).trans (speedTestOf_changes _ _)

theorem viewFall_changes (s : State) : Changes viewPieces s s.viewFall := Changes.foldl fallOf_changes _ s

theorem lingerDue_changes (s : State) (o : Output) : Changes viewPieces s (s.lingerDue o) := by
  exact Changes.ite (afterView_changes _ _ _) (.refl _ _)

theorem handRevEff_changes (s : State) (rev : Bool) : Changes (.free :: viewPieces) s (s.handRevEff rev) := by
  have h1 : Changes (.free :: viewPieces) s
      (if s.isStarting then s else if rev then s.viewRise else s.viewFall) :=
    Changes.ite (.refl _ _) (Changes.ite (viewRise_changes s) ((viewFall_changes s).mono))
  unfold State.handRevEff
  dsimp only
  generalize (if s.isStarting then s else if rev then s.viewRise else s.viewFall) = t at h1 ⊢
  exact (h1.trans (Changes.ite (.refl _ t) (Changes.ite ((chimeRise_changes t).mono) ((chimeFall_changes t).mono)))).trans
    ((handMixerRev_changes _ _).mono)

/-! ## The Signal Receiver -/

theorem latchTest_changes (s : State) : Changes [.lostLatch] s s.latchTest := by
  refine Changes.ite ?_ (.refl _ _)
  (intro p hp
   cases p <;> first | exact absurd (by decide) hp | (simp only [Piece.same]; repeat' first | rfl | trivial | apply And.intro | intro _))

theorem evalRev_changes (s : State) (c : RevContribution) : Changes reversePieces s (s.evalRev c) := by
  have h1 : ∀ b, Changes reversePieces s { s with recv := { s.recv with revEff := b } } := by
    intro b
    (intro p hp
     cases p <;> first | exact absurd (by decide) hp | (simp only [Piece.same]; repeat' first | rfl | trivial | apply And.intro | intro _))
  exact Changes.ite (.refl _ _) (((h1 _).trans ((report_changes _ _).mono)).trans ((handRevEff_changes _ _).mono))

theorem reportSignals_changes (s : State) (m : BitVec 7) : Changes [.notices] s (s.reportSignals m) :=
  Changes.ite (.refl _ _) (report_changes _ _)

theorem handSpeed_changes (s : State) : Changes (.suppression :: viewPieces) s s.handSpeed :=
  ((suppressionTest_changes s).mono).trans ((speedTest_changes _).mono)

theorem handUpdates_changes (s : State) (u : List SignalId) (m : BitVec 7) :
    Changes (.suppression :: viewPieces) s (s.handUpdates u m) := by
  unfold State.handUpdates
  have h1 : Changes (.suppression :: viewPieces) s
      (if u.contains .steerAngle then s.steerUpdated (decide (m &&& signalBit .steerAngle ≠ 0)) else s) :=
    Changes.ite ((steerUpdated_changes s _).mono) (.refl _ _)
  dsimp only
  generalize (if u.contains .steerAngle then s.steerUpdated (decide (m &&& signalBit .steerAngle ≠ 0)) else s) = a at h1 ⊢
  have h2 := h1.trans (Changes.ite (c := u.contains .speed = true) (handSpeed_changes a) (.refl _ a))
  generalize (if u.contains .speed then a.handSpeed else a) = b at h2 ⊢
  exact h2.trans (Changes.ite ((parkEvent_changes b).mono) (.refl _ b))

theorem handStateChange_changes (s : State) (i : SignalId) :
    Changes (.suppression :: viewPieces) s (s.handStateChange i) := by
  cases i
  case steerAngle =>
    simp only [State.handStateChange]
    split
    · exact (steerLost_changes s).mono
    · exact (steerLost_changes s).mono
    · exact .refl _ _
    · exact .refl _ _
  case speed => exact handSpeed_changes s
  case reverse => exact .refl _ _
  all_goals exact (parkEvent_changes s).mono

theorem applyRules_changes (s : State) (x : Bool) (n : Nat) (d : List Byte) :
    Changes [.rules, .signals] s (s.applyRules x n d).state := by
  have offer : ∀ (a : Applied) (m : Fin 16), Changes [.rules, .signals] a.state (a.offer x n d m).state := by
    intro a m
    unfold Applied.offer
    dsimp only
    split
    · split
      · exact (putRule_changes _ _ _).mono
      · exact ((putRule_changes _ _ _).mono).trans ((putSignal_changes _ _ _).mono)
    · exact .refl _ _
  have all : ∀ (ms : List (Fin 16)) (a : Applied),
      Changes [.rules, .signals] a.state (ms.foldl (Applied.offer x n d) a).state := by
    intro ms
    induction ms with
    | nil => exact fun a => .refl _ _
    | cons m ms ih => exact fun a => (offer a m).trans (ih _)
  unfold State.applyRules
  generalize List.finRange 16 = ms
  exact all ms _

theorem receive_changes (s : State) (x : Reception) :
    Changes ([.rules, .busCounts, .lostLatch] ++ signalPieces) s (s.receive x) := by
  unfold State.receive
  split
  · (intro p hp
     cases p <;> first | exact absurd (by decide) hp | (simp only [Piece.same]; repeat' first | rfl | trivial | apply And.intro | intro _))
  · (intro p hp
     cases p <;> first | exact absurd (by decide) hp | (simp only [Piece.same]; repeat' first | rfl | trivial | apply And.intro | intro _))
  · rename_i extended identifier _ bytes
    dsimp only
    have h0 : Changes ([.rules, .busCounts, .lostLatch] ++ signalPieces) s
        { s with recv := { s.recv with goodFrames := satInc s.recv.goodFrames } } := by
      (intro p hp
       cases p <;> first | exact absurd (by decide) hp | (simp only [Piece.same]; repeat' first | rfl | trivial | apply And.intro | intro _))
    have h1 := h0.trans ((applyRules_changes { s with recv := { s.recv with goodFrames := satInc s.recv.goodFrames } }
      extended identifier bytes).mono)
    exact Changes.ite ((((h1.trans ((reportSignals_changes _ _).mono)).trans ((latchTest_changes _).mono)).trans
      ((evalRev_changes _ _).mono)).trans ((handUpdates_changes _ _ _).mono)) h0

theorem signalHeld_changes (s : State) (i : SignalId) : Changes signalPieces s (s.signalHeld i) := by
  refine Changes.ite ?_ (.refl _ _)
  exact ((((putSignal_changes s i _).mono).trans ((reportSignals_changes _ _).mono)).trans ((evalRev_changes _ _).mono)).trans
    ((handStateChange_changes _ _).mono)

theorem setLatch_changes (s : State) (b : Bool) : Changes [.lostLatch] s { s with recv := { s.recv with lostLatch := b } } := by
  (intro p hp
   cases p <;> first | exact absurd (by decide) hp | (simp only [Piece.same]; repeat' first | rfl | trivial | apply And.intro | intro _))

theorem signalLost_changes (s : State) (i : SignalId) : Changes (.lostLatch :: signalPieces) s (s.signalLost i) := by
  refine Changes.ite ?_ (.refl _ _)
  refine Changes.trans (Changes.trans (Changes.trans (Changes.trans
    (Changes.trans ((putSignal_changes s i _).mono) (Changes.ite ((setLatch_changes _ _).mono) (.refl _ _)))
    ((reportSignals_changes _ _).mono)) ((latchTest_changes _).mono)) ((evalRev_changes _ _).mono))
    ((handStateChange_changes _ _).mono)

theorem clearSignals_changes (s : State) (is : List SignalId) : Changes signalPieces s (s.clearSignals is) := by
  have h1 : Changes signalPieces s (is.foldl (fun u i => u.putSignal i ((u.signal i).toNone i)) s) :=
    Changes.foldl (fun t i => (putSignal_changes t i _).mono) is s
  unfold State.clearSignals
  dsimp only
  generalize (is.foldl (fun u i => u.putSignal i ((u.signal i).toNone i)) s) = t at h1 ⊢
  exact ((h1.trans ((reportSignals_changes _ _).mono)).trans ((evalRev_changes _ _).mono)).trans
    (Changes.foldl (fun t i => (handStateChange_changes t i).mono) _ _)

theorem storeRule_changes (s : State) (n : Fin 16) (r : Rule) : Changes (.rules :: signalPieces) s (s.storeRule n r) := by
  have h1 : ∀ t : State, Changes (.rules :: signalPieces) t (t.takeTimeout r) := fun t =>
    Changes.ite ((putSignal_changes t r.target _).mono) (.refl _ _)
  exact (((putRule_changes s n r).mono).trans (h1 _)).trans ((clearSignals_changes _ _).mono)

theorem emptyRule_changes (s : State) (n : Fin 16) : Changes (.rules :: signalPieces) s (s.emptyRule n) :=
  ((putRule_changes s n .cleared).mono).trans ((clearSignals_changes _ _).mono)

theorem lineChange_changes (s : State) (b : Bool) : Changes [.reverse] s (s.lineChange b) := by
  (intro p hp
   cases p <;> first | exact absurd (by decide) hp | (simp only [Piece.same]; repeat' first | rfl | trivial | apply And.intro | intro _))

theorem debounced_changes (s : State) : Changes (.reverse :: reversePieces) s s.debounced := by
  have h1 : Changes (.reverse :: reversePieces) s s.lineSettles := by
    (intro p hp
     cases p <;> first | exact absurd (by decide) hp | (simp only [Piece.same]; repeat' first | rfl | trivial | apply And.intro | intro _))
  exact Changes.ite (h1.trans ((evalRev_changes _ _).mono)) (.refl _ _)

theorem takeReverseSource_changes (s : State) (x : ReverseSource) (n : Nat) :
    Changes (.reverse :: reversePieces) s (s.takeReverseSource x n) := by
  have h1 : Changes (.reverse :: reversePieces) s { s with recv := { s.recv with source := x, debounceTime := n } } := by
    (intro p hp
     cases p <;> first | exact absurd (by decide) hp | (simp only [Piece.same]; repeat' first | rfl | trivial | apply And.intro | intro _))
  have h2 : ∀ t : State, Changes (.reverse :: reversePieces) t t.debounceProceeds := by
    intro t
    unfold State.debounceProceeds
    refine Changes.ite ?_ (.refl _ _)
    (intro p hp
     cases p <;> first | exact absurd (by decide) hp | (simp only [Piece.same]; repeat' first | rfl | trivial | apply And.intro | intro _))
  exact (h1.trans (h2 _)).trans ((evalRev_changes _ _).mono)

/-! ## Start-up, and the frames of the Control Link -/

/-- A state with the same commands waiting differs at most in the pieces of a start-up. -/
theorem startPieces_changes {s t : State} (h : t.pending = s.pending) : Changes startPieces s t := by
  intro p hp
  cases p <;> first | exact absurd (by decide) hp | exact h

/-- A start-up keeps the commands that wait. -/
theorem startUp_queue (s : State) (c : ResetCause) : (s.startUp c).pending = s.pending := by
  unfold State.startUp State.initMemory State.beginStartUp State.abandonStore
  dsimp only
  split <;> rfl

theorem startUp_changes (s : State) (c : ResetCause) : Changes startPieces s (s.startUp c) :=
  startPieces_changes (startUp_queue s c)

theorem loadRule_changes (b : List Byte) (s : State) (n : Fin 16) : Changes [.rules, .signals] s (s.loadRule b n) := by
  have timeout : ∀ (u : State) (r : Rule), Changes [.rules, .signals] u (u.takeTimeout r) :=
    fun u r => by
      unfold State.takeTimeout
      exact Changes.ite ((putSignal_changes u _ _).mono) (.refl _ _)
  unfold State.loadRule
  dsimp only
  split
  · exact Changes.ite ((putRule_changes _ _ _).mono) (((putRule_changes _ _ _).mono).trans (timeout _ _))
  · exact (putRule_changes _ _ _).mono

theorem loadReceiver_changes (s : State) : Changes loadPieces s s.loadReceiver := by
  have rate : ∀ n, Changes loadPieces s { s with recv := { s.recv with bitRate := n } } := by
    intro n
    (intro p hp
     cases p <;> first | exact absurd (by decide) hp | (simp only [Piece.same]; repeat' first | rfl | trivial))
  unfold State.loadReceiver
  split
  · exact (evalRev_changes _ _).mono
  · exact ((rate _).trans (Changes.foldl (fun t n => (loadRule_changes _ t n).mono) _ _)).trans ((takeReverseSource_changes _ _ _).mono)

theorem loadOutputs_changes (s : State) : Changes loadPieces s s.loadOutputs := by
  have comp : ∀ x, Changes loadPieces s { s with comp := x } := by
    intro x
    (intro p hp
     cases p <;> first | exact absurd (by decide) hp | (simp only [Piece.same]; repeat' first | rfl | trivial))
  unfold State.loadOutputs
  exact (((comp _).trans ((recomputeDemand_changes _).mono)).trans ((latchTest_changes _).mono)).trans ((evalRev_changes _ _).mono)

theorem loadCamera_changes (s : State) : Changes loadPieces s s.loadCamera := by
  have both : ∀ c g, Changes loadPieces s { s with cam := c, guide := g } := by
    intro c g
    (intro p hp
     cases p <;> first | exact absurd (by decide) hp | (simp only [Piece.same]; repeat' first | rfl | trivial))
  unfold State.loadCamera
  split
  · exact (both _ _).trans ((followCamera_changes _).mono)
  · exact (both _ _).trans ((followCamera_changes _).mono)

/-- What a later step of a start-up may change (R182, R183). -/
theorem doStep_changes (s : State) (x : StartUpStep) : Changes loadPieces s (s.doStep x) := by
  cases x
  · show Changes loadPieces s s.examineSectors
    (intro p hp
     cases p <;> first | exact absurd (by decide) hp | (simp only [Piece.same]; repeat' first | rfl | trivial))
  · exact loadReceiver_changes s
  · exact loadOutputs_changes s
  · exact loadCamera_changes s
  · show Changes loadPieces s s.loadMixer
    unfold State.loadMixer
    split <;> (intro p hp
               cases p <;> first | exact absurd (by decide) hp | (simp only [Piece.same]; repeat' first | rfl | trivial))

theorem dropSteps_changes (s : State) (xs : List StartUpStep) : Changes [.steps] s { s with steps := xs } := by
  intro p hp
  cases p <;> first | exact absurd (by decide) hp | (simp only [Piece.same]; repeat' first | rfl | trivial | apply And.intro | intro _)

theorem finishStartUp_changes (s : State) : Changes (.steps :: loadPieces) s s.finishStartUp :=
  ((dropSteps_changes s []).mono).trans (Changes.foldl (fun t x => (doStep_changes t x).mono) _ _)

/-- Nothing is left of a start-up once all its steps have ended. -/
@[simp] theorem finishStartUp_steps (s : State) : s.finishStartUp.steps = [] := by
  have h : ∀ (xs : List StartUpStep) (t : State), (xs.foldl State.doStep t).steps = t.steps := by
    intro xs
    induction xs with
    | nil => exact fun t => rfl
    | cons x xs ih => exact fun t => (ih _).trans ((doStep_changes t x).at .steps)
  exact h _ _

/-- A start-up with no step left is finished. -/
@[simp] theorem finishStartUp_nil (s : State) (h : s.steps = []) : s.finishStartUp = s := by
  cases s
  cases h
  rfl

theorem enterRunning_changes (s : State) : Changes ([.part, .steps, .paceTimer] ++ loadPieces) s s.enterRunning := by
  unfold State.enterRunning
  dsimp only
  refine Changes.ite (.refl _ _) ?_
  have h0 := (finishStartUp_changes s).mono (qs := [.part, .steps, .paceTimer] ++ loadPieces)
  generalize s.finishStartUp = u at h0 ⊢
  have h1 : Changes ([.part, .steps, .paceTimer] ++ loadPieces) u { u with
      part := { u.part with phase := .running }
      pacer := { u.pacer with paceTimer := true }
      link := { u.link with notices := ⟨u.partStarted, 0⟩ :: u.link.notices } } := by
    (intro p hp
     cases p <;> first | exact absurd (by decide) hp | (simp only [Piece.same]; repeat' first | rfl | trivial))
  exact h0.trans (Changes.ite ((h1.trans ((viewRise_changes _).mono)).trans ((chimeRise_changes _).mono)) h1)

theorem collect_changes (s : State) : Changes [.requests] s s.collect := by
  (intro p hp
   cases p <;> first | exact absurd (by decide) hp | (simp only [Piece.same]; repeat' first | rfl | trivial | apply And.intro | intro _))

theorem takeGood_changes (s : State) (tag code : Byte) (body : List Byte) : Changes startPieces s (s.takeGood tag code body) :=
  Changes.ite (Changes.ite ((enlist_changes _ _ _ _).mono) (Changes.ite ((enlist_changes _ _ _ _).mono) (startUp_changes _ _)))
    ((enlist_changes _ _ _ _).mono)

theorem takeFrame_changes (s : State) (f : List Byte) : Changes startPieces s (s.takeFrame f) := by
  unfold State.takeFrame
  split
  · exact .refl _ _
  · exact (enlist_changes _ _ _ _).mono
  · exact takeGood_changes _ _ _ _

end Sys2Proof.Machine
end

