-- ==== Sys2Proof/Laws/Memory.lean ====
section
/-! SUPPORT. Every operation over frame memory keeps its canonical form. -/

namespace Sys2Proof.Machine

-- One theorem after another: the many tasks of asynchronous elaboration exhaust the thread limit of the check.
set_option Elab.async false

open Sys2Proof

/-- What a write lists: addresses of the bytes written, inside frame memory, whose value differs from the unlisted byte. -/
theorem listing_mem (m : FrameMemory) : ∀ (bytes : List Byte) (a : Nat) (c : Host.Cell), c ∈ m.listing a bytes →
    a ≤ c.1 ∧ c.1 < a + bytes.length ∧ c.1 < Config.memoryBytes ∧ c.2 ≠ m.unlisted c.1
  | [], a, c, h => by simp [FrameMemory.listing] at h
  | b :: bs, a, c, h => by
    have later : c ∈ m.listing (a + 1) bs →
        a ≤ c.1 ∧ c.1 < a + (b :: bs).length ∧ c.1 < Config.memoryBytes ∧ c.2 ≠ m.unlisted c.1 := by
      intro h
      have := listing_mem m bs (a + 1) c h
      simp only [List.length_cons]
      exact ⟨by omega, by omega, this.2.2.1, this.2.2.2⟩
    unfold FrameMemory.listing at h
    split at h
    · rename_i k
      rcases List.mem_cons.1 h with h | h
      · subst h
        exact ⟨Nat.le_refl _, by simp, k.1, k.2⟩
      · exact later h
    · exact later h

/-- What a write lists rises strictly. -/
theorem listing_rises (m : FrameMemory) : ∀ (bytes : List Byte) (a : Nat),
    (m.listing a bytes).Pairwise fun c d => c.1 < d.1
  | [], _ => .nil
  | b :: bs, a => by
    unfold FrameMemory.listing
    split
    · refine .cons (fun d hd => ?_) (listing_rises m bs (a + 1))
      have := (listing_mem m bs (a + 1) d hd).1
      show a < d.1
      omega
    · exact listing_rises m bs (a + 1)

/-- A splice changes the listed bytes alone. -/
@[simp] theorem splice_unlisted (m : FrameMemory) (a : Nat) (bytes : List Byte) :
    (m.splice a bytes).unlisted = m.unlisted := rfl

@[simp] theorem splice_patterned (m : FrameMemory) (a : Nat) (bytes : List Byte) :
    (m.splice a bytes).patterned = m.patterned := rfl

@[simp] theorem splice_bad (m : FrameMemory) (a : Nat) (bytes : List Byte) : (m.splice a bytes).bad = m.bad := rfl

theorem splice_wf {m : FrameMemory} (h : m.wf) (a : Nat) (bytes : List Byte) : (m.splice a bytes).wf := by
  refine ⟨?_, ?_, h.2.2⟩
  · refine List.pairwise_append.2 ⟨List.pairwise_append.2 ⟨h.1.filter _, listing_rises m bytes a, ?_⟩, h.1.filter _, ?_⟩
    · intro c hc d hd
      have h1 : c.1 < a := by simpa using (List.mem_filter.1 hc).2
      have h2 := (listing_mem m bytes a d hd).1
      omega
    · intro c hc d hd
      have h2 : a + bytes.length ≤ d.1 := by simpa using (List.mem_filter.1 hd).2
      rcases List.mem_append.1 hc with hc | hc
      · have h1 : c.1 < a := by simpa using (List.mem_filter.1 hc).2
        omega
      · have h1 := (listing_mem m bytes a c hc).2.1
        omega
  · intro c hc
    rcases List.mem_append.1 hc with hc | hc
    · rcases List.mem_append.1 hc with hc | hc
      · exact h.2.1 c (List.mem_filter.1 hc).1
      · exact (listing_mem m bytes a c hc).2.2
    · exact h.2.1 c (List.mem_filter.1 hc).1

theorem zeroWords_wf : ∀ (ws : List Nat) {m : FrameMemory}, m.wf → (m.zeroWords ws).wf
  | [], _, h => h
  | _ :: ws, _, h => zeroWords_wf ws (splice_wf h _ _)

theorem write_wf {m : FrameMemory} (h : m.wf) (a : Nat) (bytes : List Byte) : (m.write a bytes).wf := by
  have h1 := splice_wf (zeroWords_wf (m.bad.filter (touches a bytes.length)) h) a bytes
  exact ⟨h1.1, h1.2.1, h1.2.2.1, h.2.2.2.filter _⟩

/-- What an unlisted address outside a zeroed run reads as stays. -/
theorem zeroPages_unlisted (m : FrameMemory) (base count a : Nat) (h : pageIn base count (a / Config.pageBytes) = false) :
    (m.zeroPages base count).unlisted a = m.unlisted a := by
  have : (m.patterned.filter (fun p => !pageIn base count p)).contains (a / Config.pageBytes) =
      m.patterned.contains (a / Config.pageBytes) := by
    rw [Bool.eq_iff_iff]
    simp [h]
  unfold FrameMemory.unlisted FrameMemory.zeroPages
  simp only [this]

theorem zeroPages_wf {m : FrameMemory} (h : m.wf) (base count : Nat) : (m.zeroPages base count).wf := by
  refine ⟨h.1.filter _, fun c hc => ?_, h.2.2.1.filter _, h.2.2.2.filter _⟩
  have hc := List.mem_filter.1 hc
  rw [zeroPages_unlisted m base count c.1 (by simpa using hc.2)]
  exact h.2.1 c hc.1

/-- A number is added to a list once. -/
theorem insertNew_mem (n : Nat) : ∀ (ks : List Nat) (x : Nat), x ∈ insertNew n ks ↔ x = n ∨ x ∈ ks
  | [], x => by simp [insertNew]
  | k :: ks, x => by
    unfold insertNew
    split
    · simp
    · split
      · rename_i e
        simp [e]
      · have := insertNew_mem n ks x
        simp only [List.mem_cons, this]
        tauto

theorem insertNew_rises (n : Nat) : ∀ {ks : List Nat}, ks.Pairwise (· < ·) → (insertNew n ks).Pairwise (· < ·)
  | [], _ => by simp [insertNew]
  | k :: ks, h => by
    have hk := List.pairwise_cons.1 h
    unfold insertNew
    split
    · rename_i lt
      refine .cons (fun x hx => ?_) h
      rcases List.mem_cons.1 hx with hx | hx
      · omega
      · have := hk.1 x hx
        omega
    · split
      · exact h
      · refine .cons (fun x hx => ?_) (insertNew_rises n hk.2)
        rcases (insertNew_mem n ks x).1 hx with hx | hx
        · omega
        · exact hk.1 x hx

theorem insertAll_mem (ns : List Nat) (ks : List Nat) (x : Nat) : x ∈ ns.foldr insertNew ks ↔ x ∈ ns ∨ x ∈ ks := by
  induction ns with
  | nil => simp
  | cons n ns ih =>
    simp only [List.foldr_cons, insertNew_mem, ih, List.mem_cons]
    tauto

theorem insertAll_rises (ns : List Nat) {ks : List Nat} (h : ks.Pairwise (· < ·)) :
    (ns.foldr insertNew ks).Pairwise (· < ·) := by
  induction ns with
  | nil => exact h
  | cons n ns ih => exact insertNew_rises n ih

/-- What an unlisted address outside the pages given the pattern reads as stays. -/
theorem patternPages_unlisted (m : FrameMemory) (pages late : List Nat) (a : Nat)
    (h : pages.contains (a / Config.pageBytes) = false) : (m.patternPages pages late).unlisted a = m.unlisted a := by
  have out : a / Config.pageBytes ∉ pages := by simpa using h
  have : (pages.foldr insertNew m.patterned).contains (a / Config.pageBytes) = m.patterned.contains (a / Config.pageBytes) := by
    rw [Bool.eq_iff_iff]
    simp [insertAll_mem, out]
  unfold FrameMemory.unlisted FrameMemory.patternPages
  simp only [this]

theorem patternPages_wf {m : FrameMemory} (h : m.wf) (pages late : List Nat) : (m.patternPages pages late).wf := by
  refine ⟨h.1.filter _, fun c hc => ?_, insertAll_rises pages h.2.2.1, h.2.2.2.filter _⟩
  have hc := List.mem_filter.1 hc
  rw [patternPages_unlisted m pages late c.1 (by simpa using hc.2)]
  exact h.2.1 c hc.1

theorem markBad_wf {m : FrameMemory} (h : m.wf) (word : Nat) : (m.markBad word).wf :=
  ⟨h.1, h.2.1, h.2.2.1, insertNew_rises word h.2.2.2⟩

/-- Frame memory with nothing listed is canonical. -/
theorem empty_wf : FrameMemory.wf ⟨[], [], []⟩ := by decide

end Sys2Proof.Machine
end

