-- ==== Sys2Proof/Laws/Requests.lean ====
section
/-! SUPPORT. How a statement about a request is proved from what its block does, and what an answer leaves as it was. -/

namespace Sys2Proof.Machine

-- One theorem after another: the many tasks of asynchronous elaboration exhaust the thread limit of the check.
set_option Elab.async false

open Sys2Proof

/-! ### What an answer leaves as it was -/

@[simp] theorem answer_part (s : State) (c : Byte) (r : Result) (b : ReplyBody) : (s.answer c r b).part = s.part := rfl
@[simp] theorem answer_steps (s : State) (c : Byte) (r : Result) (b : ReplyBody) : (s.answer c r b).steps = s.steps := rfl
@[simp] theorem answer_notices (s : State) (c : Byte) (r : Result) (b : ReplyBody) :
    (s.answer c r b).link.notices = s.link.notices := rfl
@[simp] theorem answer_recv (s : State) (c : Byte) (r : Result) (b : ReplyBody) : (s.answer c r b).recv = s.recv := rfl
@[simp] theorem answer_fmm (s : State) (c : Byte) (r : Result) (b : ReplyBody) : (s.answer c r b).fmm = s.fmm := rfl
@[simp] theorem answer_mem (s : State) (c : Byte) (r : Result) (b : ReplyBody) : (s.answer c r b).mem = s.mem := rfl
@[simp] theorem answer_pacer (s : State) (c : Byte) (r : Result) (b : ReplyBody) : (s.answer c r b).pacer = s.pacer := rfl
@[simp] theorem answer_layers (s : State) (c : Byte) (r : Result) (b : ReplyBody) : (s.answer c r b).layers = s.layers := rfl
@[simp] theorem answer_comp (s : State) (c : Byte) (r : Result) (b : ReplyBody) : (s.answer c r b).comp = s.comp := rfl
@[simp] theorem answer_cam (s : State) (c : Byte) (r : Result) (b : ReplyBody) : (s.answer c r b).cam = s.cam := rfl
@[simp] theorem answer_guide (s : State) (c : Byte) (r : Result) (b : ReplyBody) : (s.answer c r b).guide = s.guide := rfl
@[simp] theorem answer_chime (s : State) (c : Byte) (r : Result) (b : ReplyBody) : (s.answer c r b).chime = s.chime := rfl
@[simp] theorem answer_mixer (s : State) (c : Byte) (r : Result) (b : ReplyBody) : (s.answer c r b).mixer = s.mixer := rfl
@[simp] theorem answer_store (s : State) (c : Byte) (r : Result) (b : ReplyBody) : (s.answer c r b).store = s.store := rfl
@[simp] theorem answer_selfTest (s : State) (c : Byte) (r : Result) (b : ReplyBody) : (s.answer c r b).selfTest = s.selfTest := rfl
@[simp] theorem answer_out (s : State) (c : Byte) (r : Result) (b : ReplyBody) (o : Output) : (s.answer c r b).out o = s.out o := rfl
@[simp] theorem answer_stream (s : State) (c : Byte) (r : Result) (b : ReplyBody) (i : StreamId) :
    (s.answer c r b).stream i = s.stream i := rfl
@[simp] theorem answer_vin (s : State) (c : Byte) (r : Result) (b : ReplyBody) (i : StreamId) :
    (s.answer c r b).vin i = s.vin i := rfl
@[simp] theorem answer_layer (s : State) (c : Byte) (r : Result) (b : ReplyBody) (n : Fin 24) :
    (s.answer c r b).layer n = s.layer n := rfl
@[simp] theorem answer_signal (s : State) (c : Byte) (r : Result) (b : ReplyBody) (i : SignalId) :
    (s.answer c r b).signal i = s.signal i := rfl
@[simp] theorem answer_rule (s : State) (c : Byte) (r : Result) (b : ReplyBody) (n : Fin 16) :
    (s.answer c r b).rule n = s.rule n := rfl
@[simp] theorem answer_entry (s : State) (c : Byte) (r : Result) (b : ReplyBody) (i : Fin 8) :
    (s.answer c r b).entry i = s.entry i := rfl
@[simp] theorem answer_sample (s : State) (c : Byte) (r : Result) (b : ReplyBody) (n : Fin 16) :
    (s.answer c r b).sample n = s.sample n := rfl
@[simp] theorem answer_sector (s : State) (c : Byte) (r : Result) (b : ReplyBody) (n : Fin 8) :
    (s.answer c r b).sector n = s.sector n := rfl

/-! ### What the taking of a request leaves as it was -/

/-- The taking of a request changes the link alone, and not the notice queue. -/
theorem taking_eq (s : State) (c : Byte) : ∃ l : Link, s.taking c = { s with link := l } ∧ l.notices = s.link.notices := by
  unfold State.taking State.frameEnds State.enlist
  dsimp only
  repeat' split
  all_goals exact ⟨_, rfl, rfl⟩

@[simp] theorem taking_part (s : State) (c : Byte) : (s.taking c).part = s.part := by
  obtain ⟨l, h, n⟩ := taking_eq s c
  rw [h]
@[simp] theorem taking_recv (s : State) (c : Byte) : (s.taking c).recv = s.recv := by
  obtain ⟨l, h, n⟩ := taking_eq s c
  rw [h]
@[simp] theorem taking_fmm (s : State) (c : Byte) : (s.taking c).fmm = s.fmm := by
  obtain ⟨l, h, n⟩ := taking_eq s c
  rw [h]
@[simp] theorem taking_mem (s : State) (c : Byte) : (s.taking c).mem = s.mem := by
  obtain ⟨l, h, n⟩ := taking_eq s c
  rw [h]
@[simp] theorem taking_pacer (s : State) (c : Byte) : (s.taking c).pacer = s.pacer := by
  obtain ⟨l, h, n⟩ := taking_eq s c
  rw [h]
@[simp] theorem taking_layers (s : State) (c : Byte) : (s.taking c).layers = s.layers := by
  obtain ⟨l, h, n⟩ := taking_eq s c
  rw [h]
@[simp] theorem taking_comp (s : State) (c : Byte) : (s.taking c).comp = s.comp := by
  obtain ⟨l, h, n⟩ := taking_eq s c
  rw [h]
@[simp] theorem taking_cam (s : State) (c : Byte) : (s.taking c).cam = s.cam := by
  obtain ⟨l, h, n⟩ := taking_eq s c
  rw [h]
@[simp] theorem taking_guide (s : State) (c : Byte) : (s.taking c).guide = s.guide := by
  obtain ⟨l, h, n⟩ := taking_eq s c
  rw [h]
@[simp] theorem taking_chime (s : State) (c : Byte) : (s.taking c).chime = s.chime := by
  obtain ⟨l, h, n⟩ := taking_eq s c
  rw [h]
@[simp] theorem taking_mixer (s : State) (c : Byte) : (s.taking c).mixer = s.mixer := by
  obtain ⟨l, h, n⟩ := taking_eq s c
  rw [h]
@[simp] theorem taking_store (s : State) (c : Byte) : (s.taking c).store = s.store := by
  obtain ⟨l, h, n⟩ := taking_eq s c
  rw [h]
@[simp] theorem taking_selfTest (s : State) (c : Byte) : (s.taking c).selfTest = s.selfTest := by
  obtain ⟨l, h, n⟩ := taking_eq s c
  rw [h]
@[simp] theorem taking_free (s : State) (c : Byte) : (s.taking c).free = s.free := by
  obtain ⟨l, h, n⟩ := taking_eq s c
  rw [h]
@[simp] theorem taking_pending (s : State) (c : Byte) : (s.taking c).pending = s.pending := by
  obtain ⟨l, h, n⟩ := taking_eq s c
  rw [h]
@[simp] theorem taking_notices (s : State) (c : Byte) : (s.taking c).link.notices = s.link.notices := by
  obtain ⟨l, h, n⟩ := taking_eq s c
  simpa [h] using n
@[simp] theorem taking_out (s : State) (c : Byte) (o : Output) : (s.taking c).out o = s.out o := by
  obtain ⟨l, h, n⟩ := taking_eq s c
  rw [h]; rfl
@[simp] theorem taking_stream (s : State) (c : Byte) (i : StreamId) : (s.taking c).stream i = s.stream i := by
  obtain ⟨l, h, n⟩ := taking_eq s c
  rw [h]; rfl
@[simp] theorem taking_vin (s : State) (c : Byte) (i : StreamId) : (s.taking c).vin i = s.vin i := by
  obtain ⟨l, h, n⟩ := taking_eq s c
  rw [h]; rfl
@[simp] theorem taking_layer (s : State) (c : Byte) (n : Fin 24) : (s.taking c).layer n = s.layer n := by
  obtain ⟨l, h, n⟩ := taking_eq s c
  rw [h]; rfl
@[simp] theorem taking_signal (s : State) (c : Byte) (i : SignalId) : (s.taking c).signal i = s.signal i := by
  obtain ⟨l, h, n⟩ := taking_eq s c
  rw [h]; rfl
@[simp] theorem taking_rule (s : State) (c : Byte) (n : Fin 16) : (s.taking c).rule n = s.rule n := by
  obtain ⟨l, h, n⟩ := taking_eq s c
  rw [h]; rfl
@[simp] theorem taking_entry (s : State) (c : Byte) (i : Fin 8) : (s.taking c).entry i = s.entry i := by
  obtain ⟨l, h, n⟩ := taking_eq s c
  rw [h]; rfl
@[simp] theorem taking_sample (s : State) (c : Byte) (n : Fin 16) : (s.taking c).sample n = s.sample n := by
  obtain ⟨l, h, n⟩ := taking_eq s c
  rw [h]; rfl
@[simp] theorem taking_sector (s : State) (c : Byte) (n : Fin 8) : (s.taking c).sector n = s.sector n := by
  obtain ⟨l, h, n⟩ := taking_eq s c
  rw [h]; rfl

/-- When a request comes to its block: its list has a place, nothing is EXECUTING in it, no transaction under way hinders it, no run
is being cleared, and the part is RUNNING; and so the request row is its frame's end too. -/
theorem comes_of_free {c : Instr} {s : State} (hr : Running s) (hc : s.layers.clearing = none)
    (hl : ∀ r ∈ s.link.requests, r.isReplied = true) (hn : s.link.requests.length < 4)
    (ht : ∀ x, s.link.transaction = some x → x.frameEnded = false ∧ x.deaf = false)
    (hk : codeOf c ∈ requestCodes) : Comes c s := by
  have hx : s.link.requests.any Outstanding.isExecuting = false := by
    simp only [List.any_eq_false]
    intro r h e
    have := hl r h
    revert this e
    unfold Outstanding.isReplied Outstanding.isExecuting
    cases r.status <;> simp
  have adv : ∀ xs : List Outstanding, (∀ r ∈ xs, r.isReplied = true) →
      advance s.part.phase (xs ++ [⟨0#8, codeOf c, none, .waiting⟩]) = xs ++ [⟨0#8, codeOf c, none, .executing⟩] := by
    intro xs h
    induction xs with
    | nil => simp [advance, linkAnswer, hk, show s.part.phase = .running from hr]
    | cons r xs ih =>
      have h1 := h r (.head _)
      have h2 := ih fun q hq => h q (.tail _ hq)
      unfold Outstanding.isReplied at h1
      rw [List.cons_append, advance]
      split at h1
      · rename_i e
        rw [e]
        simp [h2]
      · simp at h1
  have hlen : ¬ Config.maxRequests ≤ s.link.requests.length := by unfold Config.maxRequests; omega
  have run : s.isRunning = true := by simp [State.isRunning, show s.part.phase = .running from hr]
  have key : ∀ x, (State.enlist { s with link := { s.link with transaction := x } } 0#8 (codeOf c) none).handsOver (codeOf c) = true := by
    intro x
    unfold State.enlist
    rw [if_neg hlen]
    simp only [State.advanceRequests, State.handsOver, adv _ hl, hc]
    simp [Outstanding.isExecuting, State.isRunning, show s.part.phase = .running from hr]
  unfold Comes State.taking
  rw [if_neg (by simp [hx])]
  unfold State.frameEnds
  split
  · rename_i x e
    have := ht x e
    simp only [this.1, this.2, Bool.or_self, Bool.false_eq_true, if_false]
    exact key _
  · rename_i e
    have := key s.link.transaction
    exact this

/-! ### From a block to its request -/

/-- Answers given over states that agree on part and list of requests agree on the list of requests. -/
theorem answer_requests {s u : State} (c : Byte) (r : Result) (b : ReplyBody) (hp : u.part.phase = s.part.phase)
    (h : Piece.same s u .requests) : Piece.same (s.answer c r b) (u.answer c r b) .requests := by
  obtain ⟨h1, h2, h3, h4, _⟩ := h
  exact ⟨by simp only [State.answer, State.advanceRequests, hp, h1], h2,
    by simp only [State.answer, State.advanceRequests, hp, h1, h3], h4, rfl⟩

/-- A request that comes to its block is answered as the block answers it, and changes what the block changes. -/
theorem answers_of_block {c : Instr} {code : Byte} {block : State → State × Reply} {s u : State} {r : Result} {b : ReplyBody}
    {ps : List Piece} {P : State → Prop} (he : exec c s = .next (request code block s)) (hc : codeOf c = code)
    (hb : block (s.taking code) = (u, .now r b)) (hu : Changes ps (s.taking code) u)
    (hl : Piece.same (s.taking code) u .requests) (hp : u.part.phase = s.part.phase) (hP : P (u.answer code r b)) :
    Answers c s r b ps P := by
  subst hc
  intro hcome
  unfold Comes at hcome
  have hq : request (codeOf c) block s = u.answer (codeOf c) r b := by
    unfold request
    dsimp only
    rw [if_pos hcome, hb]
  refine ⟨_, he, ?_, ?_, ?_⟩
  · rw [hq]
    have h1 : Changes (.requests :: ps) s (s.taking (codeOf c)) := fun p hp =>
      taking_changes s _ p fun h => hp (by simp at h; simp [h])
    exact (h1.trans fun p hp => hu p fun h => hp (.tail _ h)).trans
      (fun p hp => answer_changes u _ r b p fun h => hp (by simp at h; simp [h]))
  · rw [hq]; exact answer_requests _ r b (by simpa using hp) hl
  · rw [hq]; exact hP

/-- A request whose block answers without a change. -/
theorem answers_of_refusal {c : Instr} {code : Byte} {block : State → State × Reply} {s : State} {r : Result} {b : ReplyBody}
    (he : exec c s = .next (request code block s)) (hc : codeOf c = code)
    (hb : block (s.taking code) = (s.taking code, .now r b)) : Answers c s r b [] fun _ => True :=
  answers_of_block he hc hb (.refl _ _) ⟨rfl, rfl, rfl, rfl, rfl⟩ (by simp) trivial

/-! ### The body of READ PAGE MAP -/

/-- An entry takes five bytes (R11). -/
@[simp] theorem pageEntryBytes_length (e : Owner × Nat × Nat) : (pageEntryBytes e).length = 5 := rfl

@[simp] theorem pageMapReport_bytes_length (r : PageMapReport) : r.bytes.length = 6 + 5 * r.entries.length := by
  simp [PageMapReport.bytes, bytes16]
  omega

/-- Every page map report fits the body limit (R11). -/
theorem pageMap_body_fits (f : Fmm) (first : Nat) : (ReplyBody.pageMap (f.pageMap first)).bytes.length ≤ 248 := by
  simp only [ReplyBody.bytes, pageMapReport_bytes_length, Fmm.pageMap, List.length_take]
  omega

end Sys2Proof.Machine
end

