-- ==== Sys2Proof/WellFormed.lean ====
section
/-! DEFINITION. Which commands a sender can form: the widths of fields that the manual gives, where the operand's type does
not already hold them. A command's meaning is total; a command that is not well formed stands for nothing a sender can do. -/

namespace Sys2Proof

/-- A received CAN data frame: an identifier of 11 or 29 bits, a 4-bit length code, and as many data bytes as the code says,
at most 8 (R25). -/
def Reception.wf : Reception → Bool
  | .data ext id dlc bytes => decide (id < (if ext then 536870912 else 2048)) && decide (dlc ≤ 15) && decide (bytes.length = min dlc 8)
  | .remote => true
  | .faulty => true

/-- The bytes of a request frame that ends whole: SYNC, LEN up to 248, TAG, CODE, LEN body bytes and two CHECK bytes (R171). -/
def wholeFrame : List Byte → Bool
  | sync :: len :: rest => decide (sync = 0xA5#8) && decide (len.toNat ≤ 248) && decide (rest.length = len.toNat + 4)
  | _ => false

/-- A body no longer than a request frame can carry (R171). -/
def bodyFits (header : Nat) (data : List Byte) : Bool := decide (header + data.length ≤ Config.maxBody)

/-- A request body, when whole, passes a check. -/
def Body.all {α : Type} (b : Body α) (p : α → Bool) : Bool :=
  match b with
  | .whole f => p f
  | .short => true

/-- The commands a sender can form. -/
def Instr.wf : Instr → Bool
  | .requestTaken frame => wholeFrame frame
  | .transactionEnd received => !wholeFrame received
  | .resetPart body => bodyFits 0 body
  | .loadBlock b => b.all fun f => decide (f.data.length ≤ 240)
  | .loadSampleBlock b => b.all fun f => decide (f.data.length ≤ 240)
  | .writeSector b => b.all fun f => decide (128 ≤ f.data.length) && bodyFits 2 f.data
  | .busFrame r => r.wf
  | _ => true

end Sys2Proof
end

