-- ==== Sys2Proof/Tests/Slice0.lean ====
section
/-! SUPPORT. Tests: ill-formed commands refused, the manual's worked examples, single commands, and for every statement with
hypotheses a state that meets them. -/

namespace Sys2Proof.Tests

set_option Elab.async false

open Sys2Proof Sys2Proof.Machine

set_option maxRecDepth 20000

/-! ## Well-formed commands: each check refuses an ill-formed term (R25, R82, R160, R171, R187) -/

theorem test_wf_frame_needs_sync : (Instr.requestTaken [0xA4, 0, 1, 0x01, 0, 0]).wf = false := by decide
theorem test_wf_frame_needs_all_bytes : (Instr.requestTaken [0xA5, 1, 1, 0x01, 0, 0]).wf = false := by decide
theorem test_wf_frame_len_at_most_248 :
    (Instr.requestTaken ([0xA5, 249, 1, 0x01] ++ List.replicate 251 0)).wf = false ∧
      (Instr.requestTaken ([0xA5, 248, 1, 0x01] ++ List.replicate 250 0)).wf = true := by decide
theorem test_wf_transaction_end_is_partial :
    (Instr.transactionEnd [0xA5, 0, 1, 0x01, 0, 0]).wf = false ∧ (Instr.transactionEnd [0xA5, 0, 1]).wf = true := by decide
theorem test_wf_reset_body : (Instr.resetPart (List.replicate 249 0)).wf = false := by decide
theorem test_wf_load_block_data :
    (Instr.loadBlock (.whole ⟨0, 0, List.replicate 241 0⟩)).wf = false ∧
      (Instr.loadBlock (.whole ⟨0, 0, List.replicate 240 0⟩)).wf = true := by decide
theorem test_wf_load_sample_data : (Instr.loadSampleBlock (.whole ⟨0, 0, List.replicate 241 0⟩)).wf = false := by decide
theorem test_wf_write_sector_needs_a_half :
    (Instr.writeSector (.whole ⟨1, 0, List.replicate 127 0⟩)).wf = false ∧
      (Instr.writeSector (.whole ⟨1, 0, List.replicate 128 0⟩)).wf = true := by decide
theorem test_wf_write_sector_fits_a_frame : (Instr.writeSector (.whole ⟨1, 0, List.replicate 247 0⟩)).wf = false := by decide
theorem test_wf_standard_identifier :
    (Instr.busFrame (.data false 2048 0 [])).wf = false ∧ (Instr.busFrame (.data true 2048 0 [])).wf = true := by decide
theorem test_wf_extended_identifier : (Instr.busFrame (.data true 536870912 0 [])).wf = false := by decide
theorem test_wf_length_code : (Instr.busFrame (.data false 0 16 (List.replicate 8 0))).wf = false := by decide
theorem test_wf_data_length :
    (Instr.busFrame (.data false 0 3 [1, 2])).wf = false ∧
      (Instr.busFrame (.data false 0 9 (List.replicate 8 0))).wf = true := by decide

/-- The table gives bits for no row, so no word spells a command. -/
theorem test_no_word_spells_a_command : decodeTableWord 8 0 = none ∧ decodeTableWord 16 0x29B1 = none := ⟨rfl, rfl⟩

/-! ## The manual's worked examples -/

/-- R171: the check of the characters 123456789. -/
theorem test_check : check [0x31, 0x32, 0x33, 0x34, 0x35, 0x36, 0x37, 0x38, 0x39] = 0x29B1#16 := by decide +kernel

/-- Section 2.3: the raw fields of the frame 12 34 56 78 9A BC DE F0 at start bit 12, length 12. -/
theorem test_raw_fields :
    rawField .lsbFirst 12 [0x12, 0x34, 0x56, 0x78, 0x9A, 0xBC, 0xDE, 0xF0] 12 = 1379 ∧
      rawField .msbFirst 12 [0x12, 0x34, 0x56, 0x78, 0x9A, 0xBC, 0xDE, 0xF0] 12 = 291 := by decide

/-- Section 2.3: the bytes a frame must carry for those fields. -/
theorem test_fields_covered :
    fieldCovered .lsbFirst 12 12 3 = true ∧ fieldCovered .lsbFirst 12 12 2 = false ∧
      fieldCovered .msbFirst 12 12 2 = true ∧ fieldCovered .msbFirst 12 12 1 = false := by decide

/-- A rule for the conversions of section 2.3. -/
def ruleOf (target : SignalId) (length : Nat) (signed : Bool) (factor : Int) (shift : Nat) (offset : Int) : Rule :=
  { Rule.cleared with target, length, signed, factor, shift, offset }

/-- Section 2.3: the four conversions. -/
theorem test_conversions :
    (ruleOf .speed 12 false 25 2 0).convert 1379 = 8618 ∧ (ruleOf .steerAngle 16 true 1 0 0).convert 0xFA24 = -1500 ∧
      (ruleOf .steerAngle 4 true 3 2 100).convert 9 = 95 ∧ (ruleOf .steerAngle 16 false 1 0 0).convert 0x1F40 = 7800 := by decide

/-- R6: the pages of the worked runs. -/
theorem test_run_sizes :
    slotPages 1280 720 = 29 ∧ slotPages 960 540 = 16 ∧ planePages .argb8888 1280 800 = 63 ∧
      planePages .argb8888 640 480 = 19 ∧ planePages .argb1555 400 200 = 3 ∧ samplePages 192000 = 6 ∧
      samplePages 48000 = 2 := by decide

/-- R109: the six fits. -/
theorem test_fits :
    fitPicture 1280 720 1280 800 = ⟨1280, 720, 0, 40⟩ ∧ fitPicture 960 540 1280 800 = ⟨1280, 720, 0, 40⟩ ∧
      fitPicture 1000 720 1280 800 = ⟨1110, 800, 85, 0⟩ ∧ fitPicture 720 576 1280 720 = ⟨900, 720, 190, 0⟩ ∧
      fitPicture 1280 800 1280 720 = ⟨1152, 720, 64, 0⟩ ∧ fitPicture 720 480 1280 720 = ⟨1080, 720, 100, 0⟩ := by decide

/-- R112: the suppression table, row by row, at the limit 500. -/
theorem test_suppression :
    suppressionAfter .none 30000 500 false = true ∧ suppressionAfter .fresh 300 500 true = false ∧
      suppressionAfter .fresh 480 500 false = false ∧ suppressionAfter .fresh 500 500 false = true ∧
      suppressionAfter .fresh 470 500 true = true ∧ suppressionAfter .fresh 449 500 true = false ∧
      suppressionAfter .held 449 500 false = false ∧ suppressionAfter .lost 30000 500 false = true := by decide

/-- R138: the three road-wheel angles. -/
theorem test_road_angles :
    roadAngle 1600 2400 = 1500 ∧ roadAngle 1000 7800 = 4500 ∧ roadAngle 1600 (-7800) = -4500 := by decide

/-- R139, R140: the tangents and curvatures worked there. -/
theorem test_tangents :
    tangent 1500 = 17560 ∧ tangent 1537 = 18015 ∧ tangent 4500 = 65536 ∧ curvature 17560 2700 = 1664 ∧
      curvature 18015 2700 = 1708 := by decide

/-- The geometry of the worked case of section 7.7, with h7 and h8. -/
def workedGeometry (h7 h8 : Int) : Geometry :=
  ⟨1600, 2700, 1000, 1600, 3000,
    ⟨#[BitVec.ofInt 24 (-500), 640, 640000, 0, 200, 800000, 0, BitVec.ofInt 24 h7, BitVec.ofInt 24 h8], rfl⟩, 1000, 2000, 2500, false⟩

/-- Section 7.7: the left track. -/
theorem test_worked_track :
    ((workedGeometry 1 1000).tracks 1500).1.map (fun p => (p.u, p.v)) =
      [(240, 800), (342, 620), (392, 523), (403, 500), (419, 462), (434, 421), (440, 400), (442, 390), (446, 371), (446, 368),
        (447, 350)] := by decide +kernel

/-- Section 7.7: the bar in marker colour 1. -/
theorem test_worked_bar :
    (bar 0 ((workedGeometry 1 1000).tracks 1500)).map (fun p => (p.1.u, p.1.v, p.2.u, p.2.v)) = some (403, 500, 803, 500) := by
  decide +kernel

/-- R142: with h7 = −1 and h8 = 2500 each track ends at 2142, and the bar at 2500 is not drawn. -/
theorem test_cut_track :
    ((workedGeometry (-1) 2500).tracks 1500).1.length = 8 ∧ (bar 1 ((workedGeometry (-1) 2500).tracks 1500)).isSome = true ∧
      bar 2 ((workedGeometry (-1) 2500).tracks 1500) = none := by decide +kernel

/-- Section 1.4, steps 1 to 3 with two layers: runs from the gap. -/
def mapStep3 : Option Fmm := do
  let f ← (Fmm.mk [] 190 2048 [] MemErrorRecord.clear 0).placeLow (.stream .a) 232
  let f ← f.placeLow (.stream .b) 232
  let f ← f.placeHigh (.layer 0) 126
  f.placeHigh (.layer 1) 126

/-- Section 1.4: the two streams from the bottom of the gap, the layers downward from its top. -/
theorem test_page_map_gap :
    mapStep3.map (fun f => (f.runs.map fun r => (r.base, r.count), f.lowTop, f.highBottom)) =
      some ([(190, 232), (422, 232), (1796, 126), (1922, 126)], 654, 1796) := by decide +kernel

/-- Section 1.4, steps 5, 10 and 11: a hole reused from its bottom, and low_top falling through it. -/
theorem test_page_map_holes :
    (do
      let f ← mapStep3
      let f ← (f.free (.stream .a)).placeLow (.stream .a) 116
      let g := f.free (.stream .b)
      return (f.runOf (.stream .a), f.lowTop, g.lowTop)) = some (some ⟨.stream .a, 190, 116⟩, 654, 306) := by decide +kernel

/-- R180: a start-up of the part as delivered leads, at the end of its steps, to the reset state. -/
theorem test_start_up_gives_reset : (State.reset.startUp .power).finishStartUp = State.reset := by decide +kernel

/-- R183: the identity sector as delivered has a right check. -/
theorem test_factory_identity : sectorStateOf 0 Config.factoryIdentity false = .valid := by decide +kernel

/-! ## Single commands -/

/-- The state a command leads to. -/
def after (c : Instr) (s : State) : State :=
  match exec c s with
  | .next t => t
  | _ => s

/-- The machine after reset, RUNNING. -/
def running : State :=
  { State.reset with part := ⟨.running, .power⟩, pacer := { State.reset.pacer with paceTimer := true } }

/-- The outcome of the latest answer. -/
def outcome (s : State) : Option Result :=
  match s.link.lastAnswer with
  | some a => some a.result
  | none => none

/-- A stream record at 16 × 16 with a ring and a clock. -/
def film (state : StreamState) (ring : List Slot) (clock : Nat) : Stream :=
  { Stream.initial with state, width := 16, height := 16, slotCount := ring.length, ring, clock, clockRunning := true }

/-- Stream A RUNNING with a ring, its run of one page a slot in place. -/
def playing (ring : List Slot) (clock : Nat) : State :=
  State.putStream { running with fmm := ⟨[⟨.stream .a, 190, ring.length⟩], 190 + ring.length, 2048, [], MemErrorRecord.clear, 0⟩ } .a
    (film .running ring clock)

/-- A signal's record. -/
def sig (value : Int) (state : SignalState) (timer : Option Nat) : Signal := ⟨value, state, timer, 100⟩

/-- R173: while STARTING GET IDENTITY is answered and another request is BUSY. -/
theorem test_starting : outcome (after .getIdentity .reset) = some .done ∧
    (after .getState .reset).link.requests = [⟨0, 0x04, none, .replied .busy .empty⟩] := by decide +kernel

/-- R173: a body shorter than its fields is BAD_VALUE. -/
theorem test_short_body : outcome (after (.setMix .short) running) = some .badValue := by decide +kernel

/-- R183, R184: PART_STARTED stands first, before a notice that came earlier. -/
theorem test_part_started_first :
    (after .enterRunning { State.reset with link := { Link.initial with notices := [⟨.reverseChanged false .line, 0⟩] } }).noticeKeys
      = [(1, 0), (2, 0)] := by decide +kernel

/-- R170, R171: a transaction's first whole frame is taken; a second is not. -/
theorem test_request_taken_once :
    let s := after (.requestTaken (requestFrame 10 0x73 [])) (after .transactionBegin running)
    s.link.requests.map (fun r => (r.tag, r.code)) = [(10, 0x73)] ∧
      (after (.requestTaken (requestFrame 11 0x73 [])) s).link.requests = s.link.requests := by decide +kernel

/-- Section 2.3: a rule for SPEED and its frame give 8618, FRESH. -/
theorem test_bus_frame :
    let s := after (.setRule (.whole ⟨0, true, false, 0x3A0, 2, 12, 12, .legal .lsbFirst, false, 25, 2, 0, 100, none, none⟩)) running
    (after (.busFrame (.data false 0x3A0 8 [0x12, 0x34, 0x56, 0x78, 0x9A, 0xBC, 0xDE, 0xF0])) s).signal .speed =
      ⟨8618, .fresh, some 0, 100⟩ := by decide +kernel

/-- R27: an extended frame with the same number does not match a standard rule. -/
theorem test_extended_does_not_match :
    let s := after (.setRule (.whole ⟨0, true, false, 0x3A0, 2, 0, 8, .legal .lsbFirst, false, 1, 0, 0, 100, none, none⟩)) running
    ((after (.busFrame (.data true 0x3A0 1 [7])) s).signal .speed).state = .none := by decide +kernel

/-- R48: a frame received before sector 2 is loaded is counted and not applied; after the load it is applied. -/
theorem test_frames_before_the_rules :
    let s := State.reset.startUp .power
    let frame := Instr.busFrame (.data false 0x3A0 1 [7])
    s.rulesLoaded = false ∧ (after frame s).recv = { s.recv with goodFrames := 1 } ∧ s.endStep.rulesLoaded = false ∧
      s.endStep.endStep.rulesLoaded = true := by decide +kernel

/-- R36: an update taken before the expiry restarts the timer, and the expiry does not happen. -/
theorem test_update_first_no_expiry :
    let s := running.putSignal .speed (sig 5 .fresh (some 0))
    after (.signalHeld .speed) s = s ∧
      ((after (.signalHeld .speed) (running.putSignal .speed (sig 5 .fresh (some 1000)))).signal .speed).state = .held := by
  decide +kernel

/-- Section 2.9: a LOST REVERSE keeps the bus term; FRESH SPEED at the linger speed releases it. -/
theorem test_lost_latch :
    let s := after (.signalLost .reverse) (running.putSignal .reverse (sig 1 .held (some 3000)))
    s.busTerm = true ∧ (s.signal .reverse).value = 0 ∧
      ({ s with recv := { s.recv with lostLatch := false } }).busTerm = false := by decide +kernel

/-- R43: the level returning before the debounce time stops the timer. -/
theorem test_debounce_stops :
    (after (.revInChange false) (after (.revInChange true) running)).recv.debounce = none := by decide +kernel

/-- Section 3.9, step 4: 1400 is due at 1333 and the next is not; the slot shown before is emptied. -/
theorem test_pace_step_4 :
    ((after .paceTimerTick (playing [.empty .none, .showing 1000 2, .ready 1400 3, .ready 1800 4] 1333)).stream .a).ring =
      [.empty .none, .empty .none, .showing 1400 3, .ready 1800 4] := by decide +kernel

/-- Section 3.9, step 9: three late frames are dropped, the current frame stays. -/
theorem test_pace_step_9 :
    let t := (after .paceTimerTick (playing [.ready 2200 5, .ready 2600 6, .showing 1400 3, .ready 1800 4] 3100)).stream .a
    t.ring = [.empty .none, .empty .none, .showing 1400 3, .empty .none] ∧ t.counters.lateDrop = 3 ∧ t.state = .running := by
  decide +kernel

/-- Section 3.9, step 14: a due frame is superseded by a due newer one. -/
theorem test_pace_step_14 :
    let t := (after .paceTimerTick (playing [.ready 3800 9, .ready 4200 10, .empty .none, .showing 3400 8] 4150)).stream .a
    t.ring = [.empty .none, .showing 4200 10, .empty .none, .empty .none] ∧ t.counters.superseded = 1 := by decide +kernel

/-- Section 3.9, steps 15 and 16: starvation begins only past 2000 units after the current stamp. -/
theorem test_pace_step_16 :
    ((after .paceTimerTick (playing [.empty .none, .showing 4200 10] 6200)).stream .a).state = .running ∧
      ((after .paceTimerTick (playing [.empty .none, .showing 4200 10] 6201)).stream .a).state = .starved := by decide +kernel

/-- Section 3.10, frame 3: a stamp not above the last accepted one is out of order. -/
theorem test_frame_out_of_order :
    let s := playing [.ready 0 10, .ready 400 12, .filling ⟨400, 13, false, false, false⟩ 16] 0
    let r := { (s.stream .a) with state := .priming, lastStamp := some 400, lastSequence := some 12, lastWritten := 2 }
    let t := (after (.vinFrameEnd .a) ((s.putStream .a r).putVin .a (.picture 2 false))).stream .a
    t.ring = [.ready 0 10, .ready 400 12, .empty .none] ∧ t.counters.lateDrop = 1 ∧ t.lastSequence = some 12 := by decide +kernel

/-- R57: a trim of 1000 ppm adds one unit in a thousandth of a unit's steps. -/
theorem test_clock_trim :
    let s := running.putStream .a { (film .running [] 10) with trim := 1000, fraction := 999000 }
    (match step s with
      | .next t => ((t.stream .a).clock, (t.stream .a).fraction)
      | _ => (0, 0)) = (12, 0) := by decide +kernel

/-- A layer of 2 planes of 20 × 6 ARGB8888, READY, in a run at pages 2046 and 2047 (section 4.12). -/
def layer5 : State :=
  State.putLayer { running with fmm := ⟨[⟨.layer 5, 2046, 2⟩], 190, 2046, [], MemErrorRecord.clear, 0⟩ } 5
    { Layer.initial with state := .ready, width := 20, height := 6, planes := 2, mark := 240 }

/-- Section 4.12, steps 2, 3 and 4: the mark rises only through a block at or below it; a block past the plane is refused. -/
theorem test_load_marks :
    ((after (.loadBlock (.whole ⟨5, 300, List.replicate 180 9⟩)) layer5).layer 5).mark = 240 ∧
      outcome (after (.loadBlock (.whole ⟨5, 400, List.replicate 100 9⟩)) layer5) = some .badValue ∧
      ((after (.loadBlock (.whole ⟨5, 240, List.replicate 240 9⟩)) layer5).layer 5).mark = 480 := by decide +kernel

/-- R82: the load target of a layer with front plane 0 is plane 1. -/
theorem test_load_target :
    ((after (.loadBlock (.whole ⟨5, 240, [1, 2]⟩)) layer5).mem.read (2047 * 65536 + 241)) = 2 := by decide +kernel

/-- Section 4.12, step 5: PRESENT of a layer on view waits; of a hidden one it flips at once. -/
theorem test_present :
    let shown := layer5.putLayer 5 { (layer5.layer 5) with placements := ⟨#[some ⟨0, 0, 1, 255, true⟩, none, none], rfl⟩ }
    ((after (.present (.whole 5)) shown).layer 5).flipPending = true ∧ ((after (.present (.whole 5)) layer5).layer 5).front = 1 := by
  decide +kernel

/-- Section 5.11: a reverse takeover, then SHOW CAMERA on REAR-L, then RELEASE VIEW refused for CENTRE. -/
theorem test_release_refused :
    let s := (running.putOut .centre { (running.out .centre) with owner := .camera, reason := .reverse }).putOut .rearL
      { (running.out .rearL) with owner := .camera, reason := .request }
    let t := after (.releaseView (.whole ⟨⟨true, true, false⟩, false⟩)) s
    outcome t = some .notNow ∧ (t.out .centre).owner = .camera ∧ (t.out .rearL).owner = .normal := by decide +kernel

/-- Section 5.12: SET OUTPUT with Enabled clear is refused in a camera view. -/
theorem test_disable_in_view :
    let s := running.putOut .centre { (running.out .centre) with owner := .camera }
    outcome (after (.setOutput (.whole ⟨0, false, some false, none, none, none, none⟩)) s) = some .notNow := by decide +kernel

/-- The camera receiving a frame whose lines are all in, with a check over its grid. -/
def received (status : CameraStatus) (c : Camera) (chk : BitVec 16) : State :=
  { running with cam := { c with status, timer := some 7, rx := some ⟨none, 800, true, chk⟩ } }

/-- Section 6.6: the first good frame makes a WAKING camera LIVE; the fifth equal signature freezes one. -/
theorem test_camera_frames :
    (after .cameraFrameEnd (received .waking running.cam 1)).cam.status = .live ∧
      (after .cameraFrameEnd (received .live { running.cam with
        settings := { running.cam.settings with freezeCount := 5 }, prevSig := some 2, equalRun := 4 } 2)).cam.status = .frozen ∧
      (after .cameraFrameEnd (received .frozen { running.cam with prevSig := some 2, equalRun := 5 } 3)).cam.status = .live ∧
      (after .cameraFrameEnd (received .lost { running.cam with prevSig := some 2, recovery := 2 } 3)).cam.status = .live := by
  decide +kernel

/-- R129: a picture line beyond the format is counted and not written. -/
theorem test_line_beyond_the_format :
    let s : State := { running with cam := { running.cam with status := .live, rx := some ⟨some 2, 800, true, 7⟩ } }
    let t := after (.cameraLine [1, 2]) s
    (t.cam.slots.sel 2).state = .filling 801 ∧ t.mem = s.mem := by decide +kernel

/-- Section 6.7, step 7: no slot EMPTY, the oldest free COMPLETE one is taken. -/
theorem test_capture_choice :
    let s := { running with cam := { running.cam with
      status := .live, order := [0, 1, 2], lastWritten := 2
      slots := ⟨#[⟨.complete, .none⟩, ⟨.complete, .none⟩, ⟨.complete, ⟨true, true, false⟩⟩], rfl⟩ } }
    (after .cameraFrameStart s).cam.lastWritten = 0 := by decide +kernel

/-- The Generator active, a drawing waiting for its flip, at a last drawn angle and a wheel angle. -/
def following (last : Option Int) (steer : Int) : State :=
  State.putSignal { running with guide := { running.guide with
    valid := true, demand := true, camStatus := .live, comp := .flipPending ⟨.builtIn, .builtIn, 16, 8, last⟩ false, lastAngle := last } }
    .steerAngle (sig steer .fresh (some 0))

/-- Section 7.8, at 5 and 12: an update within the deadband requests nothing; one beyond it sets the flag. -/
theorem test_deadband :
    ((following (some 1500) 2410).steerUpdated false).guide.recompute = false ∧
      ((following (some 1512) 2500).steerUpdated false).guide.recompute = true := by decide +kernel

/-- A chime entry in use. -/
def chime (cls : ChimeClass) (sound : Sound) (repetitions : Nat) (playing : Bool) (age : Nat) : ChimeEntry :=
  ⟨cls, .host, sound, repetitions, 7, playing, age, 0, 0, none⟩

/-- Section 8.8, at 0: the chime plays at once and the cabin target is 20 + 12. -/
theorem test_chime_ducks :
    let t := after (.playChime (.whole ⟨.legal .info, .legal (.tone 40 200 800 6), 0, 7⟩)) running
    t.playingEntry = some 0 ∧ (t.mixer.outs.sel 0).target = 32 := by decide +kernel

/-- Section 8.8, at 2400: SAFETY preempts. -/
theorem test_safety_preempts :
    let s := running.putEntry 1 (some (chime .warning (.tone 60 60 460 6) 0 true 0))
    let t := after (.playChime (.whole ⟨.legal .safety, .legal (.tone 20 300 100 6), 2, 9⟩)) s
    t.playingEntry = some 0 ∧ (t.entry 1).map (·.preempted) = some 1 := by decide +kernel

/-- Section 8.8, at 2300: the off time at 60 cm is 180 ms. -/
theorem test_park_off_time : ParkCadence.builtIn.wish true (some 60) = .beat .beeping 180 ∧ ParkCadence.builtIn.wish true (some 120) = .beat .beeping 460 := by decide

/-- R167: a tone at full level through both gains of 0 dB saturates. -/
theorem test_mix_clips :
    let x : MixOut := ⟨some .a, 0, true, 0, 0, 0, 0⟩
    (x.mix ⟨#[⟨0x7FFF, 0x8000⟩, ⟨0, 0⟩], rfl⟩ 32767).2 = ⟨32767, -1⟩ ∧
      (x.mix ⟨#[⟨0x7FFF, 0x8000⟩, ⟨0, 0⟩], rfl⟩ 32767).1.clips = 1 := by decide +kernel

/-- R187: a write into bytes that are not erased is refused; sector 0 is never written. -/
theorem test_write_sector :
    outcome (after (.writeSector (.whole ⟨0, 0, List.replicate 128 0⟩)) running) = some .notNow ∧
      outcome (after (.writeSector (.whole ⟨5, 1, List.replicate 128 0⟩)) running) = some .accepted := by decide +kernel

/-- R189: with sectors 1 to 4 erased the self-test stops at test 2. -/
theorem test_self_test_two : ((after .runSelfTest running).selfTest.map (·.early)) = some 2 := by decide +kernel

/-- Section 1.10: the first error is latched, the second sets MORE. -/
theorem test_memory_errors :
    let s := after (.uncorrectableError (.scan .rearL) (BitVec.ofNat 24 (2046 * 8192))) layer5
    s.fmm.record = ⟨true, 2046, .run (.layer 5), .scan .rearL, false⟩ ∧ s.fmm.pending.length = 1 ∧
      (after (.uncorrectableError (.scan .rearR) 0) s).fmm.record.more = true := by decide +kernel

/-- R23: the corrected-error count stays at 65535. -/
theorem test_corrected_saturates :
    (after .correctedError { running with fmm := { running.fmm with corrected := 65535 } }).fmm.corrected = 65535 := by decide +kernel

/-- R93, section 4.12: the reply of GET LAYER for layer 5, hidden, in pages 2046 and 2047 with mark 240: presence of size, run and
mark. -/
theorem test_layer_reply_bytes :
    (layer5.layerReport 5).bytes.length = 6 + 4 + 4 + 3 ∧
      (layer5.layerReport 5).bytes.drop 6 = [0, 20, 0, 6, 0x07, 0xFE, 0, 2, 0, 0, 240] ∧
      (layer5.layerReport 23).bytes.length = 6 := by decide +kernel

/-- R11, R5: the page map after start-up, boundaries 190 and 2048 and the reserve alone, code 1, pages 0 to 189; from page 1 on no
entry is listed. -/
theorem test_page_map_reply_bytes :
    (ReplyBody.pageMap (running.fmm.pageMap 0)).bytes = [0, 190, 8, 0, 1, 0, 1, 0, 0, 0, 190] ∧
      (ReplyBody.pageMap (running.fmm.pageMap 1)).bytes = [0, 190, 8, 0, 0, 0] := by decide +kernel

/-- R170, section 9.9: the reply DONE with no body to tag 10 as it is shifted out, and 0x00 after it. -/
theorem test_reply_shifted_out :
    let s : State := { running with link := { Link.initial with
      requests := [⟨10, 0x45, none, .replied .done .empty⟩], transaction := some ⟨true, false, false⟩ } }
    (List.range 7).map s.shiftedOut = [0x5A, 0, 10, 0] ++ bytes16 (check [0, 10, 0]).toNat ++ [0] := by decide +kernel

/-- R173: a request waits behind an EXECUTING one, and its row comes too early. -/
theorem test_request_waits :
    let s : State := { running with link := { Link.initial with requests := [⟨1, 0x60, none, .executing⟩, ⟨2, 0x04, none, .waiting⟩] } }
    (after .getState s).link = s.link ∧ ((after (.setCamera .short) s).link.requests.map (·.status)) =
      [.replied .badValue .empty, .executing] := by decide +kernel

/-- R20, R158: CHIME finds an error: the sample of that period is formed with the zero, and at the next the chime has ended. -/
theorem test_zero_is_played :
    let s := { running with
      fmm := ⟨[⟨.sample 0, 2047, 1⟩], 190, 2047, [], MemErrorRecord.clear, 0⟩
      mem := running.mem.write (2047 * 65536) (List.replicate 8 0x40)
      chime := { running.chime with samples := running.chime.samples.put 0 ⟨.ready, 4, 8⟩ } }.putEntry 2
        (some (chime .info (.sample 0 0) 1 true 0))
    let found := after (.uncorrectableError .chime (BitVec.ofNat 24 (2047 * 8192))) s
    s.voice ≠ 0 ∧ found.voice = 0 ∧ (after .outputSamplePeriod found).playingEntry = some 2 ∧
      (after .outputSamplePeriod (after .outputSamplePeriod found)).entry 2 = none := by decide +kernel

/-- R183: an odd camera height is replaced by the built-in one; an even one at either end of the range is loaded. -/
theorem test_camera_height : cameraHeightOf 601 = 800 ∧ cameraHeightOf 240 = 240 ∧ cameraHeightOf 960 = 960 ∧ cameraHeightOf 962 = 800 := by
  decide

/-- R147: CENTRE was OFF at the drawing end, so a headrest's refresh event flips although CENTRE is NORMAL again. -/
theorem test_guide_flips_on_any_view :
    let s := (following none 0).putOut .rearL { (running.out .rearL) with owner := .camera }
    let t : State := { s with guide := { s.guide with comp := .flipPending ⟨.builtIn, .builtIn, 16, 8, none⟩ true } }
    (after (.refreshEvent .rearL) t).guide.front = 1 ∧ (after (.refreshEvent .rearL) s).guide.front = 0 ∧
      (after (.refreshEvent .centre) t).guide.front = 0 := by decide +kernel

/-! ## For every statement with hypotheses, states and operands that meet them, clause by clause

In each, the conjuncts of one line meet the hypotheses of one clause together. -/

/-- An outstanding request. -/
def asked (tag code : Byte) (status : RequestStatus) : Outstanding := ⟨tag, code, none, status⟩

/-- The machine with a list of outstanding requests and an open transaction. -/
def linked (requests : List Outstanding) (x : Option Transaction) : State :=
  { running with link := { Link.initial with requests, transaction := x } }

/-- The machine with an erase or write in flight in sector 3. -/
def storing (kind : StoreOpKind) : State := { running with store := { running.store with op := some ⟨3, kind⟩ } }

/-- The machine with a self-test in flight. -/
def testing (pages : List Nat) : State := { running with selfTest := some ⟨0, pages, false, []⟩ }

/-- The FMM with given runs and boundaries. -/
def fmmOf (runs : List Run) (lowTop highBottom : Nat) : Fmm := ⟨runs, lowTop, highBottom, [], MemErrorRecord.clear, 0⟩

/-- A request comes to its block from a state in which nothing else is asked: what every statement that ends in an answer takes of the
link. The states below that a request is put to are such, where they do not name a list of requests. -/
theorem witness_Comes (c : Instr) (s : State) (hk : codeOf c ∈ requestCodes) (hl : s.link = Link.initial)
    (hc : s.layers.clearing = none) (hr : Running s) : Comes c s := by
  have hp : s.part.phase = .running := hr
  simp [Comes, State.taking, State.frameEnds, State.enlist, hl, Link.initial, State.advanceRequests, advance, linkAnswer, hk, hp,
    State.handsOver, Outstanding.isExecuting, hc, State.isRunning, Config.maxRequests]

/-- `running` is such a state, and OPEN STREAM and GET STATE are such requests. -/
theorem witness_Comes_holds : (codeOf .getState ∈ requestCodes ∧ codeOf (.openStream .short) ∈ requestCodes) ∧
    running.link = Link.initial ∧ running.layers.clearing = none ∧ Running running := ⟨by decide, rfl, rfl, rfl⟩

/-- The machine with layer 3's run being cleared, its CREATE LAYER EXECUTING. -/
def clearing3 : State :=
  { running with link := { Link.initial with requests := [⟨1, 0x40, none, .executing⟩] }
                 fmm := fmmOf [⟨.layer 3, 2047, 1⟩] 190 2047,
                 layers := { running.layers with clearing := some ⟨3, .menu, true, .argb1555, 4, 2, 1⟩ } }

/-- The Generator active in a computation state. -/
def computing (comp : GuideComp) (holds : OutputSet) : State :=
  { running with guide := { running.guide with
    valid := true, demand := true, camStatus := .live, comp, holds := ⟨#[.none, holds], rfl⟩ } }

/-- The machine with sample slot 0 in a state. -/
def sampled (state : SampleState) : State :=
  { running with fmm := fmmOf [⟨.sample 0, 2047, 1⟩] 190 2047,
                 chime := { running.chime with samples := running.chime.samples.put 0 ⟨state, 4, if state = .ready then 8 else 3⟩ } }

theorem witness_ClockAdvancesExactly :
    let s (trim : Int) (clock : Nat) : State := running.putStream .a { film .running [] clock with trim, fraction := 998999 }
    running.pending = [] ∧ running.part.phase = .running ∧ (State.reset.part.phase = .starting ∧ State.reset.steps = []) ∧
      (running.stream .b).clockRunning = false ∧
    (s 1000 0).pending = [] ∧ ((s 1000 4294967293).stream .a).clockRunning = true ∧ ((s 1000 0).stream .a).trim = 1000 ∧
      ((s (-1000) 0).stream .a).trim = -1000 ∧ ((s 1000 0).stream .a).fraction < 1000000 ∧
      (4294967293 * 1000000 + 998999 : Int) + (1 : Nat) * (1000000 + 1000) < (Config.clockMax : Int) * 1000000 ∧
      ((Config.clockMax : Int) * 1000000 ≤ (4294967295 * 1000000 + 998999 : Int) + (0 : Nat) * (1000000 + 1000) ∧
        ((s 1000 4294967295).stream .a).clock ≤ Config.clockMax) := by decide +kernel

/-- A sector's bytes with a right check. -/
def checked (bytes : List Byte) : List Byte :=
  let b := bytes ++ List.replicate (254 - bytes.length) 0
  b ++ bytes16 (check b).toNat

/-- The machine whose sectors 1 to 4 hold bytes, with right checks. -/
def calibrated (bytes : List Byte) : State :=
  ([1, 2, 3, 4] : List (Fin 8)).foldl (fun s n => s.putSector n ⟨checked bytes, false, none⟩) running

theorem witness_StartUpInitialisesEveryBlock :
    let rules : List Byte := [0, 0, 0] ++ (0x80 :: List.replicate 14 0) ++ (0x80 :: List.replicate 14 0)
    (State.reset.store.op = none ∧ Instr.powerOn = .powerOn ∧ ResetCause.power = .power) ∧
    (running.store.op = none ∧ Instr.resetPart [] = .resetPart [] ∧ Running running ∧ running.link.requests.length < 4 ∧
      running.link.transaction = none) ∧
    (linked [] (some ⟨true, false, false⟩)).link.transaction = some ⟨true, false, false⟩ ∧
    ((∀ n : Fin 8, 1 ≤ n.1 → n.1 ≤ 4 → sectorStateOf n (running.sector n).bytes (running.sector n).mark ≠ .valid) ∧
      ∀ n : Fin 8, 1 ≤ n.1 → n.1 ≤ 4 →
        sectorStateOf n ((calibrated rules).sector n).bytes ((calibrated rules).sector n).mark = .valid) ∧
    ((SetRule.legal (ruleRequest (checked rules) 0)).isSome = true ∧ SetRule.legal (ruleRequest (checked rules) 1) =
        some (1, .reverse, .lsbFirst) ∧ ((calibrated rules).startUp .power).finishStartUp.rule 0 =
          { Rule.cleared with enabled := true, length := 1, timeout := 20 } ∧
      ((calibrated rules).startUp .power).finishStartUp.rule 1 = Rule.cleared ∧
      SetRule.legal (ruleRequest [0, 0, 0, 0, 0, 0, 0, 0xE0] 0) = none) := by
  refine ⟨⟨rfl, rfl, rfl⟩, ⟨rfl, rfl, rfl, by decide, rfl⟩, rfl, ?_, ?_⟩ <;> decide +kernel

theorem witness_AbandonedStoreOperation :
    ((storing .erase).store.op = some ⟨3, .erase⟩ ∧ (Instr.powerOn = .powerOn ∨ Instr.powerOn = .resetLine)) ∧
    (storing (.write 0 [1])).store.op = some ⟨3, .write 0 [1]⟩ ∧ (storing (.write 1 [1])).store.op = some ⟨3, .write 1 [1]⟩ := by
  decide +kernel

/-- The machine STARTING with REV_EFF set and CENTRE with an owner. -/
def reversing (owner : OwnerState) : State :=
  State.putOut { State.reset with recv := { State.reset.recv with revEff := true, line := true } } .centre
    { (State.reset.out .centre) with owner, enabled := decide (owner ≠ .off) }

theorem witness_EntryIntoRunning :
    (let s := State.reset.startUp .line;
      s.part.phase = .starting ∧ s.steps = .examine :: [.receiver, .outputs, .camera, .mixer] ∧ s.pending = []) ∧
    (State.reset.part.phase = .starting ∧ State.reset.steps = [] ∧ State.reset.recv.revEff = false) ∧
    ((reversing .off).part.phase = .starting ∧ (reversing .off).steps = [] ∧ (reversing .off).recv.revEff = true ∧ ((reversing .off).out .centre).owner ≠ .camera ∧
      ((reversing .off).out .centre).owner = .off) ∧
    Running running := ⟨by decide +kernel, by decide +kernel, by decide +kernel, rfl⟩

theorem witness_TransactionsTakeRequestsAndSendReplies :
    (linked [] none).link.transaction = none ∧
    ((linked [asked 1 1 .executing] (some ⟨true, false, false⟩)).link.requests.any Outstanding.isReplied = false ∧
      (linked [] (some ⟨false, false, false⟩)).link.transaction = some ⟨false, false, false⟩) ∧
    (let s := linked [asked 1 1 .executing, asked 2 1 (.replied .done .empty)] (some ⟨true, false, false⟩);
      s.link.requests = [asked 1 1 .executing] ++ asked 2 1 (.replied .done .empty) :: [] ∧
        (∀ q ∈ [asked 1 1 .executing], q.isReplied = false) ∧ (asked 2 1 (.replied .done .empty)).isReplied = true ∧
        (asked 2 1 (.replied .done .empty)).status = .replied .done .empty) ∧
    (judgeFrame (requestFrame 9 0x04 []) = .good 9 0x04 [] ∧ (0x04 : Byte) ∈ requestCodes ∧ (0x04 : Byte) ≠ codeResetPart) ∧
    (judgeFrame [] = .noRequest ∧ judgeFrame ((requestFrame 9 0x04 []).take 5) = .bad 9) ∧
    (judgeFrame (requestFrame 9 0xFF [1]) = .good 9 0xFF [1] ∧ (0xFF : Byte) ∉ requestCodes) ∧
    (judgeFrame (requestFrame 9 0x03 []) = .good 9 codeResetPart [] ∧
      judgeFrame (requestFrame 9 0x03 [0]) = .good 9 codeResetPart [0] ∧ State.reset.part.phase = .starting) ∧
    ((linked [] (some ⟨false, true, false⟩)).link.transaction = some ⟨false, true, false⟩ ∧
      (linked [] (some ⟨false, false, true⟩)).link.transaction = some ⟨false, false, true⟩) := by decide +kernel

/-- The list of requests full (4) and with room (3). -/
theorem witness_requests_full_and_not :
    let r := asked 2 1 (.replied .done .empty)
    (RequestsLawful (linked [r, r, r, r] (some ⟨false, false, false⟩)) ∧
      (linked [r, r, r, r] (some ⟨false, false, false⟩)).link.requests.length = 4) ∧
    (RequestsLawful (linked [r, r, r] (some ⟨false, false, false⟩)) ∧
      (linked [r, r, r] (some ⟨false, false, false⟩)).link.requests.length < 4 ∧
      Running (linked [r, r, r] (some ⟨false, false, false⟩))) :=
  ⟨⟨⟨by decide, trivial, nofun⟩, rfl⟩, ⟨by decide, trivial, nofun⟩, by decide, rfl⟩

theorem witness_RequestFramesAreJudged :
    (List.replicate 248 (0 : Byte)).length ≤ 248 ∧
    be16 0 0 ≠ (check (BitVec.ofNat 8 0 :: 9 :: 4 :: [])).toNat ∧
    (3 ≤ 3 ∧ 3 < ([] : List Byte).length + 6) ∧ (3 ≤ 5 ∧ 5 < ([] : List Byte).length + 6) ∧
    248 < (249 : Byte).toNat ∧ (0xA4 : Byte) ≠ 0xA5#8 := by decide +kernel

theorem witness_AnswerClosesExecutingRequest :
    let done := asked 1 4 (.replied .done .empty)
    let s (post : List Outstanding) := linked ([done] ++ asked 2 4 .executing :: post) none
    Running (s []) ∧
    ((s []).link.requests = [done] ++ asked 2 4 .executing :: [] ∧ (∀ q ∈ [done], q.isReplied = true)) ∧
    ((∀ q ∈ [asked 3 4 .waiting, asked 4 4 .waiting], q.status = .waiting) ∧ (asked 3 4 .waiting).fixed = none ∧
      (asked 3 4 .waiting).code ∈ requestCodes) ∧
    ((asked 3 0xFF .waiting).fixed = none ∧ (asked 3 0xFF .waiting).code ∉ requestCodes) ∧ (5 : Byte) ≠ 4 :=
  ⟨rfl, by decide +kernel⟩

theorem witness_StartingAndShortRequestsAreTurnedAway :
    let done := asked 2 1 (.replied .done .empty)
    let heard : State := linked [done] (some ⟨true, false, false⟩)
    let starting : State := { State.reset with link := heard.link }
    ((requestCode (.setMix .short)).isSome = true ∧ shortRequest (.setMix .short) = true ∧ Running running) ∧
    (requestCode .getState = some 0x04 ∧ (0x04 : Byte) ≠ codeResetPart ∧ RequestsLawful (linked [asked 1 0x60 .executing] none) ∧
      ∃ r ∈ (linked [asked 1 0x60 .executing] none).link.requests, r.status = .executing ∧ r.code ≠ 0x04) ∧
    (requestCode (.createLayer .short) = some 0x40 ∧ RequestsLawful clearing3 ∧
      ∃ r ∈ clearing3.link.requests, r.status = .executing ∧ clearing3.layers.clearing.isSome = true) ∧
    (RequestsLawful (linked [done] (some ⟨false, true, false⟩)) ∧ RequestsLawful (linked [done] (some ⟨false, false, true⟩)) ∧
      (linked [done] (some ⟨false, true, false⟩)).link.requests.all Outstanding.isReplied = true) ∧
    (RequestsLawful heard ∧ FrameHeard heard ∧ heard.link.requests.all Outstanding.isReplied = true ∧ heard.link.requests.length < 4 ∧
      Running heard ∧ judgeFrame (requestFrame 0 0x04 [7]) = .good 0 0x04 [7]) ∧
    (RequestsLawful starting ∧ FrameHeard starting ∧ starting.part.phase = .starting ∧ (0x04 : Byte) ≠ codeGetIdentity) ∧
    (RequestsLawful (linked [done, done, done, done] none) ∧ FrameHeard (linked [done, done, done, done] none)) := by
  refine ⟨⟨rfl, rfl, rfl⟩, ⟨rfl, by decide, ⟨by decide, by simp [linked, inOrder, asked], nofun⟩, _, .head _, rfl, by decide⟩,
    ⟨rfl, ⟨by decide, by simp [clearing3, inOrder], fun _ => ⟨_, .head _, rfl, rfl⟩⟩, _, .head _, rfl, rfl⟩,
    ⟨⟨by decide, trivial, nofun⟩, ⟨by decide, trivial, nofun⟩, rfl⟩,
    ⟨⟨by decide, trivial, nofun⟩, ?_, rfl, by decide, rfl, by decide +kernel⟩,
    ⟨⟨by decide, trivial, nofun⟩, ?_, rfl, by decide⟩, ⟨by decide, trivial, nofun⟩, nofun⟩ <;>
  · rintro x ⟨⟩
    exact ⟨rfl, rfl⟩

theorem witness_NoticeQueueMergesReports :
    (∀ e ∈ [NoticeEntry.mk (.cameraState .off) 0], Report.key e.report ≠ Report.key (.signalState 1)) ∧
    (Report.key (.signalState 2) = Report.key (.signalState 1)) ∧
    (Report.key (.cameraState .off) = Report.key (.cameraState .live) ∧ (Report.key (.cameraState .live)).1 ∉ [3, 6, 7]) := by
  decide +kernel

theorem witness_FetchNoticesRemovesTheOldest : Running running := rfl

theorem witness_LowRunTakesTheLowestFreeStretch :
    let hole := fmmOf [⟨.stream .b, 191, 1⟩] 192 2048
    let fits (f : Fmm) (n b : Nat) : Prop := 190 ≤ b ∧ b + n ≤ f.lowTop ∧ ∀ p, b ≤ p → p < b + n → f.ownerOf p = .free
    (hole.lawful ∧ hole.runOf (.stream .a) = none ∧ fits hole 1 190 ∧ ∀ c, c < 190 → ¬ fits hole 1 c) ∧
    (Fmm.initial.lawful ∧ Fmm.initial.runOf (.stream .a) = none ∧ (∀ b, ¬ fits .initial 1858 b) ∧
      Fmm.initial.lowTop + 1858 ≤ Fmm.initial.highBottom) ∧
    ((∀ b, ¬ fits .initial 1859 b) ∧ Fmm.initial.highBottom < Fmm.initial.lowTop + 1859) ∧
    (testing []).selfTest.isSome = true := by
  refine ⟨⟨by decide +kernel, by decide +kernel, ⟨by decide, by decide, ?_⟩, ?_⟩,
    ⟨by decide +kernel, by decide +kernel, ?_, by decide⟩, ⟨?_, by decide⟩, rfl⟩
  · intro p h1 h2
    obtain rfl : p = 190 := by omega
    decide +kernel
  · rintro c hc ⟨h, -⟩
    omega
  · rintro b ⟨h1, h2, -⟩
    have : Fmm.initial.lowTop = 190 := rfl
    omega
  · rintro b ⟨h1, h2, -⟩
    have : Fmm.initial.lowTop = 190 := rfl
    omega

theorem witness_HighRunTakesTheHighestFreeStretch :
    let hole := fmmOf [⟨.layer 1, 2046, 1⟩] 190 2046
    let fits (f : Fmm) (n b : Nat) : Prop := f.highBottom ≤ b ∧ b + n ≤ 2048 ∧ ∀ p, b ≤ p → p < b + n → f.ownerOf p = .free
    (hole.lawful ∧ hole.runOf (.layer 0) = none ∧ fits hole 1 2047 ∧ ∀ c, 2047 < c → ¬ fits hole 1 c) ∧
    (Fmm.initial.lawful ∧ Fmm.initial.runOf (.layer 0) = none ∧ (∀ b, ¬ fits .initial 1858 b) ∧
      Fmm.initial.lowTop + 1858 ≤ Fmm.initial.highBottom) ∧
    ((∀ b, ¬ fits .initial 1859 b) ∧ Fmm.initial.highBottom < Fmm.initial.lowTop + 1859) ∧
    (testing []).selfTest.isSome = true := by
  refine ⟨⟨by decide +kernel, by decide +kernel, ⟨by decide, by decide, ?_⟩, ?_⟩,
    ⟨by decide +kernel, by decide +kernel, ?_, by decide⟩, ⟨?_, by decide⟩, rfl⟩
  · intro p h1 h2
    obtain rfl : p = 2047 := by omega
    decide +kernel
  · rintro c hc ⟨h1, h2, -⟩
    omega
  · rintro b ⟨h1, h2, -⟩
    have : Fmm.initial.highBottom = 2048 := rfl
    omega
  · rintro b ⟨h1, h2, -⟩
    have : Fmm.initial.highBottom = 2048 := rfl
    omega

theorem witness_FreeReturnsPagesAndRetractsBoundaries :
    (Fmm.initial.lawful ∧ Fmm.initial.runOf (.stream .a) = none) ∧
    ((fmmOf [⟨.stream .b, 191, 1⟩] 192 2048).lawful ∧ ((fmmOf [⟨.stream .b, 191, 1⟩] 192 2048).runOf (.stream .b)).isSome = true) := by
  decide +kernel

theorem witness_FrameMemoryReportsAndCorrectedErrors :
    Running running ∧ 2048 ≤ 2048 ∧ 2047 < 2048 ∧ (fmmOf [⟨.layer 1, 2046, 1⟩] 190 2046).lawful :=
  ⟨rfl, by decide, by decide, by decide +kernel⟩

theorem witness_UncorrectableErrorIsRecordedAndHeld :
    let word : BitVec 24 := BitVec.ofNat 24 (2046 * 8192)
    let due (c : Consequence) (s : State) : State := { s with fmm := { s.fmm with pending := [c] } }
    let by_ (u : MemUnit) : Consequence := ⟨u, .scan .rearL, 1, some 3, false⟩
    let shown := due (by_ (.streamSlot .a 0)) (playing [.showing 3 1] 5)
    let gone := due (by_ (.streamSlot .a 0)) (playing [.showing 4 1] 5)
    let guided (comp : GuideComp) (holds : OutputSet) := due (by_ (.guidePlane 1)) (computing comp holds)
    let d : Drawing := ⟨.builtIn, .builtIn, 16, 8, none⟩
    let struck (played : Bool) (s : State) := due ⟨.sample 0, .chime, 0, none, played⟩ s
    -- the error found
    ((layer5.fmm.record.latched = false ∧ layer5.fmm.ownerOf (word.toNat / 8192) = .run (.layer 5)) ∧
      { layer5 with fmm := { layer5.fmm with record := ⟨true, 0, .reserve, .guide, false⟩ } }.fmm.record.latched = true ∧
      running.fmm.ownerOf (word.toNat / 8192) = .free ∧
      (113 < 114 ∧ (2 : Fin 3).1 = 113 / 38) ∧ (114 ≤ 114 ∧ 189 < 190 ∧ (1 : Fin 2).1 = (189 - 114) / 38) ∧
      (sampled .ready).fmm.ownerOf 2047 = .run (.sample 0) ∧ (playing [.showing 3 1] 5).fmm.ownerOf 190 = .run (.stream .a) ∧
      ((testing [2046]).selfTest = some ⟨0, [2046], false, []⟩ ∧ word.toNat / 8192 ∈ [2046] ∧ 2045 ∉ [2046])) ∧
    -- handed over at a refresh event
    ((shown.out .rearL).owner ≠ .off ∧ (∀ i, shown.lead i ≠ some .rearL) ∧
      shown.fmm.pending.filter (fun e => decide (e.reader = .scan .rearL)) = [by_ (.streamSlot .a 0)] ∧
      (shown.stream .a).ring[0]? = some (Slot.showing 3 1) ∧ (gone.stream .a).ring[0]? = some (Slot.showing 4 1)) ∧
    ((due (by_ (.layer 5)) layer5).fmm.pending.filter (fun e => decide (e.reader = .scan .rearL)) = [by_ (.layer 5)] ∧
      ∀ m, ((due (by_ (.layer 5)) layer5).layer m).flipPending = false) ∧
    (due (by_ (.capture 2)) running).fmm.pending = [by_ (.capture 2)] ∧
    ((guided .idle .none).guide.active = true ∧ ((guided .idle ⟨true, false, false⟩).guide.holds.sel 1).has .centre = true ∧
      (guided (.drawing d) .none).guide.comp = .drawing d ∧ (guided (.flipPending d false) .none).guide.comp = .flipPending d false ∧
      ((guided (.flipPending d true) .none).out .rearL).owner = .normal) ∧
    -- handed over at a sample period
    (∀ e ∈ (struck false (sampled .ready)).fmm.pending, e.reader = .chime → e.played = false) ∧
    ((struck true (sampled .ready)).fmm.pending.filter (fun e => decide (e.reader = .chime) && e.played) =
        [⟨.sample 0, .chime, 0, none, true⟩] ∧ (struck true (sampled .ready)).recv.revEff = false ∧
      (struck true ((sampled .ready).putEntry 1 (some (chime .info (.sample 0 6) 1 true 0)))).entry 1 =
        some (chime .info (.sample 0 6) 1 true 0)) := by
  intro word due by_ shown gone guided d struck
  refine ⟨?_, ⟨by decide +kernel, by intro i; cases i <;> decide +kernel, by decide +kernel⟩, ?_, rfl, ?_, ?_, ?_⟩ <;> decide +kernel

theorem witness_MemoryReadsWhatWasWritten :
    134217726 + [(1 : Byte), 2].length ≤ 134217728 ∧ (0 : Nat) + ([] : List Byte).length ≤ 134217728 := by decide

theorem witness_FieldsAreReadAsTheirByteOrderSays :
    (1 ≤ 1 ∧ fieldFits .msbFirst 63 1 = true ∧ fieldCovered .msbFirst 63 1 8 = true) ∧
    (1 ≤ 16 ∧ fieldFits .msbFirst 8 16 = true ∧ fieldCovered .msbFirst 8 16 2 = true) := by decide

theorem witness_RuleConversionRoundsTowardZeroAndClamps :
    (1 ≤ (ruleOf .reverse 1 false 1 0 0).length ∧ 1 < 2 ^ (ruleOf .reverse 1 false 1 0 0).length) ∧
    (1 ≤ (ruleOf .speed 16 true 1 0 0).length ∧ 65535 < 2 ^ (ruleOf .speed 16 true 1 0 0).length) := by decide

/-- An enabled rule for SPEED on identifier 2047, with an alive counter. -/
def speedRule : Rule :=
  { (ruleOf .speed 8 false 1 0 0) with
    enabled := true, identifier := 2047, order := .lsbFirst, timeout := 100, alive := some 12 }

/-- The machine with that rule alone, as rule 15. -/
def ruled : State := { running with recv := { running.recv with rules := running.recv.rules.put 15 speedRule } }

theorem witness_BusFrameAppliesItsRules :
    let r := ruled.rule 15
    let marked : Rule := { r with invalidPattern := some 7 }
    let counted : Rule := { r with lastAlive := some 3 }
    (ReverseSettled running ∧ ∀ n, (running.rule n).accepts false 2047 = false) ∧
    ((State.reset.startUp .power).part.phase = .starting ∧ StartUpStep.receiver ∈ (State.reset.startUp .power).steps) ∧
    (Running ruled ∧ ReverseSettled ruled ∧ ∀ m, (ruled.rule m).accepts false 2047 = decide (m = 15)) ∧
    r.covered 1 = false ∧
    (r.covered [(7 : Byte), 0].length = true ∧ r.invalidPattern ≠ some (rawField .lsbFirst 0 [(7 : Byte), 0] 8) ∧
      (r.alive = none ∨ r.aliveOf [(7 : Byte), 0] ≠ r.lastAlive)) ∧
    (marked.covered [(7 : Byte), 0].length = true ∧ marked.invalidPattern = some (rawField .lsbFirst 0 [(7 : Byte), 0] 8)) ∧
    (counted.covered [(7 : Byte), 0x30].length = true ∧ counted.invalidPattern = none ∧ counted.alive.isSome = true ∧
      counted.aliveOf [(7 : Byte), 0x30] = counted.lastAlive) ∧
    ((ruled.signal .speed).state ≠ .fresh ∧ ((ruled.putSignal .speed (sig 9 .fresh (some 0))).signal .speed).state = .fresh) := by
  refine ⟨⟨⟨?_, ?_⟩, ?_⟩, ?_, ⟨rfl, ⟨?_, ?_⟩, ?_⟩, ?_, ?_⟩ <;> decide +kernel

theorem witness_SignalsAgeToHeldAndLost :
    let steered (s : State) : State := s.putSignal .steerAngle (sig 300 .held (some 3000))
    let speed (e : Nat) (state : SignalState) : Signal := (running.putSignal .speed (sig 9 state (some e))).signal .speed
    let d (angle : Option Int) : Drawing := ⟨.builtIn, .builtIn, 16, 8, angle⟩
    -- at the timeout and one unit before it
    ((speed 1000 .fresh).state = .fresh ∧ (speed 1000 .fresh).timer = some 1000 ∧ (speed 1000 .fresh).timeout * 10 ≤ 1000 ∧
      (speed 999 .fresh).timer = some 999 ∧ 999 < (speed 999 .fresh).timeout * 10) ∧
    ((speed 3000 .held).state = .held ∧ (speed 3000 .held).timer = some 3000 ∧ 3 * (speed 3000 .held).timeout * 10 ≤ 3000 ∧
      (speed 2999 .held).timer = some 2999 ∧ 2999 < 3 * (speed 2999 .held).timeout * 10) ∧
    (running.signal .speed).state ≠ .fresh ∧ (running.signal .speed).state ≠ .held ∧
    (ReverseSettled (steered running) ∧ ((steered running).signal .steerAngle).state = .held ∧ running.guide.active = false ∧
      ((steered running).signal .steerAngle).timer = some 3000 ∧ 3 * ((steered running).signal .steerAngle).timeout * 10 ≤ 3000) ∧
    (ReverseSettled (steered (computing .idle .none)) ∧ (steered (computing .idle .none)).guide.active = true ∧
      ((computing .idle ⟨true, false, false⟩).guide.holds.sel 1).has .centre = true ∧
      (computing .waiting .none).guide.comp = .waiting ∧ (computing (.drawing (d (some 5))) .none).guide.comp = .drawing (d (some 5)) ∧
      (computing (.flipPending (d none) true) .none).guide.comp = .flipPending (d none) true) := by
  refine ⟨by decide +kernel, by decide +kernel, by decide, by decide, ⟨⟨by decide +kernel, by decide +kernel⟩, ?_⟩,
    ⟨by decide +kernel, by decide +kernel⟩, ?_⟩ <;> decide +kernel

/-- The machine with the debounce timer running. -/
def debouncing (source : ReverseSource) (raw line rev : Bool) (elapsed : Nat) : State :=
  { running with recv := { running.recv with
    rawLine := raw, line, debounce := some elapsed, revEff := rev, source } }

theorem witness_ReverseLineAndSource :
    -- at the debounce time, one unit before it, and with the timer stopped
    ((debouncing .line true false false 500).recv.debounce = some 500 ∧
      (debouncing .line true false false 500).recv.debounceTime * 10 ≤ 500) ∧
    ((debouncing .line true false false 499).recv.debounce = some 499 ∧
      499 < (debouncing .line true false false 499).recv.debounceTime * 10) ∧ running.recv.debounce = none ∧
    Running running ∧ Running (debouncing .line true false false 500) := by
  refine ⟨?_, ?_, rfl, rfl, rfl⟩ <;> decide +kernel

/-- A SET RULE body with every check at its boundary. -/
def ruleBody (number target : Nat) (timeout : Nat) : SetRule :=
  ⟨number, true, false, 2047, target, 48, 16, .legal .lsbFirst, false, 1, 15, 0, timeout, none, none⟩

theorem witness_RulesAreSetAndCleared :
    Running running ∧ Running ruled ∧
    (16 ≤ (ruleBody 16 2 100).number ∧ 7 ≤ (ruleBody 0 7 100).target ∧ 64 ≤ ({ (ruleBody 0 2 100) with startBit := 64 } : SetRule).startBit ∧
      16 < ({ (ruleBody 0 2 100) with length := 17 } : SetRule).length) ∧
    SetRule.legal (ruleBody 15 6 20) = some (15, .distOuterR, .lsbFirst) ∧
    (SetRule.legal (ruleBody 0 2 2001) = some (0, .speed, .lsbFirst) ∧
      ∃ m : Fin 16, m ≠ 0 ∧ (ruled.rule m).enabled = true ∧ (ruled.rule m).target = .speed) ∧
    (SetRule.legal (ruleBody 15 2 19) = some (15, .speed, .lsbFirst) ∧
      ∀ m : Fin 16, m ≠ 15 → (ruled.rule m).enabled = true → (ruled.rule m).target ≠ .speed) ∧
    16 ≤ 16 ∧ (15 : Fin 16).1 = 15 :=
  ⟨rfl, rfl, by decide, by decide +kernel, by decide +kernel, by decide +kernel, by decide, rfl⟩

/-- An OPEN STREAM body. -/
def openBody (width height slots : Nat) : OpenStream := ⟨0, width, height, .legal .yuv422, slots⟩

theorem witness_OpenStreamTakesARingOrRefuses :
    Running running ∧ Running (testing []) ∧
    (∀ p, ¬ ((openBody 15 16 2).stream < 2 ∧ (openBody 15 16 2).format = .legal p ∧ 16 ≤ (openBody 15 16 2).width)) ∧
    ((openBody 1280 720 9).stream < 2 ∧ (openBody 1280 720 9).format = .legal .yuv422 ∧ 16 ≤ (openBody 1280 720 9).width ∧
      (openBody 1280 720 9).width ≤ 1280 ∧ 16 ≤ (openBody 1280 720 9).height ∧ (openBody 1280 720 9).height ≤ 720 ∧
      (openBody 1280 720 9).width % 2 = 0 ∧ (streamNo .a).1 = (openBody 1280 720 9).stream) ∧
    ((playing [] 0).stream .a).state ≠ .closed ∧
    ((running.stream .a).state = .closed ∧ running.fmm.runOf (.stream .a) = none ∧ running.selfTest = none ∧
      (running.fmm.placeLow (.stream .a) 232).isSome = true) ∧
    ((testing []).stream .a).state = .closed ∧ (testing []).selfTest.isSome = true ∧
    ((running.stream .a).state = .closed ∧ (fmmOf [] 190 421).placeLow (.stream .a) 232 = none) := by
  refine ⟨rfl, rfl, ?_, ?_⟩
  · rintro p ⟨-, -, h⟩
    exact absurd h (by decide)
  · decide +kernel

theorem witness_CloseStreamFreesTheRing :
    Running running ∧ Running (playing [.showing 3 1] 5) ∧ 2 ≤ 2 ∧ (running.stream .b).state = .closed ∧
    (((playing [.showing 3 1] 5).stream .a).state ≠ .closed ∧
      (((playing [.filling ⟨1, 1, false, false, false⟩ 0] 5).putVin .a (.picture 0 false)).vin .a = .picture 0 false)) ∧
    ((after (.refreshEvent .centre) running).out .centre).frame.isSome = true ∧ (running.out .centre).frame = none :=
  ⟨rfl, rfl, by decide +kernel⟩

theorem witness_StreamRequestsSetClockAndState :
    Running running ∧ 2 ≤ 2 ∧ Running (running.putStream .a (film .priming [.empty .none] 5)) ∧
    ((running.putStream .a (film .priming [.empty .none] 5)).stream .a).state = .priming ∧
    ((running.putStream .a (film .paused [.empty .none] 5)).stream .a).state = .paused ∧
    ((playing [.ready 1 1] 0).stream .a).state = .running ∧
    ((running.putStream .a (film .starved [.empty .none] 5)).stream .a).state = .starved ∧
    (running.stream .a).state = .closed := ⟨rfl, by decide, rfl, by decide +kernel⟩

theorem witness_PaceChoiceShowsTheNewestDueFrame :
    let ring : List Slot := [.ready 1400 3, .showing 1000 2, .ready 900 1]
    (ring.filterMap Slot.readyStamp).Nodup ∧
    (1400 ∈ (ring.filterMap Slot.readyStamp).filter (fun v => decide (1400 ≤ v + 0) && decide (v ≤ 1400 + 0)) ∧
      ∀ w ∈ (ring.filterMap Slot.readyStamp).filter (fun v => decide (1400 ≤ v + 0) && decide (v ≤ 1400 + 0)), w ≤ 1400) ∧
    (ring.filterMap Slot.readyStamp).filter (fun v => decide (1000 ≤ v + 0) && decide (v ≤ 1000 + 0)) = [] := by decide +kernel

theorem witness_PaceTimerPacesStreamsWithoutALead :
    let led (state : StreamState) (rate : Nat) : State :=
      State.putStream ((playing [.ready 5000 1] 0).putOut .rearL { (running.out .rearL) with
        source := some .a, hostTiming := ⟨1280, 800, rate⟩ }) .a (film state [.showing 3 1, .ready 83 2] 3)
    State.reset.pacer.paceTimer = false ∧
    ((playing [.showing 4200 10] 6201).pacer.paceTimer = true ∧ ((playing [.showing 4200 10] 6201).stream .a).state = .running ∧
      (playing [.showing 4200 10] 6201).lead .a = none ∧ ((playing [.showing 4200 10] 6201).stream .b).state ≠ .running ∧
      (choose 6201 166 400 .none 2 ⟨[.showing 4200 10], 0, 0, false⟩).starved = true ∧
      ((playing [.showing 4200 10] 6201).stream .a).endMark = false ∧
      showingSlot (choose 6201 166 400 .none 2 ⟨[.showing 4200 10], 0, 0, false⟩).ring = some (0, 4200) ∧ 4200 + 2000 < 6201) ∧
    ((led .running 60).lead .a).isSome = true ∧
    (((led .running 60).out .rearL).owner ≠ .off ∧ (∀ c ∈ (led .running 60).fmm.pending, c.reader ≠ .scan .rearL) ∧
      ((led .running 60).stream .a).state = .running ∧ (led .running 60).lead .a = some .rearL ∧
      ((led .running 60).out .rearL).hostTiming.refresh ≠ 50 ∧ ((led .running 50).out .rearL).hostTiming.refresh = 50 ∧
      showingSlot ((led .running 60).stream .a).ring = some (0, 3)) ∧
    (((led .paused 60).stream .a).state ≠ .running ∧ (led .running 60).lead .b ≠ some .rearL) := by decide +kernel

/-- The tag line of a picture of 16 × 16 for stream A, at stamp 400 and sequence 13. -/
def pictureTag : List Byte :=
  let b : List Byte := [0xC3, 0x5A, 1, 0, 0, 0, 0, 16, 0, 16, 0, 0, 1, 0x90, 0, 13]
  b ++ bytes16 (check b).toNat ++ List.replicate 14 0

/-- The tag line of a LAYER frame of 20 × 6 for a layer, with AUTO_PRESENT. -/
def layerTag (target : Byte) : List Byte :=
  let b : List Byte := [0xC3, 0x5A, 2, target, 4, 0, 0, 20, 0, 6, 0, 0, 0, 0, 0, 0]
  b ++ bytes16 (check b).toNat ++ List.replicate 14 0

theorem witness_PictureFramesFillAndCompleteSlots :
    let tag : FrameTag := ⟨400, 13, false, false, false⟩
    let filling (lines : Nat) (last : Option Nat) (seq : Option Nat) : State := State.putVin (State.putStream (playing [] 0) .a
      { (film .running [.ready 1 1, .filling tag lines] 0) with lastStamp := last, lastSequence := seq }) .a (.picture 1 false)
    let ended (lines : Nat) (last : Option Nat) (seq : Option Nat) : Stream := (filling lines last seq).stream .a
    (running.vin .a = .idle ∧ (∀ k short, running.vin .a ≠ .picture k short) ∧ ∀ n l auto, running.vin .a ≠ .layer n l auto) ∧
    (((playing [.empty .none] 0).putVin .a (.started true)).vin .a = .started true ∧ (running.stream .a).state = .closed ∧
      (∀ target w h auto, readTag pictureTag ≠ .layer target w h auto) ∧ readTag (pictureTag.set 17 0) = .bad ∧
      ¬ (0 = (streamNo .a).1 ∧ 16 = ({ (film .running [] 0) with width := 18 } : Stream).width ∧ 16 = (film .running [] 0).height)) ∧
    (((playing [.empty .none, .ready 1 1] 0).putVin .a (.started false)).vin .a = .started false ∧
      readTag pictureTag = .picture (streamNo .a).1 ((playing [.empty .none, .ready 1 1] 0).stream .a).width
        ((playing [.empty .none, .ready 1 1] 0).stream .a).height tag ∧
      ((playing [.empty .none, .ready 1 1] 0).stream .a).state ≠ .closed ∧
      (1 < ((playing [.empty .none, .ready 1 1] 0).stream .a).ring.length ∧
        ((playing [.empty .none, .ready 1 1] 0).stream .a).ring[(0 + 1 + 1) % 2]? = some (.empty .none) ∧
        ∀ e, e < 1 → ((playing [.empty .none, .ready 1 1] 0).stream .a).ring[(0 + 1 + e) % 2]? ≠ some (.empty .none)) ∧
      (∀ d, d < 2 → ((playing [.ready 2 2, .ready 1 1] 0).stream .a).ring[(0 + 1 + d) % 2]? ≠ some (.empty .none))) ∧
    ((filling 15 none none).vin .a = .picture 1 false ∧ (ended 15 none none).ring[1]? = some (.filling tag 15) ∧
      ((playing [.empty .none, .empty .none] 0).fmm.runOf (.stream .a)) = some ⟨.stream .a, 190, 2⟩ ∧
      15 < (ended 15 none none).height ∧ (190 + 1 * ((16 * 16 * 2 + 65535) / 65536)) * 65536 + 15 * (16 * 2) + 32 ≤ 134217728) ∧
    ((ended 16 (some 399) (some 12)).height ≤ 16 ∧ (∀ v, some 399 = some v → v < tag.stamp) ∧
      tag.sequence = (12 + 1) % 65536) ∧
    (¬ ∀ v, some 400 = some v → v < tag.stamp) ∧ (tag.discontinuity = false ∧ tag.sequence ≠ (11 + 1) % 65536) := by
  refine ⟨⟨rfl, nofun, nofun⟩, ⟨rfl, rfl, ?_, by decide +kernel, by decide⟩, by decide +kernel, by decide +kernel,
    ⟨by decide +kernel, ?_, by decide⟩, ?_, by decide⟩
  · have h : readTag pictureTag = .picture 0 16 16 ⟨400, 13, false, false, false⟩ := by decide +kernel
    rw [h]
    exact nofun
  · rintro v ⟨⟩
    decide
  · intro h
    exact absurd (h 400 rfl) (by decide)

theorem witness_LayerFramesLoadTheirPlane :
    let started := layer5.putVin .b (.started true)
    let loading (lines : Nat) : State := State.putVin (layer5.putLayer 5 { (layer5.layer 5) with vinLoad := some .a }) .a (.layer 5 lines true)
    let torn : Layer := { (layer5.layer 5) with state := .damaged, damaged := ⟨#[true, true], rfl⟩, mark := 480 }
    (started.vin .b = .started true ∧ readTag (layerTag 24) = .layer 24 20 6 true ∧ 24 ≤ 24) ∧
    (readTag (layerTag 5) = .layer 5 20 6 true ∧ (5 : Fin 24).1 = 5 ∧ (started.layer 5).state ≠ .unused ∧
      (started.layer 5).width = 20 ∧ (started.layer 5).height = 6 ∧ (started.layer 5).flipPending = false ∧
      (started.layer 5).vinLoad = none) ∧
    (readTag (layerTag 23) = .layer 23 20 6 true ∧ (started.layer 23).state = .unused) ∧
    ((loading 5).vin .a = .layer 5 5 true ∧ (loading 5).fmm.runOf (.layer 5) = some ⟨.layer 5, 2046, 2⟩ ∧
      5 < ((loading 5).layer 5).height ∧ (2046 + 1) * 65536 + 5 * 80 + 80 ≤ 134217728) ∧
    ((loading 6).vin .a = .layer 5 6 true ∧ 6 = ((loading 6).layer 5).height ∧ ((loading 6).layer 5).flipPending = false ∧
      ((loading 6).layer 5).planes = 2) ∧ 5 ≠ ((loading 5).layer 5).height ∧
    -- what a load completed repairs, with both planes damaged and with the load target alone
    (Layer.mended torn = { torn with state := .ready, damaged := ⟨#[true, false], rfl⟩, front := 1, mark := 0 } ∧
      Layer.mended { torn with state := .ready, damaged := ⟨#[false, true], rfl⟩ } =
        { torn with state := .ready, damaged := ⟨#[false, false], rfl⟩ }) := by decide +kernel

theorem witness_FilmSoundFollowsTheStreams :
    { running with pacer := { running.pacer with audio := .present } }.pacer.audio = .present ∧
    ((playing [.ready 1 1] 0).stream .a).state ≠ .closed ∧ (running.stream .a).state = .closed ∧ (running.stream .b).state = .closed ∧
    running.pacer.audio ≠ .present := by decide +kernel

/-- A CREATE LAYER body. -/
def createBody (layer width : Nat) : CreateLayer := ⟨layer, .legal .menu, true, .legal .argb8888, width, 800, 2⟩

theorem witness_CreateLayerClearsItsRun :
    Running running ∧ Running layer5 ∧ Running (testing []) ∧
    ¬ (createBody 24 1280).layer < 24 ∧ ¬ (createBody 0 1281).width ≤ 1280 ∧
    ((createBody 23 1280).layer < 24 ∧ (createBody 23 1280).kind = .legal .menu ∧ (createBody 23 1280).format = .legal .argb8888 ∧
      (createBody 23 1280).planes = 2 ∧ (createBody 23 1280).width ≤ 1280 ∧ (createBody 23 1280).height ≤ 800 ∧
      (23 : Fin 24).1 = (createBody 23 1280).layer) ∧
    (layer5.layer 5).state ≠ .unused ∧
    ((running.layer 23).state = .unused ∧ running.fmm.runOf (.layer 23) = none ∧ running.selfTest = none ∧
      running.layers.clearing = none ∧ (running.fmm.placeHigh (.layer 23) 126).isSome = true) ∧
    (fmmOf [] 1923 2048).placeHigh (.layer 23) 126 = none ∧ (testing []).selfTest.isSome = true ∧
    (clearing3.layers.clearing = some ⟨3, .menu, true, .argb1555, 4, 2, 1⟩ ∧
      clearing3.fmm.runOf (.layer 3) = some ⟨.layer 3, 2047, 1⟩)
    ∧ (clearing3.layers.clearing.isSome = true ∧ RequestsLawful clearing3) := by
  refine ⟨rfl, rfl, rfl, ?_, ?_, ?_, ?_, ?_, ?_, ?_, ?_, ?_, ⟨by decide, by simp [clearing3, inOrder], fun _ => ⟨_, .head _, rfl, rfl⟩⟩⟩ <;>
    decide +kernel

theorem witness_DeleteLayerRemovesEveryTrace :
    let card : State := State.putLayer { layer5 with layers := { layer5.layers with
      designations := layer5.layers.designations.put 0 (some 5) } } 5 { (layer5.layer 5) with kind := .card }
    let viewed := after (.refreshEvent .rearR) (card.putOut .rearR { (card.out .rearR) with owner := .camera })
    Running running ∧ Running layer5 ∧ 24 ≤ 24 ∧ (running.layer 23).state = .unused ∧ (layer5.layer 5).state ≠ .unused ∧
    ((viewed.out .rearR).frame.any fun f => match f.base with
      | .card .starting _ (some d) => decide (d.layer = 5)
      | _ => false) = true ∧
    (((after (.deleteLayer (.whole 5)) viewed).out .rearR).frame.any fun f => match f.base with
      | .card .starting _ none => true
      | _ => false) = true := ⟨rfl, rfl, by decide +kernel⟩

/-- A SET LAYER body that places a layer on CENTRE. -/
def placeBody (layer z : Nat) : SetLayer := ⟨layer, false, none, none, some (.place (-2048) 2047 z 255 true), none, none⟩

/-- Layer 5 READY, and layers 6 to 11 placed on CENTRE at a z each. -/
def crowded (count : Nat) : State :=
  ((List.finRange 24).filter fun n => decide (6 ≤ n.1 ∧ n.1 < 6 + count)).foldl (fun s n =>
    s.putLayer n { (s.layer n) with placements := (s.layer n).placements.put 0 (some ⟨0, 0, n.1 - 6, 255, true⟩) }) layer5

theorem witness_SetLayerStoresPlacements :
    Running running ∧ Running (crowded 6) ∧ 24 ≤ (placeBody 24 0).layer ∧
    ((5 : Fin 24).1 = (placeBody 5 7).layer ∧ (placeBody 5 7).undefinedBit = false ∧ (crowded 5).layer 5 = layer5.layer 5 ∧
      ((crowded 5).layer 5).state ≠ .unused) ∧
    (running.layer 5).state = .unused ∧ ¬ (8 ≤ 7) ∧ 7 ≤ 7 ∧
    (((crowded 6).layer 5).placements.sel 0 = none ∧ 6 ≤ (crowded 6).placedOn .centre) ∧
    (((crowded 5).layer 5).placements.sel 0 = none ∧ (crowded 5).placedOn .centre < 6 ∧
      ((crowded 5).layer 10).placements.sel 0 = some ⟨0, 0, 4, 255, true⟩ ∧
      ∀ m : Fin 24, m ≠ 5 → ((crowded 5).layer m).placements.sel 0 ≠ some ⟨0, 0, 7, 255, true⟩) ∧
    (∀ m : Fin 24, ((crowded 5).layer m).flipPending = false) ∧
    (let shown := layer5.putLayer 5 { (layer5.layer 5) with
        flipPending := true, placements := ⟨#[some ⟨0, 0, 1, 255, true⟩, none, none], rfl⟩ }
     let hidden := shown.putLayer 5 { (shown.layer 5) with placements := Table.fill 3 none };
     (hidden.layer 5).flipPending = true ∧ shown.onView 5 = true ∧ hidden.onView 5 = false ∧
       ((after (.setLayer (.whole ⟨5, false, none, none, some .remove, none, none⟩)) shown).layer 5).front = 1) :=
  ⟨rfl, rfl, by decide +kernel⟩

theorem witness_LoadBlockWritesTheLoadTarget :
    Running running ∧ Running layer5 ∧ 24 ≤ 24 ∧ ([] : List Byte) = [] ∧ (running.layer 5).state = .unused ∧
    ((layer5.layer 5).state ≠ .unused ∧ (480 : Nat) < (480 : BitVec 32).toNat + 1) ∧
    ((layer5.layer 5).state = .ready ∧ (479 : BitVec 32).toNat + 1 ≤ 480 ∧ (layer5.layer 5).flipPending = false ∧
      (layer5.layer 5).vinLoad = none ∧ layer5.fmm.runOf (.layer 5) = some ⟨.layer 5, 2046, 2⟩ ∧
      (2046 + 1) * 65536 + 479 + 1 ≤ 134217728 ∧ (layer5.layer 5).damaged.sel 0 = false ∧ (layer5.layer 5).damaged.sel 1 = false) ∧
    (let l : Layer := { (layer5.layer 5) with mark := 479 };
      479 ≤ l.mark ∧ l.mark < 479 + 1 ∧ (l.mark < 480 ∧ 479 + 1 = 480)) ∧
    ((layer5.putLayer 5 { (layer5.layer 5) with flipPending := true }).layer 5).flipPending = true := ⟨rfl, rfl, by decide +kernel⟩

theorem witness_PresentAndCardDesignation :
    let shown := layer5.putLayer 5 { (layer5.layer 5) with placements := ⟨#[none, none, some ⟨0, 0, 7, 255, true⟩], rfl⟩ }
    let card := layer5.putLayer 23 { (layer5.layer 5) with kind := .card }
    Running running ∧ Running layer5 ∧ 24 ≤ 24 ∧ (running.layer 23).state = .unused ∧
    ((layer5.layer 5).state ≠ .unused ∧ (layer5.layer 5).planes = 2 ∧ (layer5.layer 5).flipPending = false ∧
      (layer5.layer 5).vinLoad = none ∧ layer5.onView 5 = false ∧ (layer5.layer 5).damaged.sel 0 = false) ∧
    shown.onView 5 = true ∧ ((layer5.layer 5).kind = .menu) ∧
    ((card.layer 23).state ≠ .unused ∧ (card.layer 23).kind = .card ∧ ∀ m : Fin 24, (card.layer m).flipPending = false) ∧
    (let waits := shown.putLayer 5 { (shown.layer 5) with flipPending := true };
      (waits.out .rearR).owner ≠ .off ∧ (∀ c ∈ waits.fmm.pending, c.reader ≠ .scan .rearR) ∧ (waits.layer 5).flipPending = true ∧
        (waits.putOut .rearR { waits.out .rearR with shownCard := waits.cardOf .rearR }).onViewOn 5 .rearR = true) :=
  ⟨rfl, rfl, by decide +kernel⟩

/-- A SET OUTPUT body for an output with Enabled and a timing. -/
def outputBody (output : Nat) (enabled : Option Bool) (timing : Option Timing) : SetOutput :=
  ⟨output, false, enabled, timing, none, none, none⟩

/-- The machine with an output's owner. -/
def owned (o : Output) (owner : OwnerState) (reason : CameraReason) : State :=
  running.putOut o { (running.out o) with
    owner, reason, enabled := decide (owner ≠ .off), linger := if owner = .linger then some 29999 else none }

theorem witness_SetOutputStoresTheComposition :
    Running running ∧ Running (owned .centre .off .reverse) ∧ 3 ≤ (outputBody 3 none none).output ∧
    (outputNo .rearR).1 = (outputBody 2 none none).output ∧
    ¬ ((⟨320, 240, 61⟩ : Timing).refresh = 50 ∨ (⟨320, 240, 61⟩ : Timing).refresh = 60) ∧
    ((outputBody 2 none (some ⟨320, 800, 50⟩)).undefinedBit = false ∧ (outputBody 2 none (some ⟨320, 800, 50⟩)).source ≠ some .undefined) ∧
    ((owned .rearR .camera .request).out .rearR).owner = .camera ∧ ((owned .rearR .linger .request).out .rearR).owner = .linger ∧
    (((owned .rearR .off .request).out .rearR).owner = .off ∧ (outputBody 2 (some true) none).enabled = some true) ∧
    ((running.out .rearR).owner = .normal ∧ (outputBody 2 (some false) none).enabled = some false) ∧
    (let viewed : State := (computing (.flipPending ⟨.builtIn, .builtIn, 16, 8, none⟩ false) .none).putOut .rearL
        { (running.out .rearL) with owner := .camera }
     let s : State := { viewed with
       comp := { viewed.comp with demand := true }, cam := { viewed.cam with status := .live } };
     CameraFollows s ∧ s.guide.comp = .flipPending ⟨.builtIn, .builtIn, 16, 8, none⟩ false ∧ (s.out .centre).owner = .normal) := by
  refine ⟨rfl, rfl, ?_, ?_, ?_, ?_, ?_, ?_, ?_, ?_, ⟨by decide +kernel, by decide +kernel, rfl, by decide +kernel⟩, rfl, rfl⟩ <;>
    decide +kernel

theorem witness_CameraViewsAreShownAndReleased :
    let all : OutputSet := ⟨true, true, true⟩
    Running running ∧ Running (owned .centre .off .reverse) ∧ Running (owned .rearR .linger .reverse) ∧
    (OutputSet.none.has .centre = false ∧ OutputSet.none.has .rearL = false ∧ OutputSet.none.has .rearR = false) ∧
    (all.has .centre = true ∧ ((owned .centre .off .reverse).out .centre).owner = .off) ∧
    (all.has .centre = true ∧ (running.out .centre).owner = .normal ∧ (running.out .rearL).owner ≠ .off ∧
      (running.out .rearR).owner ≠ .off) ∧
    (((owned .rearR .camera .request).out .rearR).owner = .camera ∧ ((owned .rearR .camera .request).out .rearR).reason = .request) ∧
    (((owned .centre .camera .reverse).out .centre).owner = .camera ∧ ((owned .centre .camera .reverse).out .centre).reason = .reverse) ∧
    (let s := owned .rearR .linger .reverse;
      (s.out .rearR).owner = .linger ∧ (s.out .rearR).linger = some 29999 ∧ 29999 < s.comp.policy.lingerTime * 10 ∧
        ((s.putOut .rearR { (s.out .rearR) with linger := some 30000 }).out .rearR).owner = .linger ∧
        ((s.putOut .rearR { (s.out .rearR) with linger := some 30000 }).out .rearR).linger = some 30000 ∧
        s.comp.policy.lingerTime * 10 ≤ 30000) ∧ (running.out .rearR).owner ≠ .linger ∧
    (let live : State := { running with cam := { running.cam with status := .live }, guide := { running.guide with
        valid := true, camStatus := .live } };
      live.comp.demand = false ∧ live.cam.status = .live ∧ (live.out .rearL).owner = .normal ∧
        (live.guide.active = false ∧ ({ live.guide with demand := true } : Guide).active = true)) :=
  ⟨rfl, rfl, rfl, by decide +kernel⟩

/-- A SET VIEW POLICY body. -/
def policyBody (lingerTime lingerSpeed filmSpeedLimit : Option Nat) : SetViewPolicy :=
  ⟨false, lingerTime, lingerSpeed, filmSpeedLimit, none, none, none⟩

theorem witness_ViewPolicyTakesEffect :
    let speedAt (v : Int) (x : SignalState) : Signal := (running.putSignal .speed (sig v x (some 0))).signal .speed
    Running running ∧ Running (owned .rearR .linger .reverse) ∧
    ({ policyBody none none none with undefinedBit := true } : SetViewPolicy).undefinedBit = true ∧
    (policyBody (some 3000) none none).undefinedBit = false ∧
    (((owned .rearR .linger .reverse).out .rearR).owner = .linger ∧ ((owned .rearR .linger .reverse).out .rearR).linger = some 29999 ∧
      2999 * 10 ≤ 29999 ∧ 29999 < 3000 * 10) ∧
    (400 ≠ running.comp.policy.filmSpeedLimit ∧ (running.signal .speed).state = .none ∧ (400 : Int) ≤ (speedAt 400 .fresh).value ∧
      (speedAt 349 .fresh).value < (400 : Int) - 50 ∧ ((speedAt 350 .held).value < 400 ∧ (400 : Int) - 50 ≤ (speedAt 350 .held).value)) ∧
    (900 ≠ running.comp.policy.lingerSpeed ∧ (speedAt 900 .fresh).state = .fresh ∧ (900 : Int) ≤ (speedAt 900 .fresh).value) :=
  ⟨rfl, rfl, by decide +kernel⟩

theorem witness_ReverseTakesAndGivesBackTheViews :
    let rise := debouncing .line true false false 500
    let fall := debouncing .line false true true 500
    let ruledOn (source : ReverseSource) (rev : Bool) : State := { ruled with recv := { ruled.recv with
      rules := ruled.recv.rules.put 15 { speedRule with target := .reverse }, source, revEff := rev } }
    let lost (value : Int) (source : ReverseSource) : State := State.putSignal
      { running with recv := { running.recv with source, revEff := true } } .reverse (sig value .held (some 3000))
    (Running rise ∧ rise.recv.debounce = some 500 ∧ rise.recv.debounceTime * 10 ≤ 500 ∧ rise.recv.source = .line ∧ rise.recv.rawLine = true ∧
      rise.recv.revEff = false ∧ (rise.out .centre).owner = .normal ∧ (rise.out .rearL).mirror = false) ∧
    (Running fall ∧ fall.recv.debounce = some 500 ∧ fall.recv.debounceTime * 10 ≤ 500 ∧ fall.recv.source = .line ∧ fall.recv.rawLine = false ∧
      fall.recv.revEff = true) ∧
    (Running (lost 0 .bus) ∧ ((lost 0 .bus).signal .reverse).state = .held ∧
      ((lost 0 .bus).signal .reverse).timer = some 3000 ∧ 3 * ((lost 0 .bus).signal .reverse).timeout * 10 ≤ 3000 ∧ ((lost 0 .bus).signal .reverse).value ≠ 1 ∧
      (lost 0 .either).recv.line = false ∧ (lost 1 .bus).speedEnds = false) ∧
    (Running (ruledOn .bus false) ∧ (∀ m, ((ruledOn .bus false).rule m).accepts false 2047 = decide (m = 15)) ∧
      ((ruledOn .bus false).rule 15).target = .reverse ∧ ((ruledOn .bus false).rule 15).covered [(1 : Byte), 0].length = true ∧
      ((ruledOn .bus false).rule 15).convert (rawField .lsbFirst 0 [(1 : Byte), 0] 8) = 1 ∧
      ((ruledOn .either true).rule 15).convert (rawField .lsbFirst 0 [(0 : Byte), 0] 8) ≠ 1 ∧ (ruledOn .either true).recv.line = false) ∧
    (let viewed := fall.putOut .centre { (fall.out .centre) with owner := .camera };
      (viewed.out .centre).owner = .camera ∧ (viewed.out .centre).reason = .reverse ∧ viewed.comp.policy.lingerTime ≠ 0 ∧
        (viewed.signal .speed).state ≠ .fresh) := by
  refine ⟨⟨rfl, ?_⟩, ⟨rfl, ?_⟩, ⟨rfl, ?_⟩, ⟨rfl, ?_⟩, ?_⟩ <;> decide +kernel

theorem witness_RefreshEventFixesTheFrame :
    let filmed := State.putOut (playing [.showing 3 1] 5) .rearL { (running.out .rearL) with source := some .a }
    ((owned .centre .off .reverse).out .centre).owner = .off ∧
    ((running.out .centre).owner ≠ .off ∧ (running.out .centre).owner = .normal ∧ (running.out .centre).source = none) ∧
    ((filmed.out .rearL).owner = .normal ∧ (filmed.out .rearL).source = some .a ∧
      showingSlot ((after (.refreshEvent .rearL) filmed).stream .a).ring = some (0, 3) ∧
      ((after (.refreshEvent .rearL) filmed).fmm.runOf (.stream .a)).isSome = true) ∧
    (((owned .centre .camera .reverse).out .centre).owner = .camera ∧ (owned .centre .camera .reverse).cam.status = .off) ∧
    { (owned .centre .linger .reverse) with cam := { running.cam with status := .live } }.cam.status = .live ∧
    (running.comp.suppression = true) ∧
    ((State.reset.out .rearR).frame = none ∧ ((after (.refreshEvent .rearL) filmed).out .rearL).frame.isSome = true ∧
      -- at the last pixel of the frame, and past it
      ((after (.refreshEvent .rearL) filmed).pixel .rearL 1279 799).isSome = true ∧
      (after (.refreshEvent .rearL) filmed).pixel .rearL 1280 0 = none) := by decide +kernel

/-- A SET CAMERA body. -/
def cameraBody (format : Option CameraFormat) (frameTimeout wakeTimeout : Option Nat) (keepWarm : Option Bool) : SetCamera :=
  ⟨false, format, frameTimeout, wakeTimeout, none, keepWarm⟩

/-- The machine with a camera status, a frame timer and demand. -/
def seeing (status : CameraStatus) (timer : Option Nat) (demand : Bool) : State :=
  { running with cam := { running.cam with status, timer }, comp := { running.comp with demand } }

theorem witness_SetCameraChecksStoresAndActs :
    Running running ∧ Running (seeing .live (some 5000) true) ∧
    (({ cameraBody none none none none with undefinedBit := true } : SetCamera).undefinedBit = true) ∧
    (((cameraBody (some ⟨1280, 960, .legal .yuv422⟩) none none none).undefinedBit = false) ∧
      (∀ x, some (⟨1280, 960, .legal .yuv422⟩ : CameraFormat) = some x → x.format = .legal .yuv422 ∧ 320 ≤ x.width ∧ x.width ≤ 1280 ∧
        x.width % 2 = 0 ∧ 240 ≤ x.height ∧ x.height ≤ 960) ∧
      (seeing .live (some 5000) true).cam.status ≠ .off ∧ running.cam.status = .off ∧ running.comp.demand = false ∧
      running.cam.settings.keepWarm = false) ∧
    ((cameraBody none none none (some true)).keepWarm.getD false = true) ∧
    ((seeing .live (some 5000) true).cam.timer = some 5000 ∧ max 40 (min 500 500) * 10 ≤ 5000 ∧ (seeing .live (some 5000) true).comp.demand = true) ∧
    ((seeing .waking (some 999) true).cam.timer = some 999 ∧ ¬ (max 100 (min 2000 99) * 10 ≤ 999)) ∧
    ((seeing .live (some 0) false).cam.status ≠ .off ∧ (seeing .live (some 0) false).comp.demand = false) := by
  refine ⟨rfl, rfl, rfl, ⟨rfl, ?_, by decide +kernel⟩, by decide +kernel⟩
  rintro x ⟨⟩
  decide

theorem witness_CameraFramesAreCapturedAndJudged :
    let live : State := seeing .live (some 0) true
    let stored (slots : Table CaptureSlot 3) (order : List (Fin 3)) (last : Fin 3) : State :=
      { live with cam := { live.cam with slots, order, lastWritten := last } }
    let held : CaptureSlot := ⟨.complete, ⟨true, false, false⟩⟩
    let full := stored ⟨#[held, ⟨.complete, .none⟩, ⟨.complete, .none⟩], rfl⟩ [0, 1, 2] 2
    let stuck := stored ⟨#[held, held, ⟨.complete, .none⟩], rfl⟩ [0, 1, 2] 2
    let next := stored ⟨#[⟨.empty, .none⟩, ⟨.empty, .none⟩, ⟨.complete, .none⟩], rfl⟩ [2] 2
    let line (n : Nat) : State := { live with cam := { live.cam with rx := some ⟨some 2, n, true, 0xFFFF⟩ } }
    running.cam.status = .off ∧ running.cam.rx = none ∧ (live.cam.status ≠ .off ∧ live.cam.rx = none) ∧
    (live.cam.newest ≠ some live.cam.lastWritten ∧ (live.cam.slots.sel live.cam.lastWritten).holds = .none ∧
      (live.cam.slots.sel live.cam.lastWritten).state = .empty) ∧
    ((next.cam.slots.sel next.cam.lastWritten).state ≠ .empty ∧ next.cam.newest ≠ some 0 ∧ (next.cam.slots.sel 0).state = .empty ∧
      (next.cam.slots.sel 0).holds = .none) ∧
    ((∀ j, (full.cam.slots.sel j).state ≠ .empty) ∧ full.cam.order = [0] ++ 1 :: [2] ∧ (full.cam.slots.sel 0).holds.has .centre = true ∧
      full.cam.newest ≠ some 1 ∧ (full.cam.slots.sel 1).holds = .none ∧ (full.cam.slots.sel 1).state = .complete) ∧
    ((∀ j, (stuck.cam.slots.sel j).state ≠ .empty) ∧ ∀ j ∈ stuck.cam.order, stuck.cam.newest = some j ∨ (stuck.cam.slots.sel j).holds.has .centre = true) ∧
    ((line 25).cam.rx = some ⟨some 2, 25, true, 0xFFFF⟩ ∧ 25 < live.cam.settings.height ∧
      (2 * 0 + 1) * live.cam.settings.height / 32 = 25 ∧ (∀ j, j < 16 → (2 * j + 1) * live.cam.settings.height / 32 ≠ 24) ∧
      2 * 38 * 65536 + 25 * (2 * live.cam.settings.width) + 2 * live.cam.settings.width ≤ 134217728) ∧
    ((received .lost { live.cam with recovery := 2 } 5).cam.rx = some ⟨none, 800, true, 5⟩ ∧ live.cam.settings.height = 800 ∧
      (received .lost { live.cam with recovery := 2 } 5).cam.status ≠ .off) ∧
    (let s : State := { received .lost { live.cam with recovery := 2 } 5 with
        guide := { live.guide with valid := true, demand := true, camStatus := .lost } }
     (after .cameraFrameEnd s).cam.status ≠ s.cam.status ∧ s.guide.active = false ∧
       ({ s.guide with camStatus := .live } : Guide).active = true) ∧
    ((line 25).cam.status ≠ .off ∧ (line 25).cam.rx.isSome = true) ∧
    ((line 800).cam.rx = some ⟨some 2, 800, true, 0xFFFF⟩ ∧ live.cam.settings.height ≤ 800) := by decide +kernel

theorem witness_CameraTimeoutsLoseTheCamera :
    -- at the timeout and one unit before it
    (Instr.wakeTimeout = .wakeTimeout ∧ (seeing .waking (some 8000) true).cam.timer = some 8000 ∧
      (seeing .waking (some 8000) true).cam.status = .waking ∧ running.cam.settings.wakeTimeout * 10 ≤ 8000 ∧
      7999 < running.cam.settings.wakeTimeout * 10) ∧
    (Instr.frameTimeout = .frameTimeout ∧ (seeing .frozen (some 2000) true).cam.timer = some 2000 ∧
      (seeing .frozen (some 2000) true).cam.status = .frozen ∧ running.cam.settings.frameTimeout * 10 ≤ 2000 ∧
      1999 < running.cam.settings.frameTimeout * 10) ∧
    ((computing .idle .none).guide.active = true ∧ running.guide.active = false) ∧
    ((seeing .lost (some 2000) true).cam.status = .lost ∧ (seeing .lost (some 2000) true).cam.timer = some 2000) ∧
    running.cam.status ≠ .waking ∧ running.cam.status = .off := by decide +kernel

/-- A SET GEOMETRY body from three markers and a reach. -/
def geometryBody (m1 m2 m3 reach : Nat) : SetGeometry :=
  ⟨1000, 3500, 300, 2000, reach, Table.fill 9 0, m1, m2, m3, true⟩

/-- A SET GUIDE STYLE body. -/
def styleBody (undefinedBit : Bool) : SetGuideStyle := ⟨undefinedBit, some 0x8000, none, none, none, none⟩

theorem witness_GuideRequestsAndDrawingEnd :
    let d : Drawing := ⟨.builtIn, .builtIn, 16, 8, none⟩
    let steering (g : State) (value : Int) (state : SignalState) : State := State.putSignal
      { g with recv := { g.recv with rules := g.recv.rules.put 15 { speedRule with target := .steerAngle } } } .steerAngle
      (sig value state (some 0))
    let at_ (anyView : Bool) : State := computing (.flipPending d anyView) .none
    Running running ∧ Running (computing .idle .none) ∧ Running (computing (.drawing d) .none) ∧
    ((geometryBody 0 1 999 1000).marker1 < (geometryBody 0 1 999 1000).marker2 ∧
      (geometryBody 0 1 999 1000).marker2 < (geometryBody 0 1 999 1000).marker3 ∧
      (geometryBody 0 1 999 1000).marker3 < max 1000 (min 5000 (geometryBody 0 1 999 1000).reach)) ∧
    ¬ ((geometryBody 0 1 1000 999).marker3 < max 1000 (min 5000 (geometryBody 0 1 1000 999).reach)) ∧
    ((styleBody false).undefinedBit = false ∧ (styleBody true).undefinedBit = true) ∧
    -- the states that a request for a recompute tells apart
    (running.guide.active = false ∧ (computing .waiting .none).guide.comp = .waiting ∧
      (computing (.drawing d) .none).guide.comp = .drawing d ∧ (at_ false).guide.comp = .flipPending d false ∧
      (computing .idle .none).guide.active = true ∧
      ((computing .idle ⟨true, false, false⟩).guide.holds.sel (1 - (computing .idle .none).guide.front)).has .centre = true) ∧
    -- a frame of STEER_ANGLE: FRESH and inside the deadband, and not
    (ReverseSettled (steering (computing .idle .none) 0 .fresh) ∧ Running (steering (computing .idle .none) 0 .fresh) ∧
      (∀ m, ((steering (computing .idle .none) 0 .fresh).rule m).accepts false 2047 = decide (m = 15)) ∧
      ((steering (computing .idle .none) 0 .fresh).rule 15).target = .steerAngle ∧
      ((steering (computing .idle .none) 0 .fresh).rule 15).covered [(7 : Byte), 0].length = true ∧
      ((steering (computing .idle .none) 0 .held).signal .steerAngle).state ≠ .fresh) ∧
    (running.guide.comp = .idle ∧ d.width * d.height * 2 ≤ 38 * 65536) ∧
    (let c : Consequence := ⟨.guidePlane 1, .guide, 0, none, false⟩
     let s := { computing (.drawing d) .none with fmm := { running.fmm with pending := [c] } };
      c ∈ s.fmm.pending ∧ c.reader = .guide ∧ c.unit = .guidePlane (1 - s.guide.front)) ∧
    -- a refresh event with a flip pending
    (((at_ false).out .centre).owner ≠ .off ∧ (at_ false).fmm.pending = [] ∧ ((at_ true).out .rearL).owner = .normal ∧
      (((at_ true).putOut .rearL { (running.out .rearL) with owner := .linger }).out .rearL).owner = .linger) := by
  refine ⟨rfl, rfl, rfl, by decide, by decide, ⟨rfl, rfl⟩, by decide +kernel, ⟨⟨?_, ?_⟩, rfl, ?_⟩, ⟨rfl, by decide⟩,
    by decide +kernel, by decide +kernel⟩ <;> decide +kernel

/-- A PLAY CHIME body. -/
def playBody (cls : ChimeClass) (x : ChimeSound) (repeats : Nat) : PlayChime := ⟨.legal cls, .legal x, repeats, 9⟩

/-- A chime in entry 7, PLAYING, beside it one in each of the first entries, of rising age. -/
def chiming (count : Nat) (cls : ChimeClass) : State :=
  ((List.finRange 8).filter fun i => decide (i.1 < count)).foldl
    (fun s i => s.putEntry i (some (chime cls (.tone (100 + i.1) 60 0 6) 1 false (i.1 + 1))))
    (running.putEntry 7 (some (chime .warning (.tone 60 60 460 6) 1 true 0)))

theorem witness_ChimesAreAdmittedAndCancelled :
    Running running ∧ Running (sampled .loading) ∧ Running (chiming 7 .info) ∧
    ((playBody .info (.sample 16 6) 0).sound = .legal (.sample 16 6) ∧ (playBody .info (.tone 6 10 0 63) 15).cls = .legal .info) ∧
    (((sampled .damaged).sample 0).state = .damaged ∧ ((sampled .loading).sample 0).state = .loading ∧
      ((sampled .ready).sample 0).state = .ready ∧ (running.sample 15).state = .undefined) ∧
    (((chiming 0 .info).entry 7) = some (chime .warning (.tone 60 60 460 6) 1 true 0) ∧ (chiming 0 .info).playingEntry.isSome = true ∧
      ∀ j : Fin 8, ((chiming 0 .info).entry j).isSome = true → j = 7) ∧
    ((chiming 6 .info).entry 6 = none ∧ ∀ j : Fin 8, j < 6 → (chiming 6 .info).entry j ≠ none) ∧
    (∀ j : Fin 8, running.entry j = none) ∧
    ((chiming 0 .info).playingEntry = some 7 ∧ (chime .warning (.tone 60 60 460 6) 1 true 0).preempted < 3 ∧
      (chiming 0 .info).entry 0 = none) ∧
    (let limit : ChimeEntry := { chime .warning (.tone 60 60 460 6) 1 true 0 with preempted := 3 };
      (running.putEntry 7 (some limit)).playingEntry = some 7 ∧ 3 ≤ limit.preempted ∧ limit.cls ≠ .safety ∧
        (running.putEntry 7 (some limit)).recv.revEff = false) ∧
    -- the last sample of a repetition, with and without a chime of a higher class waiting
    (let ending (k : Nat) : ChimeEntry := { chime .info (.tone 60 10 0 6) k true 0 with position := 479 }
     let alone (k : Nat) := running.putEntry 7 (some (ending k))
     let waits := (alone 2).putEntry 6 (some (chime .warning (.tone 60 60 460 6) 1 false 3));
      (alone 1).entry 7 = some (ending 1) ∧ (10 + 0) * 48 ≤ (ending 1).position + 1 ∧ (alone 1).fmm.pending = [] ∧
        (∀ j : Fin 8, j ≠ 7 → (alone 1).entry j = none) ∧ waits.entry 6 = some (chime .warning (.tone 60 60 460 6) 1 false 3) ∧
        classRank .info < classRank .warning ∧ (∀ j : Fin 8, j < 6 → waits.entry j = none)) ∧
    ((∀ j : Fin 8, (chiming 7 .info).entry j ≠ none) ∧
      (∀ j : Fin 8, ∀ e, (chiming 7 .info).entry j = some e → e.origin = .host → e.playing = false → e.cls = .info) ∧
      (chiming 7 .info).entry 0 = some (chime .info (.tone 100 60 0 6) 1 false 1) ∧
      (∀ j : Fin 8, ∀ d, (chiming 7 .info).entry j = some d → d.origin = .host → d.playing = false → j ≠ 6 →
        d.cls = .info ∧ d.age < 7) ∧
      (chiming 7 .info).recv.revEff = false) ∧
    8 ≤ (⟨8, 9⟩ : CancelChime).entry ∧ (7 : Fin 8).1 = (⟨7, 7⟩ : CancelChime).entry ∧
    ((chime .warning (.tone 60 60 460 6) 1 true 0).tag = 7 ∧ (chime .warning (.tone 60 60 460 6) 1 true 0).tag ≠ 9) := by
  refine ⟨rfl, rfl, rfl, by decide +kernel, by decide +kernel, by decide +kernel, by decide +kernel, by decide +kernel,
    by decide +kernel, by decide +kernel, by decide +kernel, ⟨by decide +kernel, ?_, by decide +kernel, ?_, by decide +kernel⟩, by decide +kernel⟩
  · have : ∀ j : Fin 8, ((chiming 7 .info).entry j).all (fun e => e.playing || decide (e.cls = .info)) = true := by decide +kernel
    intro j e he _ hp
    simpa [he, hp] using this j
  · have : ∀ j : Fin 8, j ≠ 6 → ((chiming 7 .info).entry j).all
        (fun e => e.playing || (decide (e.cls = .info) && decide (e.age < 7))) = true := by decide +kernel
    intro j e he _ hp hj
    simpa [he, hp] using this j hj

/-- The PARK entry. -/
def parkEntry : ChimeEntry := ⟨.warning, .park, .tone 24 60 180 6, 0, 0, true, 0, 0, 0, none⟩

/-- Park mode and a nearest distance while reversing. -/
def parking (mode : ParkMode) (distance : Int) (entry : Option ChimeEntry) : State :=
  let s : State := { running with recv := { running.recv with revEff := true }, chime := { running.chime with mode } }
  (s.putSignal .distOuterL (sig distance .fresh (some 0))).putEntry 0 entry

theorem witness_ParkCadenceIsDecidedAnew :
    let f : SetParkCadence := ⟨false, some 20, some 250, some 6, some 63⟩
    Running running ∧ Running (parking .beeping 249 (some parkEntry)) ∧ f.undefinedBit = false ∧
    ({ f with undefinedBit := true } : SetParkCadence).undefinedBit = true ∧ running.recv.revEff = false ∧
    ((parking .absent 250 none).recv.revEff = true ∧ (parking .absent 250 none).nearest = some 250 ∧
      (parking .absent 250 none).chime.mode = .absent ∧ max 100 (min 250 250) ≤ 250) ∧
    ((parking .absent 249 none).nearest = some 249 ∧ ((parking .absent 249 none).putEntry 7 (some (chime .warning (.tone 60 60 460 6) 1 true 0))).playingEntry.isSome = true ∧
      (parking .absent 249 none).entry 0 = none) ∧
    ((parking .continuous 20 (some parkEntry)).entry 0 = some parkEntry ∧ (parking .continuous 20 (some parkEntry)).nearest = some 20 ∧
      (parking .continuous 20 (some parkEntry)).chime.mode = .continuous ∧ parkEntry.origin = .park ∧
      (∀ j : Fin 8, j ≠ 0 → (parking .continuous 20 (some parkEntry)).entry j = none)) ∧
    (parking .beeping 250 (some parkEntry)).nearest = some 250 ∧
    -- the other events of the decision
    (let s (rev : Bool) : State := { ruled with recv := { ruled.recv with
        rules := ruled.recv.rules.put 15 { speedRule with target := .distInnerR }, line := rev, revEff := rev } };
      ReverseSettled (s true) ∧ ReverseSettled (s false) ∧ (∀ m, ((s true).rule m).accepts false 2047 = decide (m = 15)) ∧
        ((s true).rule 15).target ∈ [SignalId.distOuterL, .distInnerL, .distInnerR, .distOuterR] ∧
        ((s true).rule 15).covered [(7 : Byte), 0].length = true) ∧
    (let x (state : SignalState) (e : Nat) : Signal := (running.putSignal .distOuterL (sig 100 state (some e))).signal .distOuterL;
      (x .fresh 1000).state = .fresh ∧ (x .fresh 1000).timer = some 1000 ∧ (x .fresh 1000).timeout * 10 ≤ 1000 ∧
        (x .held 3000).state = .held ∧ (x .held 3000).timer = some 3000 ∧ 3 * (x .held 3000).timeout * 10 ≤ 3000) ∧
    (Running (debouncing .line true false false 500) ∧ (debouncing .line true false false 500).recv.debounce = some 500 ∧
      (debouncing .line true false false 500).recv.debounceTime * 10 ≤ 500 ∧
      (debouncing .line true false false 500).fmm.pending = []) := by
  refine ⟨rfl, rfl, by decide +kernel, by decide +kernel, by decide +kernel, by decide +kernel, by decide +kernel, by decide +kernel,
    by decide +kernel, ⟨⟨?_, ?_⟩, ⟨?_, ?_⟩, ?_⟩, ?_, ⟨rfl, ?_⟩⟩ <;> decide +kernel

theorem witness_SamplesAreDefinedLoadedAndFreed :
    Running running ∧ Running (sampled .loading) ∧ 16 ≤ 16 ∧ ((sampled .loading).sample 0).state ≠ .undefined ∧
    ((running.sample 15).state = .undefined ∧ running.fmm.runOf (.sample 15) = none ∧ running.selfTest = none ∧
      (running.fmm.placeHigh (.sample 15) 6).isSome = true ∧ (fmmOf [⟨.layer 0, 195, 1853⟩] 190 195).placeHigh (.sample 15) 6 = none ∧
      (testing []).selfTest.isSome = true) ∧
    ([9] ≠ ([] : List Byte) ∧ 2 * ((sampled .loading).sample 0).count < 7 + [(9 : Byte), 9].length ∧
      7 + [(9 : Byte)].length ≤ 2 * ((sampled .loading).sample 0).count ∧
      (sampled .loading).fmm.runOf (.sample 0) = some ⟨.sample 0, 2047, 1⟩ ∧ 2047 * 65536 + 7 + 1 ≤ 134217728) ∧
    ((((sampled .ready).putEntry 3 (some (chime .info (.sample 0 6) 1 false 0))).sample 0).state = .ready ∧
      ((sampled .ready).putEntry 3 (some (chime .info (.sample 0 6) 1 false 0))).entry 3 = some (chime .info (.sample 0 6) 1 false 0)) ∧
    ∀ i : Fin 8, (sampled .ready).entry i = none := ⟨rfl, rfl, by decide +kernel⟩

theorem witness_MixerSetsRampsAndMixes :
    let f : SetMix := ⟨2, false, some (.legal none), some 64, some false, some 63, some 31, none⟩
    Running running ∧ 3 ≤ ({ f with output := 3 } : SetMix).output ∧ (2 : Fin 3).1 = f.output ∧
    (f.undefinedBit = false ∧ f.film ≠ some .undefined ∧ ¬ ((2 : Fin 3) = 0 ∧ f.chimeFlag = some false)) ∧
    ((0 : Fin 3) = 0 ∧ f.chimeFlag = some false) ∧ running.fmm.pending = [] ∧ (∀ i : Fin 8, running.entry i = none) ∧
    (let c : Consequence := ⟨.sample 0, .chime, 0, none, false⟩
     let e := { chime .info (.sample 0 6) 1 true 0 with position := 2 }
     let s := (sampled .ready).putEntry 1 (some e);
      (∀ d ∈ [c], d.reader = .chime → d.played = false) ∧ s.playingEntry = some 1 ∧ s.entry 1 = some e ∧
        s.fmm.runOf (.sample 0) = some ⟨.sample 0, 2047, 1⟩ ∧ e.position + 1 < (s.sample 0).count) ∧
    (let s := running.putEntry 7 (some { (chime .info (.tone 6 10 0 0) 1 true 0) with position := 478 });
      s.playingEntry = some 7 ∧ s.entry 7 = some { (chime .info (.tone 6 10 0 0) 1 true 0) with position := 478 } ∧
        478 + 1 < (10 + 0) * 48 ∧ s.fmm.pending = []) :=
  ⟨rfl, by decide, rfl, by decide +kernel⟩

theorem witness_StoreOperationsBeginAndEnd :
    Running running ∧ Running (storing .erase) ∧ 8 ≤ 8 ∧ 2 ≤ 2 ∧ running.store.op = none ∧ (storing .erase).store.op.isSome = true ∧
    ((7 : Fin 8) ≠ 0 ∧ ∀ b ∈ (running.sector 7).bytes.take 128, b = 0xFF#8) ∧
    (let s : State := { running with store := { running.store with sectors := running.store.sectors.put 7 ⟨0 :: List.replicate 255 0xFF, false, some .valid⟩ } };
      Running s ∧ s.store.op = none ∧ (s.sector 7).bytes.take 1 = [0] ∧ (0 : Byte) ≠ 0xFF#8) ∧
    ((storing .erase).store.op = some ⟨3, .erase⟩ ∧ (storing (.write 0 [1])).store.op = some ⟨3, .write 0 [1]⟩) :=
  ⟨rfl, rfl, by decide, by decide, rfl, rfl, by decide +kernel, ⟨rfl, by decide +kernel⟩, rfl, rfl⟩

theorem witness_SelfTestRunsOverFreePages :
    Running running ∧ Running (testing [2047]) ∧ running.selfTest = none ∧
    ((testing [2047]).selfTest = some ⟨0, [2047], false, []⟩ ∧ (testing [2047]).fmm.pending = []) := ⟨rfl, rfl, rfl, rfl, rfl⟩

theorem witness_QueriesReportTheState :
    Running running ∧ 16 ≤ 16 ∧ 15 < 16 ∧ 2 ≤ 2 ∧ 24 ≤ 24 ∧ 3 ≤ 3 := ⟨rfl, by decide⟩

/-! The invariants of every step: the state after reset meets them, and a step from it, the start-up's end in front, answers a
next state. -/

/-- The state after reset with ENTER_RUNNING waiting. -/
def starting : State := { State.reset with pending := [.enterRunning] }

/-- Where the step leads. -/
def started : State := after .enterRunning State.reset

theorem witness_step : Sys2Proof.Machine.step starting = .next started ∧ started.part.phase = .running := ⟨rfl, rfl⟩

theorem witness_FrameMemoryAndPageMapStayLawful : (starting.mem.wf ∧ starting.fmm.lawful) := by decide +kernel

theorem witness_RequestsAndNoticesStayLawful : RequestsLawful starting ∧ NoticesLawful starting :=
  ⟨⟨by decide, trivial, nofun⟩, by unfold NoticesLawful; decide +kernel⟩

theorem witness_ReverseStaysSettledAndShown : ReverseSettled starting ∧ ReverseShown starting ∧ TargetsUnique starting := by
  refine ⟨?_, ?_, ?_⟩
  · unfold ReverseSettled; decide +kernel
  · unfold ReverseShown; decide +kernel
  · unfold TargetsUnique; decide +kernel

theorem witness_RingsPortsAndPlacementsStayLawful : PortsLawful starting ∧ ∀ o, starting.placementsLawful o := by
  have ring : ∀ i, RingLawful starting i := by
    intro i
    refine ⟨by cases i <;> rfl, by cases i <;> exact fun _ => rfl, by cases i <;> decide +kernel, ?_, ?_, by cases i <;> decide +kernel,
      by cases i <;> exact fun _ h => nomatch h⟩
    · cases i <;> exact fun k x h => nomatch h
    · cases i <;> exact fun k short h => nomatch h
  refine ⟨⟨ring .a, ring .b, ?_, by decide +kernel, fun c h => nomatch h⟩, fun o => by cases o <;> decide +kernel⟩
  intro n p
  have h : (starting.layer n).vinLoad = none := by revert n; decide +kernel
  rw [h]
  cases p <;> exact ⟨nofun, nofun⟩

theorem witness_ChimesAndTargetsStayLawful : ChimesLawful starting ∧ TargetsFollow starting := by
  have h : ∀ i, starting.entry i = none := by decide +kernel
  refine ⟨⟨by decide +kernel, by decide +kernel, ?_, by decide +kernel, fun _ => h, ?_⟩, by unfold TargetsFollow; decide +kernel⟩
  · intro i j e f he
    exact absurd (h i) (by simp [he])
  · intro i e he
    exact absurd (h i) (by simp [he])

theorem witness_ViewsCameraAndSuppressionStayLawful : CameraFollows starting ∧ OutputsLawful starting ∧ SuppressionCautious starting :=
  ⟨by unfold CameraFollows; decide +kernel, fun o => by cases o <;> decide +kernel, by unfold SuppressionCautious; decide +kernel⟩

end Sys2Proof.Tests
end

section
/-! PROOFS. The page map: runs that lie apart, the holes between them, and what placing and freeing a run makes of both
(R2, R3, R5, R8 to R10). -/

namespace Sys2Proof.Machine

set_option Elab.async false

open Sys2Proof

/-! ### Runs by page and by owner -/

/-- No run holds a page of the stretch of `n` pages from `b`. -/
def StretchClear (runs : List Run) (b n : Nat) : Prop := ∀ r ∈ runs, r.base + r.count ≤ b ∨ b + n ≤ r.base

/-- The runs lie apart by rising base, and each has a page. -/
def RunsApart (runs : List Run) : Prop :=
  runs.Pairwise (fun p q => p.base + p.count ≤ q.base) ∧ ∀ r ∈ runs, 0 < r.count

theorem RunsApart.tail {r : Run} {rs : List Run} (h : RunsApart (r :: rs)) : RunsApart rs :=
  ⟨(List.pairwise_cons.1 h.1).2, fun q hq => h.2 q (.tail _ hq)⟩

theorem RunsApart.filter {rs : List Run} (h : RunsApart rs) (p : Run → Bool) : RunsApart (rs.filter p) :=
  ⟨h.1.filter _, fun q hq => h.2 q (List.mem_filter.1 hq).1⟩

/-- The boundaries rise from the reserve to the end of memory (R5). -/
theorem lawful_bounds {f : Fmm} (h : f.lawful) : 190 ≤ f.lowTop ∧ f.lowTop ≤ f.highBottom ∧ f.highBottom ≤ 2048 := by
  obtain ⟨-, -, -, low, order, high, -⟩ := h
  exact ⟨low, order, high⟩

/-- Each boundary stands at its start or touches a run (R10). -/
theorem lawful_edges {f : Fmm} (h : f.lawful) :
    (f.lowTop = 190 ∨ ∃ r ∈ f.runs, r.base + r.count = f.lowTop) ∧ (f.highBottom = 2048 ∨ ∃ r ∈ f.runs, r.base = f.highBottom) := by
  obtain ⟨-, -, -, -, -, -, edges⟩ := h
  exact edges

/-- Every run has a page and lies above the reserve and within memory (R3). -/
theorem run_within {f : Fmm} (h : f.lawful) {r : Run} (hr : r ∈ f.runs) :
    0 < r.count ∧ 190 ≤ r.base ∧ r.base + r.count ≤ 2048 := by
  obtain ⟨pos, base, top, -⟩ := h.2.1 r hr
  exact ⟨pos, base, top⟩

theorem lawful_apart {f : Fmm} (h : f.lawful) : RunsApart f.runs := ⟨h.1, fun r hr => (h.2.1 r hr).1⟩

@[simp] theorem pageIn_eq_true {base count p : Nat} : pageIn base count p = true ↔ base ≤ p ∧ p < base + count := by
  simp [pageIn]

theorem pageIn_eq_false {base count p : Nat} : pageIn base count p = false ↔ ¬ (base ≤ p ∧ p < base + count) := by
  rw [← pageIn_eq_true, Bool.not_eq_true]

/-- A run in the page map lies below the low boundary or at or above the high one (R5). -/
theorem run_side {f : Fmm} (h : f.lawful) {r : Run} (hr : r ∈ f.runs) :
    r.base + r.count ≤ f.lowTop ∨ f.highBottom ≤ r.base := by
  obtain ⟨-, -, -, side⟩ := h.2.1 r hr
  unfold Fmm.inRegion at side
  split at side
  · exact .inl (of_decide_eq_true side)
  · exact .inr (of_decide_eq_true side)
  · exact .inr (of_decide_eq_true side)

/-- The search for a run by page finds one exactly where a run holds the page. -/
theorem runAt_isNone {f : Fmm} {p : Nat} : f.runAt p = none ↔ ∀ r ∈ f.runs, ¬ (r.base ≤ p ∧ p < r.base + r.count) := by
  unfold Fmm.runAt
  simp [List.find?_eq_none]

theorem runAt_some {f : Fmm} {p : Nat} {r : Run} (h : f.runAt p = some r) :
    r ∈ f.runs ∧ r.base ≤ p ∧ p < r.base + r.count := by
  unfold Fmm.runAt at h
  exact ⟨List.mem_of_find?_eq_some h, by simpa using List.find?_some h⟩

/-- Runs that lie apart hold each page once. -/
theorem run_of_page_unique {rs : List Run} (h : RunsApart rs) {q r : Run} (hq : q ∈ rs) (hr : r ∈ rs) {p : Nat}
    (pq : q.base ≤ p ∧ p < q.base + q.count) (pr : r.base ≤ p ∧ p < r.base + r.count) : q = r := by
  by_contra ne
  have symm : Std.Symm fun a b : Run => a.base + a.count ≤ b.base ∨ b.base + b.count ≤ a.base := ⟨fun _ _ => Or.symm⟩
  have := (h.1.imp fun a => Or.inl a : rs.Pairwise fun a b => _ ∨ b.base + b.count ≤ a.base).forall hq hr ne
  omega

theorem runAt_of_mem {f : Fmm} (h : f.lawful) {r : Run} (hr : r ∈ f.runs) {p : Nat}
    (hp : r.base ≤ p ∧ p < r.base + r.count) : f.runAt p = some r := by
  cases e : f.runAt p with
  | none => exact absurd hp (runAt_isNone.1 e r hr)
  | some q =>
    obtain ⟨hq, pq⟩ := runAt_some e
    rw [run_of_page_unique (lawful_apart h) hq hr pq hp]

/-- A page is FREE where it lies above the reserve and in no run. -/
theorem ownerOf_eq_free {f : Fmm} {p : Nat} :
    f.ownerOf p = .free ↔ 190 ≤ p ∧ ∀ r ∈ f.runs, ¬ (r.base ≤ p ∧ p < r.base + r.count) := by
  rw [← runAt_isNone]
  unfold Fmm.ownerOf Config.reservePages
  split
  · simp; omega
  · cases f.runAt p <;> simp; omega

/-- A page of a run has the run's owner. -/
theorem ownerOf_of_mem {f : Fmm} (h : f.lawful) {r : Run} (hr : r ∈ f.runs) {p : Nat}
    (hp : r.base ≤ p ∧ p < r.base + r.count) : f.ownerOf p = .run r.owner := by
  have := (run_within h hr).2.1
  unfold Fmm.ownerOf Config.reservePages
  rw [if_neg (by omega), runAt_of_mem h hr hp]

/-- A stretch above the reserve is FREE exactly when no run holds a page of it. -/
theorem free_stretch_iff {f : Fmm} (h : f.lawful) {b n : Nat} (hb : 190 ≤ b) (hn : 0 < n) :
    (∀ p, b ≤ p → p < b + n → f.ownerOf p = .free) ↔ StretchClear f.runs b n := by
  constructor
  · intro free r hr
    by_contra meet
    have some_page := (lawful_apart h).2 r hr
    refine (ownerOf_eq_free.1 (free (max b r.base) (by omega) (by omega))).2 r hr ?_
    omega
  · intro clear p lo hi
    refine ownerOf_eq_free.2 ⟨by omega, fun r hr => ?_⟩
    have := clear r hr
    omega

/-- The descriptor of an owner is a run of that owner. -/
theorem runOf_some {f : Fmm} {o : RunOwner} {r : Run} (h : f.runOf o = some r) : r ∈ f.runs ∧ r.owner = o := by
  unfold Fmm.runOf at h
  exact ⟨List.mem_of_find?_eq_some h, by simpa using List.find?_some h⟩

theorem runOf_isNone {f : Fmm} {o : RunOwner} : f.runOf o = none ↔ ∀ r ∈ f.runs, r.owner ≠ o := by
  unfold Fmm.runOf
  simp [List.find?_eq_none]

/-! ### Placing a run among the others -/

theorem insertRun_perm (r : Run) : ∀ rs : List Run, (insertRun r rs).Perm (r :: rs)
  | [] => .refl _
  | q :: qs => by
    unfold insertRun
    split
    · exact .refl _
    · exact ((insertRun_perm r qs).cons q).trans (.swap r q qs)

@[simp] theorem mem_insertRun {r q : Run} {rs : List Run} : q ∈ insertRun r rs ↔ q = r ∨ q ∈ rs := by
  rw [(insertRun_perm r rs).mem_iff, List.mem_cons]

/-- A run placed in a clear stretch lies apart from the others. -/
theorem insertRun_apart {r : Run} (hr : 0 < r.count) : ∀ {rs : List Run}, RunsApart rs →
    StretchClear rs r.base r.count → RunsApart (insertRun r rs)
  | [], _, _ => ⟨by simp [insertRun], by simpa [insertRun] using hr⟩
  | q :: qs, h, clear => by
    obtain ⟨first, -⟩ := List.pairwise_cons.1 h.1
    have some_page : ∀ x ∈ insertRun r (q :: qs), 0 < x.count := fun x hx => by
      rcases mem_insertRun.1 hx with rfl | hx
      · exact hr
      · exact h.2 x hx
    have hq := clear q (.head _)
    have pos := h.2 q (.head _)
    refine ⟨?_, some_page⟩
    unfold insertRun
    split
    · refine .cons (fun x hx => ?_) h.1
      rcases List.mem_cons.1 hx with rfl | hx
      · omega
      · have := first x hx
        omega
    · refine .cons (fun x hx => ?_) (insertRun_apart hr h.tail fun x hx => clear x (.tail _ hx)).1
      rcases mem_insertRun.1 hx with rfl | hx
      · omega
      · exact first x hx

/-- A search among runs after one has been placed that alone may answer to it. -/
theorem find?_insertRun (r : Run) (P : Run → Bool) : ∀ rs : List Run, (P r = true → ∀ q ∈ rs, P q = false) →
    (insertRun r rs).find? P = if P r then some r else rs.find? P
  | [], _ => by simp only [insertRun, List.find?_cons, List.find?_nil]; cases P r <;> rfl
  | q :: qs, alone => by
    unfold insertRun
    split
    · rw [List.find?_cons]; cases P r <;> rfl
    · rw [List.find?_cons, List.find?_cons, find?_insertRun r P qs fun h x hx => alone h x (.tail _ hx)]
      cases hr : P r with
      | true => rw [alone hr q (.head _)]
      | false => rfl

/-! ### Holes -/

/-- A hole has a page, lies within its bounds, and no run holds a page of it. -/
theorem holesBetween_mem {lo hi : Nat} : ∀ {rs : List Run}, RunsApart rs → (∀ r ∈ rs, lo ≤ r.base ∧ r.base + r.count ≤ hi) →
    ∀ h ∈ holesBetween lo hi rs, lo ≤ h.base ∧ 0 < h.count ∧ h.base + h.count ≤ hi ∧ StretchClear rs h.base h.count := by
  intro rs
  induction rs generalizing lo with
  | nil =>
    intro _ _ h hh
    unfold holesBetween at hh
    split at hh
    · obtain rfl : h = ⟨lo, hi - lo⟩ := by simpa using hh
      exact ⟨Nat.le_refl _, by simp; omega, by simp; omega, by simp [StretchClear]⟩
    · simp at hh
  | cons r rs ih =>
    intro apart within h hh
    obtain ⟨first, -⟩ := List.pairwise_cons.1 apart.1
    have hr := within r (.head _)
    have pos := apart.2 r (.head _)
    rcases List.mem_append.1 hh with hh | hh
    · split at hh
      · obtain rfl : h = ⟨lo, r.base - lo⟩ := by simpa using hh
        refine ⟨Nat.le_refl _, by simp; omega, by simp; omega, fun q hq => .inr ?_⟩
        rcases List.mem_cons.1 hq with rfl | hq
        · simp; omega
        · have := first q hq
          simp; omega
      · simp at hh
    · obtain ⟨h1, h2, h3, h4⟩ := ih apart.tail
        (fun q hq => ⟨first q hq, (within q (.tail _ hq)).2⟩) h hh
      refine ⟨by omega, h2, h3, fun q hq => ?_⟩
      rcases List.mem_cons.1 hq with rfl | hq
      · exact .inl h1
      · exact h4 q hq

/-- Every clear stretch lies in a hole. -/
theorem stretch_in_hole {lo hi b n : Nat} (hn : 0 < n) (hi' : b + n ≤ hi) : ∀ {rs : List Run}, lo ≤ b → StretchClear rs b n →
    RunsApart rs → ∃ h ∈ holesBetween lo hi rs, h.base ≤ b ∧ b + n ≤ h.base + h.count := by
  intro rs
  induction rs generalizing lo with
  | nil =>
    intro lob _ _
    refine ⟨⟨lo, hi - lo⟩, ?_, lob, by simp; omega⟩
    rw [holesBetween, if_pos (by omega)]
    exact .head _
  | cons r rs ih =>
    intro lob clear apart
    unfold holesBetween
    rcases clear r (.head _) with below | above
    · obtain ⟨h, hh, c⟩ := ih below (fun q hq => clear q (.tail _ hq)) apart.tail
      exact ⟨h, List.mem_append_right _ hh, c⟩
    · refine ⟨⟨lo, r.base - lo⟩, List.mem_append_left _ ?_, lob, by simp; omega⟩
      rw [if_pos (by omega)]
      exact .head _

/-- Holes stand by rising base, apart from each other. -/
theorem holesBetween_rise {lo hi : Nat} : ∀ {rs : List Run}, RunsApart rs → (∀ r ∈ rs, lo ≤ r.base ∧ r.base + r.count ≤ hi) →
    (holesBetween lo hi rs).Pairwise fun g h => g.base + g.count ≤ h.base := by
  intro rs
  induction rs generalizing lo with
  | nil =>
    intro _ _
    unfold holesBetween
    split <;> simp
  | cons r rs ih =>
    intro apart within
    obtain ⟨first, -⟩ := List.pairwise_cons.1 apart.1
    have hr := within r (.head _)
    have within' : ∀ q ∈ rs, r.base + r.count ≤ q.base ∧ q.base + q.count ≤ hi :=
      fun q hq => ⟨first q hq, (within q (.tail _ hq)).2⟩
    refine List.pairwise_append.2 ⟨by split <;> simp, ih apart.tail within', fun g hg h hh => ?_⟩
    have above := (holesBetween_mem apart.tail within' h hh).1
    split at hg
    · obtain rfl : g = ⟨lo, r.base - lo⟩ := by simpa using hg
      simp; omega
    · simp at hg

end Sys2Proof.Machine
end

section
/-! PROOFS. Allocation and freeing: where the searches of R8 and R9 place a run, what a free leaves (R10), and that all three
keep the page map lawful. -/

namespace Sys2Proof.Machine

set_option Elab.async false

open Sys2Proof

/-! ### The two searches -/

/-- `n` FREE pages from `b` between the reserve and the low boundary (R8). -/
def Fmm.fitsLow (f : Fmm) (n b : Nat) : Prop :=
  190 ≤ b ∧ b + n ≤ f.lowTop ∧ ∀ p, b ≤ p → p < b + n → f.ownerOf p = .free

/-- `n` FREE pages from `b` between the high boundary and the end (R9). -/
def Fmm.fitsHigh (f : Fmm) (n b : Nat) : Prop :=
  f.highBottom ≤ b ∧ b + n ≤ 2048 ∧ ∀ p, b ≤ p → p < b + n → f.ownerOf p = .free

/-- The first element of an ordered list that passes a test comes before every other that does. -/
theorem find?_first {α : Type} {R : α → α → Prop} {P : α → Bool} : ∀ {xs : List α}, xs.Pairwise R → ∀ {x y : α},
    xs.find? P = some x → y ∈ xs → P y = true → y = x ∨ R x y
  | [], _, _, _, h, _, _ => by simp at h
  | z :: zs, sorted, x, y, h, hy, py => by
    obtain ⟨first, rest⟩ := List.pairwise_cons.1 sorted
    rw [List.find?_cons] at h
    cases pz : P z with
    | true =>
      obtain rfl : z = x := by simpa [pz] using h
      rcases List.mem_cons.1 hy with rfl | hy
      · exact .inl rfl
      · exact .inr (first y hy)
    | false =>
      rw [pz] at h
      rcases List.mem_cons.1 hy with rfl | hy
      · simp [pz] at py
      · exact find?_first rest h hy py

section
variable {f : Fmm} (lawful : f.lawful)
include lawful

/-- The runs the low search looks between, and those it does not. -/
theorem lowRuns_within : ∀ r ∈ f.runs.filter (fun r => decide (r.base < f.lowTop)), 190 ≤ r.base ∧ r.base + r.count ≤ f.lowTop := by
  intro r hr
  obtain ⟨hr, below⟩ := List.mem_filter.1 hr
  obtain ⟨-, above, -⟩ := run_within lawful hr
  obtain ⟨-, order, -⟩ := lawful_bounds lawful
  have := of_decide_eq_true below
  rcases run_side lawful hr with side | side
  · exact ⟨above, side⟩
  · omega

theorem highRuns_within :
    ∀ r ∈ f.runs.filter (fun r => decide (f.highBottom ≤ r.base)), f.highBottom ≤ r.base ∧ r.base + r.count ≤ 2048 := by
  intro r hr
  obtain ⟨hr, above⟩ := List.mem_filter.1 hr
  exact ⟨of_decide_eq_true above, (run_within lawful hr).2.2⟩

omit lawful in
/-- Below the low boundary only the low runs matter. -/
theorem clear_low {b n : Nat} (top : b + n ≤ f.lowTop) :
    StretchClear (f.runs.filter fun r => decide (r.base < f.lowTop)) b n ↔ StretchClear f.runs b n := by
  refine ⟨fun clear r hr => ?_, fun clear r hr => clear r (List.mem_filter.1 hr).1⟩
  by_cases below : r.base < f.lowTop
  · exact clear r (List.mem_filter.2 ⟨hr, by simpa using below⟩)
  · omega

/-- At and above the high boundary only the high runs matter. -/
theorem clear_high {b n : Nat} (bottom : f.highBottom ≤ b) :
    StretchClear (f.runs.filter fun r => decide (f.highBottom ≤ r.base)) b n ↔ StretchClear f.runs b n := by
  refine ⟨fun clear r hr => ?_, fun clear r hr => clear r (List.mem_filter.1 hr).1⟩
  obtain ⟨-, order, -⟩ := lawful_bounds lawful
  rcases run_side lawful hr with side | side
  · omega
  · exact clear r (List.mem_filter.2 ⟨hr, by simpa using side⟩)

theorem fitsLow_iff {n b : Nat} (hn : 0 < n) : f.fitsLow n b ↔ 190 ≤ b ∧ b + n ≤ f.lowTop ∧ StretchClear f.runs b n := by
  unfold Fmm.fitsLow
  exact and_congr_right fun hb => and_congr_right fun _ => free_stretch_iff lawful hb hn

theorem fitsHigh_iff {n b : Nat} (hn : 0 < n) : f.fitsHigh n b ↔ f.highBottom ≤ b ∧ b + n ≤ 2048 ∧ StretchClear f.runs b n := by
  obtain ⟨low, order, -⟩ := lawful_bounds lawful
  unfold Fmm.fitsHigh
  exact and_congr_right fun hb => and_congr_right fun _ => free_stretch_iff lawful (le_trans low (le_trans order hb)) hn

/-- A low hole is FREE. -/
theorem lowHole_fits {h : Hole} (hh : h ∈ f.lowHoles) {n : Nat} (hn : 0 < n) (long : n ≤ h.count) : f.fitsLow n h.base := by
  obtain ⟨lo, -, hi, clear⟩ := holesBetween_mem ((lawful_apart lawful).filter _) (lowRuns_within lawful) h hh
  refine (fitsLow_iff lawful hn).2 ⟨lo, by omega, fun r hr => ?_⟩
  have := (clear_low hi).1 clear r hr
  omega

/-- A stretch that fits lies in a low hole. -/
theorem lowHole_of_fits {n b : Nat} (hn : 0 < n) (fits : f.fitsLow n b) :
    ∃ h ∈ f.lowHoles, h.base ≤ b ∧ b + n ≤ h.base + h.count := by
  obtain ⟨lo, hi, clear⟩ := (fitsLow_iff lawful hn).1 fits
  exact stretch_in_hole hn hi lo ((clear_low hi).2 clear) ((lawful_apart lawful).filter _)

/-- The low search stops at the lowest stretch that fits. -/
theorem lowHole_found {n : Nat} (hn : 0 < n) {h : Hole} (found : f.lowHoles.find? (fun h => decide (n ≤ h.count)) = some h) :
    f.fitsLow n h.base ∧ ∀ c, f.fitsLow n c → h.base ≤ c := by
  have long : n ≤ h.count := by simpa using List.find?_some found
  refine ⟨lowHole_fits lawful (List.mem_of_find?_eq_some found) hn long, fun c fits => ?_⟩
  obtain ⟨g, hg, start, fin⟩ := lowHole_of_fits lawful hn fits
  have rise := holesBetween_rise ((lawful_apart lawful).filter _) (lowRuns_within lawful)
  rcases find?_first rise found hg (by simp; omega) with rfl | before
  · exact start
  · omega

theorem lowHole_missing {n : Nat} (hn : 0 < n) (missing : f.lowHoles.find? (fun h => decide (n ≤ h.count)) = none) (c : Nat) :
    ¬ f.fitsLow n c := by
  intro fits
  obtain ⟨h, hh, start, fin⟩ := lowHole_of_fits lawful hn fits
  have := List.find?_eq_none.1 missing h hh
  simp at this
  omega

/-- The top of a high hole is FREE. -/
theorem highHole_fits {h : Hole} (hh : h ∈ f.highHoles) {n : Nat} (hn : 0 < n) (long : n ≤ h.count) :
    f.fitsHigh n (h.base + h.count - n) := by
  obtain ⟨lo, -, hi, clear⟩ := holesBetween_mem ((lawful_apart lawful).filter _) (highRuns_within lawful) h hh
  refine (fitsHigh_iff lawful hn).2 ⟨by omega, by omega, fun r hr => ?_⟩
  have := (clear_high lawful lo).1 clear r hr
  omega

theorem highHole_of_fits {n b : Nat} (hn : 0 < n) (fits : f.fitsHigh n b) :
    ∃ h ∈ f.highHoles, h.base ≤ b ∧ b + n ≤ h.base + h.count := by
  obtain ⟨lo, hi, clear⟩ := (fitsHigh_iff lawful hn).1 fits
  exact stretch_in_hole hn hi lo ((clear_high lawful lo).2 clear) ((lawful_apart lawful).filter _)

/-- The high search stops at the highest stretch that fits. -/
theorem highHole_found {n : Nat} (hn : 0 < n) {h : Hole}
    (found : f.highHoles.reverse.find? (fun h => decide (n ≤ h.count)) = some h) :
    f.fitsHigh n (h.base + h.count - n) ∧ ∀ c, f.fitsHigh n c → c ≤ h.base + h.count - n := by
  have long : n ≤ h.count := by simpa using List.find?_some found
  refine ⟨highHole_fits lawful (by simpa using List.mem_of_find?_eq_some found) hn long, fun c fits => ?_⟩
  obtain ⟨g, hg, start, fin⟩ := highHole_of_fits lawful hn fits
  have rise := holesBetween_rise ((lawful_apart lawful).filter _) (highRuns_within lawful)
  rcases find?_first (List.pairwise_reverse.2 rise) found (List.mem_reverse.2 hg) (by simp; omega) with rfl | before
  · omega
  · have : 0 < g.count := by omega
    omega

theorem highHole_missing {n : Nat} (hn : 0 < n)
    (missing : f.highHoles.reverse.find? (fun h => decide (n ≤ h.count)) = none) (c : Nat) : ¬ f.fitsHigh n c := by
  intro fits
  obtain ⟨h, hh, start, fin⟩ := highHole_of_fits lawful hn fits
  have := List.find?_eq_none.1 missing h (by simpa using hh)
  simp at this
  omega

end

/-! ### A run placed in a clear stretch -/

/-- The page map with a run added, and the boundaries given. -/
def Fmm.withRun (f : Fmm) (r : Run) (lowTop highBottom : Nat) : Fmm :=
  { f with runs := insertRun r f.runs, lowTop := lowTop, highBottom := highBottom }

/-- The new owner's descriptor is the new run. -/
theorem withRun_runOf {f : Fmm} {r : Run} (fresh : f.runOf r.owner = none) (lo hi : Nat) :
    (f.withRun r lo hi).runOf r.owner = some r := by
  show (insertRun r f.runs).find? _ = _
  rw [find?_insertRun]
  · simp
  · intro _ q hq
    simpa using runOf_isNone.1 fresh q hq

/-- The pages of the new run have its owner, and every other page keeps its owner. -/
theorem withRun_ownerOf {f : Fmm} {r : Run} (above : 190 ≤ r.base) (clear : StretchClear f.runs r.base r.count) (lo hi p : Nat) :
    (f.withRun r lo hi).ownerOf p = if r.base ≤ p ∧ p < r.base + r.count then .run r.owner else f.ownerOf p := by
  have search : (f.withRun r lo hi).runAt p = if r.base ≤ p ∧ p < r.base + r.count then some r else f.runAt p := by
    show (insertRun r f.runs).find? _ = _
    rw [find?_insertRun]
    · simp [Fmm.runAt]
    · intro inside q hq
      rw [pageIn_eq_true] at inside
      rw [pageIn_eq_false]
      have := clear q hq
      omega
  unfold Fmm.ownerOf Config.reservePages
  rw [search]
  by_cases inside : r.base ≤ p ∧ p < r.base + r.count
  · rw [if_neg (by omega), if_pos inside, if_pos inside]
  · rw [if_neg inside, if_neg inside]

/-- A page map stays lawful when a run is placed in a clear stretch of its region, each boundary staying, or moving through the gap to
the run. -/
theorem withRun_lawful {f : Fmm} (lawful : f.lawful) {r : Run} (pos : 0 < r.count) (fresh : f.runOf r.owner = none)
    (clear : StretchClear f.runs r.base r.count) {lo hi : Nat} (above : 190 ≤ r.base) (within : r.base + r.count ≤ 2048)
    (region : (f.withRun r lo hi).inRegion r = true) (order : lo ≤ hi)
    (low : lo = f.lowTop ∨ f.lowTop ≤ lo ∧ lo = r.base + r.count)
    (high : hi = f.highBottom ∨ hi ≤ f.highBottom ∧ hi = r.base) : (f.withRun r lo hi).lawful := by
  obtain ⟨-, each, names, -⟩ := id lawful
  obtain ⟨low190, -, high2048⟩ := lawful_bounds lawful
  have apart := insertRun_apart pos (lawful_apart lawful) clear
  have up : f.lowTop ≤ lo := by omega
  have down : hi ≤ f.highBottom := by omega
  refine ⟨apart.1, fun q hq => ?_, ?_, ?_, order, ?_, ?_, ?_⟩
  · rcases mem_insertRun.1 hq with rfl | old
    · exact ⟨pos, above, within, region⟩
    · obtain ⟨count, base, top, side⟩ := each q old
      refine ⟨count, base, top, ?_⟩
      unfold Fmm.inRegion at side ⊢
      split at side
      · exact decide_eq_true (le_trans (of_decide_eq_true side) up)
      · exact decide_eq_true (le_trans down (of_decide_eq_true side))
      · exact decide_eq_true (le_trans down (of_decide_eq_true side))
  · show ((insertRun r f.runs).map Run.owner).Nodup
    rw [((insertRun_perm r f.runs).map Run.owner).nodup_iff]
    refine List.nodup_cons.2 ⟨fun hr => ?_, names⟩
    obtain ⟨q, hq, same⟩ := List.mem_map.1 hr
    exact runOf_isNone.1 fresh q hq same
  · show 190 ≤ lo
    omega
  · show hi ≤ 2048
    omega
  · show lo = 190 ∨ ∃ q ∈ insertRun r f.runs, q.base + q.count = lo
    rcases low with rfl | ⟨-, rfl⟩
    · exact (lawful_edges lawful).1.imp_right fun ⟨q, hq, e⟩ => ⟨q, mem_insertRun.2 (.inr hq), e⟩
    · exact .inr ⟨r, mem_insertRun.2 (.inl rfl), rfl⟩
  · show hi = 2048 ∨ ∃ q ∈ insertRun r f.runs, q.base = hi
    rcases high with rfl | ⟨-, rfl⟩
    · exact (lawful_edges lawful).2.imp_right fun ⟨q, hq, e⟩ => ⟨q, mem_insertRun.2 (.inr hq), e⟩
    · exact .inr ⟨r, mem_insertRun.2 (.inl rfl), rfl⟩

/-! ### What the two allocation calls answer -/

/-- No run holds a page of the gap. -/
theorem gap_clear {f : Fmm} (lawful : f.lawful) {b n : Nat} (lo : f.lowTop ≤ b) (hi : b + n ≤ f.highBottom) :
    StretchClear f.runs b n := by
  intro r hr
  rcases run_side lawful hr with side | side <;> omega

/-- A low-region call: in the lowest stretch that fits, else at the gap's bottom, else no space (R8). -/
theorem placeLow_cases {f : Fmm} (lawful : f.lawful) (o : RunOwner) {n : Nat} (hn : 0 < n) :
    (∃ b, f.fitsLow n b ∧ (∀ c, f.fitsLow n c → b ≤ c) ∧ f.placeLow o n = some (f.withRun ⟨o, b, n⟩ f.lowTop f.highBottom)) ∨
    (∀ b, ¬ f.fitsLow n b) ∧
      (f.lowTop + n ≤ f.highBottom ∧ f.placeLow o n = some (f.withRun ⟨o, f.lowTop, n⟩ (f.lowTop + n) f.highBottom) ∨
       f.highBottom < f.lowTop + n ∧ f.placeLow o n = none) := by
  unfold Fmm.placeLow
  cases search : f.lowHoles.find? (fun h => decide (n ≤ h.count)) with
  | some h =>
    obtain ⟨fits, least⟩ := lowHole_found lawful hn search
    exact .inl ⟨h.base, fits, least, rfl⟩
  | none =>
    refine .inr ⟨lowHole_missing lawful hn search, ?_⟩
    by_cases room : f.lowTop + n ≤ f.highBottom
    · exact .inl ⟨room, if_pos room⟩
    · exact .inr ⟨by omega, if_neg room⟩

/-- A high-region call: in the highest stretch that fits, else at the gap's top, else no space (R9). -/
theorem placeHigh_cases {f : Fmm} (lawful : f.lawful) (o : RunOwner) {n : Nat} (hn : 0 < n) :
    (∃ b, f.fitsHigh n b ∧ (∀ c, f.fitsHigh n c → c ≤ b) ∧ f.placeHigh o n = some (f.withRun ⟨o, b, n⟩ f.lowTop f.highBottom)) ∨
    (∀ b, ¬ f.fitsHigh n b) ∧
      (f.lowTop + n ≤ f.highBottom ∧
          f.placeHigh o n = some (f.withRun ⟨o, f.highBottom - n, n⟩ f.lowTop (f.highBottom - n)) ∨
       f.highBottom < f.lowTop + n ∧ f.placeHigh o n = none) := by
  unfold Fmm.placeHigh
  cases search : f.highHoles.reverse.find? (fun h => decide (n ≤ h.count)) with
  | some h =>
    obtain ⟨fits, greatest⟩ := highHole_found lawful hn search
    exact .inl ⟨h.base + h.count - n, fits, greatest, rfl⟩
  | none =>
    refine .inr ⟨highHole_missing lawful hn search, ?_⟩
    by_cases room : f.lowTop + n ≤ f.highBottom
    · exact .inl ⟨room, if_pos room⟩
    · exact .inr ⟨by omega, if_neg room⟩

/-- A stream's run placed by the low search keeps the page map lawful. -/
theorem placeLow_lawful {f g : Fmm} (lawful : f.lawful) {i : StreamId} {n : Nat} (hn : 0 < n) (fresh : f.runOf (.stream i) = none)
    (placed : f.placeLow (.stream i) n = some g) : g.lawful := by
  obtain ⟨l190, order, h2048⟩ := lawful_bounds lawful
  rcases placeLow_cases lawful (.stream i) hn with ⟨b, fits, -, e⟩ | ⟨-, ⟨room, e⟩ | ⟨-, e⟩⟩
  · obtain ⟨lo, hi, clear⟩ := (fitsLow_iff lawful hn).1 fits
    obtain rfl := Option.some.inj (e.symm.trans placed)
    exact withRun_lawful lawful hn fresh clear lo (by show b + n ≤ 2048; omega) (decide_eq_true hi) order (.inl rfl) (.inl rfl)
  · obtain rfl := Option.some.inj (e.symm.trans placed)
    exact withRun_lawful lawful hn fresh (gap_clear lawful (Nat.le_refl _) room) l190 (by show f.lowTop + n ≤ 2048; omega)
      (decide_eq_true (Nat.le_refl _)) room (.inr ⟨by omega, rfl⟩) (.inl rfl)
  · simp [e] at placed

/-- A layer's or a sample's run placed by the high search keeps the page map lawful. -/
theorem placeHigh_lawful {f g : Fmm} (lawful : f.lawful) {o : RunOwner} {n : Nat} (hn : 0 < n) (fresh : f.runOf o = none)
    (high : ∀ i, o ≠ .stream i) (placed : f.placeHigh o n = some g) : g.lawful := by
  obtain ⟨l190, order, h2048⟩ := lawful_bounds lawful
  have region : ∀ (h : Fmm) (b : Nat), h.highBottom ≤ b → h.inRegion ⟨o, b, n⟩ = true := by
    intro h b above
    cases o with
    | stream i => exact absurd rfl (high i)
    | layer m => exact decide_eq_true above
    | sample m => exact decide_eq_true above
  rcases placeHigh_cases lawful o hn with ⟨b, fits, -, e⟩ | ⟨-, ⟨room, e⟩ | ⟨-, e⟩⟩
  · obtain ⟨lo, hi, clear⟩ := (fitsHigh_iff lawful hn).1 fits
    obtain rfl := Option.some.inj (e.symm.trans placed)
    exact withRun_lawful lawful hn fresh clear (by show 190 ≤ b; omega) hi (region _ _ lo) order (.inl rfl) (.inl rfl)
  · obtain rfl := Option.some.inj (e.symm.trans placed)
    exact withRun_lawful lawful hn fresh (gap_clear lawful (by show f.lowTop ≤ f.highBottom - n; omega) (by show f.highBottom - n + n ≤ _; omega))
      (by show 190 ≤ f.highBottom - n; omega) (by show f.highBottom - n + n ≤ 2048; omega) (region _ _ (Nat.le_refl _))
      (by omega) (.inl rfl) (.inr ⟨by omega, rfl⟩)
  · simp [e] at placed

/-- An allocation that places a run places it where its search does. -/
theorem allocate_placed {place : Fmm → RunOwner → Nat → Option Fmm} {s : State} {o : RunOwner} {n : Nat} {g : Fmm}
    (h : allocate place s o n = .placed g) : place s.fmm o n = some g := by
  unfold allocate at h
  split at h
  · simp at h
  · cases e : place s.fmm o n <;> simp_all

/-! ### Freeing -/

/-- The low boundary falls to the reserve, or to the end of a run, and to no page in use below it. -/
theorem retractLow_spec (top : Nat) (rs : List Run) : ∀ m : Nat,
    let t := rs.foldl (fun m r => if r.base + r.count ≤ top then max m (r.base + r.count) else m) m
    m ≤ t ∧ (m ≤ top → t ≤ top) ∧ (t = m ∨ ∃ r ∈ rs, r.base + r.count = t) ∧ ∀ r ∈ rs, r.base + r.count ≤ top → r.base + r.count ≤ t := by
  induction rs with
  | nil => simp
  | cons r rs ih =>
    intro m
    obtain ⟨up, below, edge, all⟩ := ih (if r.base + r.count ≤ top then max m (r.base + r.count) else m)
    rw [List.foldl_cons]
    set t := rs.foldl (fun m r => if r.base + r.count ≤ top then max m (r.base + r.count) else m)
      (if r.base + r.count ≤ top then max m (r.base + r.count) else m)
    refine ⟨?_, ?_, ?_, fun q hq hq' => ?_⟩
    · split at up <;> omega
    · intro h; refine below ?_; split <;> omega
    · rcases edge with e | ⟨q, hq, e⟩
      · split at e
        · rcases Nat.le_total m (r.base + r.count) with le | le
          · exact .inr ⟨r, .head _, by omega⟩
          · exact .inl (by omega)
        · exact .inl e
      · exact .inr ⟨q, .tail _ hq, e⟩
    · rcases List.mem_cons.1 hq with rfl | hq
      · rw [if_pos hq'] at up; omega
      · exact all q hq hq'

/-- The high boundary rises to the end of memory, or to the start of a run, and past no page in use. -/
theorem retractHigh_spec (bottom : Nat) (rs : List Run) : ∀ m : Nat,
    let t := rs.foldl (fun m r => if bottom ≤ r.base then min m r.base else m) m
    t ≤ m ∧ (bottom ≤ m → bottom ≤ t) ∧ (t = m ∨ ∃ r ∈ rs, r.base = t) ∧ ∀ r ∈ rs, bottom ≤ r.base → t ≤ r.base := by
  induction rs with
  | nil => simp
  | cons r rs ih =>
    intro m
    obtain ⟨down, above, edge, all⟩ := ih (if bottom ≤ r.base then min m r.base else m)
    rw [List.foldl_cons]
    set t := rs.foldl (fun m r => if bottom ≤ r.base then min m r.base else m) (if bottom ≤ r.base then min m r.base else m)
    refine ⟨?_, ?_, ?_, fun q hq hq' => ?_⟩
    · split at down <;> omega
    · intro h; refine above ?_; split <;> omega
    · rcases edge with e | ⟨q, hq, e⟩
      · split at e
        · rcases Nat.le_total m r.base with le | le
          · exact .inl (by omega)
          · exact .inr ⟨r, .head _, by omega⟩
        · exact .inl e
      · exact .inr ⟨q, .tail _ hq, e⟩
    · rcases List.mem_cons.1 hq with rfl | hq
      · rw [if_pos hq'] at down; omega
      · exact all q hq hq'

/-- The runs left when an owner's run goes. -/
def Fmm.runsWithout (f : Fmm) (o : RunOwner) : List Run := f.runs.filter fun r => !decide (r.owner = o)

theorem mem_runsWithout {f : Fmm} {o : RunOwner} {r : Run} : r ∈ f.runsWithout o ↔ r ∈ f.runs ∧ r.owner ≠ o := by
  simp [Fmm.runsWithout]

/-- A free without a run is without effect (R10). -/
theorem free_absent {f : Fmm} {o : RunOwner} (h : f.runOf o = none) : f.free o = f := by
  unfold Fmm.free
  rw [h]

/-- A free with a run takes the run and its consequences away and retracts both boundaries (R10). -/
theorem free_present {f : Fmm} {o : RunOwner} (h : (f.runOf o).isSome = true) : f.free o =
    { f with
      runs := f.runsWithout o
      lowTop := retractLow f.lowTop (f.runsWithout o)
      highBottom := retractHigh f.highBottom (f.runsWithout o)
      pending := f.pending.filter (fun c => !decide (MemUnit.owner c.unit = some o)) } := by
  obtain ⟨r, e⟩ := Option.isSome_iff_exists.1 h
  unfold Fmm.free
  rw [e]
  rfl

theorem free_lawful {f : Fmm} (lawful : f.lawful) (o : RunOwner) : (f.free o).lawful := by
  cases h : f.runOf o with
  | none => rwa [free_absent h]
  | some r =>
    rw [free_present (by simp [h])]
    obtain ⟨apart, each, names, low190, order, high2048, -⟩ := id lawful
    obtain ⟨lowUp, lowDown, lowEdge, lowAll⟩ := retractLow_spec f.lowTop (f.runsWithout o) Config.reservePages
    obtain ⟨highDown, highUp, highEdge, highAll⟩ := retractHigh_spec f.highBottom (f.runsWithout o) Config.pages
    refine ⟨apart.filter _, fun q hq => ?_, names.sublist (List.filter_sublist.map _), lowUp,
      le_trans (lowDown low190) (le_trans order (highUp high2048)), highDown, lowEdge, highEdge⟩
    obtain ⟨pos, base, top, side⟩ := each q (mem_runsWithout.1 hq).1
    refine ⟨pos, base, top, ?_⟩
    have lo := lowAll q hq
    have hi := highAll q hq
    unfold Fmm.inRegion at side ⊢
    split at side
    · exact decide_eq_true (lo (of_decide_eq_true side))
    · exact decide_eq_true (hi (of_decide_eq_true side))
    · exact decide_eq_true (hi (of_decide_eq_true side))

end Sys2Proof.Machine
end

section
/-! PROOFS. The page map statements: allocation, freeing, and the entries of READ PAGE MAP (R5, R7 to R11). -/

namespace Sys2Proof.Machine

set_option Elab.async false

open Sys2Proof

/-- A self-test in flight answers an allocation call Busy (R7). -/
theorem allocate_busy {place : Fmm → RunOwner → Nat → Option Fmm} {s : State} (h : s.selfTest.isSome = true) (o : RunOwner)
    (n : Nat) : allocate place s o n = .busy := if_pos h

/-- What a run placed in a clear stretch makes of the map, as the statements of R8 and R9 put it. -/
theorem withRun_spec {f : Fmm} {o : RunOwner} (fresh : f.runOf o = none) {b n : Nat} (above : 190 ≤ b)
    (clear : StretchClear f.runs b n) (lo hi : Nat) :
    let g := f.withRun ⟨o, b, n⟩ lo hi
    g.runOf o = some ⟨o, b, n⟩ ∧ g.lowTop = lo ∧ g.highBottom = hi ∧
      ∀ p, g.ownerOf p = if b ≤ p ∧ p < b + n then .run o else f.ownerOf p :=
  ⟨withRun_runOf fresh lo hi, rfl, rfl, withRun_ownerOf above clear lo hi⟩

/-- Settles O13: the low search stops at the lowest hole that is long enough, and that is the lowest stretch of FREE pages. -/
theorem lowRunTakesTheLowestFreeStretch : Obligations.LowRunTakesTheLowestFreeStretch := by
  refine ⟨fun f o n lawful fresh hn => ?_, fun s o n h => allocate_busy h o n⟩
  obtain ⟨low, order, -⟩ := lawful_bounds lawful
  rcases placeLow_cases lawful o hn with ⟨b, fits, least, placed⟩ | ⟨none_fits, gap⟩
  · refine ⟨fun c hc least' => ?_, fun none_fits => absurd fits (none_fits b), fun none_fits => absurd fits (none_fits b)⟩
    obtain rfl : b = c := Nat.le_antisymm (least c hc) (Nat.not_lt.1 fun lt => least' b lt fits)
    obtain ⟨lo, -, clear⟩ := (fitsLow_iff lawful hn).1 fits
    exact ⟨_, placed, withRun_spec fresh lo clear _ _⟩
  · refine ⟨fun c hc => absurd hc (none_fits c), fun _ room => ?_, fun _ full => ?_⟩
    · rcases gap with ⟨-, placed⟩ | ⟨full, -⟩
      · exact ⟨_, placed, withRun_spec fresh low (gap_clear lawful (Nat.le_refl _) room) _ _⟩
      · omega
    · rcases gap with ⟨room, -⟩ | ⟨-, refused⟩
      · omega
      · exact refused

/-- Settles O14: the mirror of O13. -/
theorem highRunTakesTheHighestFreeStretch : Obligations.HighRunTakesTheHighestFreeStretch := by
  refine ⟨fun f o n lawful fresh hn => ?_, fun s o n h => allocate_busy h o n⟩
  obtain ⟨low, order, -⟩ := lawful_bounds lawful
  rcases placeHigh_cases lawful o hn with ⟨b, fits, greatest, placed⟩ | ⟨none_fits, gap⟩
  · refine ⟨fun c hc greatest' => ?_, fun none_fits => absurd fits (none_fits b), fun none_fits => absurd fits (none_fits b)⟩
    obtain rfl : b = c := Nat.le_antisymm (Nat.not_lt.1 fun lt => greatest' b lt fits) (greatest c hc)
    obtain ⟨lo, -, clear⟩ := (fitsHigh_iff lawful hn).1 fits
    exact ⟨_, placed, withRun_spec fresh (by omega) clear _ _⟩
  · refine ⟨fun c hc => absurd hc (none_fits c), fun _ room => ?_, fun _ full => ?_⟩
    · rcases gap with ⟨-, placed⟩ | ⟨full, -⟩
      · have top : f.highBottom - n + n = f.highBottom := by omega
        have := withRun_spec fresh (b := f.highBottom - n) (n := n) (by omega)
          (gap_clear lawful (by omega) (by omega)) f.lowTop (f.highBottom - n)
        rw [top] at this
        exact ⟨_, placed, this⟩
      · omega
    · rcases gap with ⟨room, -⟩ | ⟨-, refused⟩
      · omega
      · exact refused

/-! ### What a free leaves -/

/-- A run's page is of an owner exactly when it lies in that owner's run. -/
theorem ownerOf_eq_run {f : Fmm} (lawful : f.lawful) {p : Nat} {o : RunOwner} :
    f.ownerOf p = .run o ↔ ∃ r ∈ f.runs, r.owner = o ∧ r.base ≤ p ∧ p < r.base + r.count := by
  constructor
  · intro h
    unfold Fmm.ownerOf at h
    split at h
    · simp at h
    · cases e : f.runAt p with
      | none => simp [e] at h
      | some r =>
        obtain ⟨hr, inside⟩ := runAt_some e
        exact ⟨r, hr, by simpa [e] using h, inside⟩
  · rintro ⟨r, hr, rfl, inside⟩
    exact ownerOf_of_mem lawful hr inside

section
variable {f : Fmm} (lawful : f.lawful) {o : RunOwner} (held : (f.runOf o).isSome = true)
include held

theorem free_runs : (f.free o).runs = f.runsWithout o := by rw [free_present held]

theorem free_lowTop : (f.free o).lowTop = retractLow f.lowTop (f.runsWithout o) := by rw [free_present held]

theorem free_highBottom : (f.free o).highBottom = retractHigh f.highBottom (f.runsWithout o) := by rw [free_present held]

/-- The owner that is freed has no descriptor, and every other keeps its own. -/
theorem free_runOf (q : RunOwner) : (f.free o).runOf q = if q = o then none else f.runOf q := by
  unfold Fmm.runOf
  rw [free_runs held, Fmm.runsWithout, List.find?_filter]
  by_cases same : q = o
  · subst same
    simp
  · rw [if_neg same]
    congr 1
    funext r
    by_cases h : r.owner = q <;> simp [h, same]

include lawful in
/-- The owner's pages are FREE, and every other page keeps its owner. -/
theorem free_ownerOf (p : Nat) : (f.free o).ownerOf p = if f.ownerOf p = .run o then .free else f.ownerOf p := by
  split
  · rename_i mine
    obtain ⟨r, hr, ro, inside⟩ := (ownerOf_eq_run lawful).1 mine
    refine ownerOf_eq_free.2 ⟨by have := run_within lawful hr; omega, fun q hq meets => ?_⟩
    rw [free_runs held] at hq
    obtain ⟨hq, other⟩ := mem_runsWithout.1 hq
    exact other (run_of_page_unique (lawful_apart lawful) hq hr meets inside ▸ ro)
  · rename_i other
    cases own : f.ownerOf p with
    | reserve =>
      unfold Fmm.ownerOf at own ⊢
      split at own
      · rename_i low
        rw [if_pos low]
      · cases e : f.runAt p <;> simp [e] at own
    | free =>
      obtain ⟨above, out⟩ := ownerOf_eq_free.1 own
      refine ownerOf_eq_free.2 ⟨above, fun r hr => out r ?_⟩
      rw [free_runs held] at hr
      exact (mem_runsWithout.1 hr).1
    | run q =>
      obtain ⟨r, hr, ro, inside⟩ := (ownerOf_eq_run lawful).1 own
      refine (ownerOf_eq_run (free_lawful lawful o)).2 ⟨r, ?_, ro, inside⟩
      rw [free_runs held]
      exact mem_runsWithout.2 ⟨hr, fun e => other (by rw [own, ← e, ro])⟩

/-- The boundaries retract, and every page they pass is FREE. -/
theorem free_passed_low {p : Nat} (lo : (f.free o).lowTop ≤ p) (hi : p < f.lowTop) : f.lawful → (f.free o).ownerOf p = .free := by
  intro lawful
  obtain ⟨low, order, -⟩ := lawful_bounds lawful
  obtain ⟨up, -, -, all⟩ := retractLow_spec f.lowTop (f.runsWithout o) Config.reservePages
  rw [free_lowTop held] at lo
  refine ownerOf_eq_free.2 ⟨le_trans up lo, fun r hr => ?_⟩
  rw [free_runs held] at hr
  rcases run_side lawful (mem_runsWithout.1 hr).1 with side | side
  · have := all r hr side
    unfold retractLow at lo
    omega
  · omega

theorem free_passed_high {p : Nat} (lo : f.highBottom ≤ p) (hi : p < (f.free o).highBottom) :
    f.lawful → (f.free o).ownerOf p = .free := by
  intro lawful
  obtain ⟨low, order, -⟩ := lawful_bounds lawful
  obtain ⟨-, -, -, all⟩ := retractHigh_spec f.highBottom (f.runsWithout o) Config.pages
  rw [free_highBottom held] at hi
  refine ownerOf_eq_free.2 ⟨by omega, fun r hr => ?_⟩
  rw [free_runs held] at hr
  rcases run_side lawful (mem_runsWithout.1 hr).1 with side | side
  · omega
  · have := all r hr side
    unfold retractHigh at hi
    omega

end

/-- A page inside a run is not FREE. -/
theorem ownerOf_ne_free {f : Fmm} (lawful : f.lawful) {r : Run} (hr : r ∈ f.runs) {p : Nat}
    (hp : r.base ≤ p ∧ p < r.base + r.count) : f.ownerOf p ≠ .free := by
  rw [ownerOf_of_mem lawful hr hp]
  exact nofun

/-- Settles O15: the owner's run is filtered out, and the boundaries are what the runs left make them. -/
theorem freeReturnsPagesAndRetractsBoundaries : Obligations.FreeReturnsPagesAndRetractsBoundaries := by
  refine fun f o lawful => ⟨free_absent, fun held => ?_⟩
  obtain ⟨low, order, high⟩ := lawful_bounds lawful
  obtain ⟨-, lowDown, -⟩ := retractLow_spec f.lowTop (f.runsWithout o) Config.reservePages
  obtain ⟨-, highUp, -⟩ := retractHigh_spec f.highBottom (f.runsWithout o) Config.pages
  have after := free_lawful lawful o
  refine ⟨by rw [free_runOf held, if_pos rfl], fun q other => by rw [free_runOf held, if_neg other], free_ownerOf lawful held,
    by rw [free_present held], by rw [free_lowTop held]; exact lowDown low, by rw [free_highBottom held]; exact highUp high, ?_, ?_,
    fun p lo hi => free_passed_low held lo hi lawful, fun p lo hi => free_passed_high held lo hi lawful, Fmm.free_rest f o⟩
  · refine (lawful_edges after).1.imp_right fun ⟨r, hr, e⟩ => ?_
    have := run_within after hr
    exact ⟨by omega, ownerOf_ne_free after hr ⟨by omega, by omega⟩⟩
  · refine (lawful_edges after).2.imp_right fun ⟨r, hr, e⟩ => ?_
    have := run_within after hr
    exact ⟨by omega, ownerOf_ne_free after hr ⟨by omega, by omega⟩⟩

end Sys2Proof.Machine
end

section
/-! PROOFS. For each command, once, the pieces of the state it may change: its footprint. -/

namespace Sys2Proof.Machine

set_option Elab.async false

open Sys2Proof

/-! ### Shapes of a command -/

/-- A request whose block only looks at the state changes the list of requests alone. -/
theorem query_changes {code : Byte} {block : State → State × Reply} (h : ∀ t, (block t).1 = t) (s : State) :
    Changes [.requests] s (request code block s) :=
  request_changes (ps := []) (fun t => (h t).symm ▸ .refl _ _) s

theorem queryWith_changes {α : Type} {code : Byte} {block : α → State → State × Reply} (h : ∀ f t, (block f t).1 = t) (b : Body α)
    (s : State) : Changes [.requests] s (requestWith code b block s) :=
  requestWith_changes (ps := []) (fun f t => (h f t).symm ▸ .refl _ _) b s

variable {ps : List Piece} {t : State}

/-- A request that names a layer, a stream, an output or a sample changes what is done on the one it names. -/
theorem withLayer_changes {k : Nat} {act : Fin 24 → State × Reply} (h : ∀ n, Changes ps t (act n).1) :
    Changes ps t (withLayer k t act).1 := by
  unfold withLayer
  split
  · exact .refl _ _
  · exact h _

theorem withStream_changes {k : Nat} {act : StreamId → State × Reply} (h : ∀ i, Changes ps t (act i).1) :
    Changes ps t (withStream k t act).1 := by
  unfold withStream
  split
  · exact .refl _ _
  · exact h _

theorem withOutput_changes {k : Nat} {act : Output → State × Reply} (h : ∀ o, Changes ps t (act o).1) :
    Changes ps t (withOutput k t act).1 := by
  unfold withOutput
  split
  · exact .refl _ _
  · exact h _

theorem withSample_changes {k : Nat} {act : Fin 16 → State × Reply} (h : ∀ n, Changes ps t (act n).1) :
    Changes ps t (withSample k t act).1 := by
  unfold withSample
  split
  · exact .refl _ _
  · exact h _

/-- What a block makes of the state, whatever it answers. -/
theorem Changes.effect {u : State} {r : Reply} (h : Changes ps t u) : Changes ps t (u, r).1 := h

/-- A refusal, or an effect. -/
theorem ite_refused {c : Prop} [Decidable c] {r : Reply} {e : State × Reply} (h : Changes ps t e.1) :
    Changes ps t (if c then (t, r) else e).1 := by
  split
  · exact .refl _ _
  · exact h

/-- A choice between two effects of a block. -/
theorem ite_block {c : Prop} [Decidable c] {d e : State × Reply} (hd : Changes ps t d.1) (he : Changes ps t e.1) :
    Changes ps t (if c then d else e).1 := by
  split
  · exact hd
  · exact he

/-! ### Records replaced whole -/

/-- Every piece of a state is as it is. -/
theorem same_refl (s : State) (p : Piece) : Piece.same s s p := Changes.refl [] s p (List.not_mem_nil)

theorem notices_changes (s : State) (x : List NoticeEntry) : Changes [.notices] s { s with link := { s.link with notices := x } } := by
  intro p hp
  have same := same_refl s p
  cases p <;> first | exact absurd (by decide) hp | exact same

theorem record_changes (s : State) (x : MemErrorRecord) (n : Nat) :
    Changes [.errorRecord] s { s with fmm := { s.fmm with record := x, corrected := n } } := by
  intro p hp
  have same := same_refl s p
  cases p <;> first | exact absurd (by decide) hp | exact same

theorem selfTest_changes (s : State) (x : Option SelfTest) : Changes [.selfTest] s { s with selfTest := x } := by
  intro p hp
  have same := same_refl s p
  cases p <;> first | exact absurd (by decide) hp | exact same

theorem clearing_changes (s : State) (x : Option Clearing) : Changes [.clearing] s { s with layers := { s.layers with clearing := x } } := by
  intro p hp
  have same := same_refl s p
  cases p <;> first | exact absurd (by decide) hp | exact same

theorem designations_changes (s : State) (x : Table (Option (Fin 24)) 3) :
    Changes [.designations] s { s with layers := { s.layers with designations := x } } := by
  intro p hp
  have same := same_refl s p
  cases p <;> first | exact absurd (by decide) hp | exact same

theorem store_changes (s : State) (x : Store) : Changes [.store] s { s with store := x } := by
  intro p hp
  have same := same_refl s p
  cases p <;> first | exact absurd (by decide) hp | exact same

theorem policy_changes (s : State) (x : ViewPolicy) : Changes [.policy] s { s with comp := { s.comp with policy := x } } := by
  intro p hp
  have same := same_refl s p
  cases p <;> first | exact absurd (by decide) hp | exact same

theorem camSettings_changes (s : State) (x : CameraSettings) :
    Changes [.camSettings] s { s with cam := { s.cam with settings := x } } := by
  intro p hp
  have same := same_refl s p
  cases p <;> first | exact absurd (by decide) hp | exact same

theorem cadence_changes (s : State) (x : ParkCadence) : Changes [.cadence] s { s with chime := { s.chime with cadence := x } } := by
  intro p hp
  have same := same_refl s p
  cases p <;> first | exact absurd (by decide) hp | exact same

theorem audio_changes (s : State) (x : AudioInput) (y : Table StereoIn 2) :
    Changes [.audioIn] s { s with pacer := { s.pacer with audio := x, film := y } } := by
  intro p hp
  have same := same_refl s p
  cases p <;> first | exact absurd (by decide) hp | exact same

/-- Placing a run changes the page map alone. -/
theorem placed_rest {place : Fmm → RunOwner → Nat → Option Fmm} (hp : place = Fmm.placeLow ∨ place = Fmm.placeHigh) {f g : Fmm}
    {o : RunOwner} {n : Nat} (h : place f o n = some g) : g.pending = f.pending ∧ g.record = f.record ∧ g.corrected = f.corrected := by
  rcases hp with rfl | rfl
  · unfold Fmm.placeLow at h
    split at h
    · cases h; exact ⟨rfl, rfl, rfl⟩
    · split at h <;> cases h; exact ⟨rfl, rfl, rfl⟩
  · unfold Fmm.placeHigh at h
    split at h
    · cases h; exact ⟨rfl, rfl, rfl⟩
    · split at h <;> cases h; exact ⟨rfl, rfl, rfl⟩

theorem pageMap_changes (s : State) {g : Fmm} (h : g.pending = s.fmm.pending ∧ g.record = s.fmm.record ∧ g.corrected = s.fmm.corrected) :
    Changes [.pageMap] s { s with fmm := g } := by
  obtain ⟨h1, h2, h3⟩ := h
  intro p hp
  have same := same_refl s p
  cases p <;> first | exact absurd (by decide) hp | exact h1 | exact ⟨h2, h3⟩ | exact same

/-! ### Start-up and the Control Link (chapters 9 and 10) -/

theorem execEnterRunning_changes (s : State) : ∃ t, execEnterRunning s = .next t ∧ Changes (footprint .enterRunning) s t :=
  ⟨_, rfl, enterRunning_changes s⟩

theorem execTransactionBegin_changes (s : State) :
    ∃ t, execTransactionBegin s = .next t ∧ Changes (footprint .transactionBegin) s t := by
  unfold execTransactionBegin
  split
  · exact ⟨_, rfl, .refl _ _⟩
  · exact ⟨_, rfl, setTransaction_changes _ _⟩

theorem execTransactionEnd_changes (r : List Byte) (s : State) :
    ∃ t, execTransactionEnd r s = .next t ∧ Changes (footprint (.transactionEnd r)) s t := by
  show ∃ t, _ ∧ Changes startPieces s t
  unfold execTransactionEnd
  split
  · exact ⟨_, rfl, .ite ((setTransaction_changes _ _).mono) (((setTransaction_changes s none).mono).trans (takeFrame_changes _ _))⟩
  · exact ⟨_, rfl, takeFrame_changes _ _⟩

theorem execReplyCollected_changes (s : State) : ∃ t, execReplyCollected s = .next t ∧ Changes (footprint .replyCollected) s t := by
  unfold execReplyCollected
  split
  · split
    · exact ⟨_, rfl, (collect_changes s).trans (setTransaction_changes _ _)⟩
    · exact ⟨_, rfl, .refl _ _⟩
  · exact ⟨_, rfl, collect_changes s⟩

theorem execFetchNotices_changes (s : State) : ∃ t, execFetchNotices s = .next t ∧ Changes (footprint .fetchNotices) s t :=
  ⟨_, rfl, request_changes (fun t => notices_changes t _) s⟩

/-! ### Frame memory (chapter 1) -/

theorem execReadPageMap_changes (b : Body Nat) (s : State) : ∃ t, execReadPageMap b s = .next t ∧ Changes (footprint (.readPageMap b)) s t :=
  ⟨_, rfl, queryWith_changes (fun f t => by split <;> rfl) b s⟩

theorem execGetMemoryError_changes (s : State) : ∃ t, execGetMemoryError s = .next t ∧ Changes (footprint .getMemoryError) s t :=
  ⟨_, rfl, request_changes (fun t => record_changes t _ t.fmm.corrected) s⟩

/-! ### Vehicle signals (chapter 2) -/

theorem execSetRule_changes (b : Body SetRule) (s : State) : ∃ t, execSetRule b s = .next t ∧ Changes (footprint (.setRule b)) s t :=
  ⟨_, rfl, requestWith_changes (ps := .rules :: signalPieces) (fun f t => by
    split
    · exact .refl _ _
    · exact ite_refused (storeRule_changes _ _ _)) b s⟩

theorem execClearRule_changes (b : Body Nat) (s : State) : ∃ t, execClearRule b s = .next t ∧ Changes (footprint (.clearRule b)) s t :=
  ⟨_, rfl, requestWith_changes (ps := .rules :: signalPieces) (fun f t => by
    split
    · exact .refl _ _
    · exact emptyRule_changes _ _) b s⟩

theorem execReadRules_changes (b : Body Nat) (s : State) : ∃ t, execReadRules b s = .next t ∧ Changes (footprint (.readRules b)) s t :=
  ⟨_, rfl, queryWith_changes (fun f t => by split <;> rfl) b s⟩

theorem execSetReverseSource_changes (b : Body SetReverseSource) (s : State) :
    ∃ t, execSetReverseSource b s = .next t ∧ Changes (footprint (.setReverseSource b)) s t :=
  ⟨_, rfl, requestWith_changes (ps := .reverse :: reversePieces) (fun f t => by
    split
    · exact .refl _ _
    · exact takeReverseSource_changes _ _ _) b s⟩

/-! ### Film streams (chapter 3) -/

theorem openStream_changes (s : State) (i : StreamId) (f : OpenStream) (p : PixelFormat) (n : Nat) {g : Fmm}
    (h : g.pending = s.fmm.pending ∧ g.record = s.fmm.record ∧ g.corrected = s.fmm.corrected) :
    Changes [.pageMap, .rings, .vin, .notices] s (s.openStream i f p n g) :=
  ((((pageMap_changes s h).mono).trans ((putStream_changes _ _ _).mono)).trans ((putVin_changes _ _ _).mono)).trans
    ((setStreamState_changes _ _ _).mono)

theorem execOpenStream_changes (b : Body OpenStream) (s : State) :
    ∃ t, execOpenStream b s = .next t ∧ Changes (footprint (.openStream b)) s t :=
  ⟨_, rfl, requestWith_changes (ps := [.pageMap, .rings, .vin, .notices]) (fun _ _ => withStream_changes fun _ => by
    split
    · exact .refl _ _
    · refine ite_refused ?_
      dsimp only
      split
      · exact .refl _ _
      · exact .refl _ _
      · rename_i placed
        exact openStream_changes _ _ _ _ _ (placed_rest (.inl rfl) (allocate_placed placed))) b s⟩

theorem closeStream_changes (s : State) (i : StreamId) :
    Changes [.pageMap, .consequences, .rings, .vin, .outRun, .notices] s (s.closeStream i) := by
  unfold State.closeStream
  dsimp only
  refine Changes.trans (Changes.trans ?_ ((mapFrames_changes _ _).mono)) ((setStreamState_changes _ _ _).mono)
  refine Changes.trans (Changes.trans ((putVin_changes s i (s.vin i).dropPicture).mono) ?_) ((putStream_changes _ _ _).mono)
  exact (fmmFree_changes _ _).mono

theorem execCloseStream_changes (b : Body Nat) (s : State) :
    ∃ t, execCloseStream b s = .next t ∧ Changes (footprint (.closeStream b)) s t :=
  ⟨_, rfl, requestWith_changes (ps := [.pageMap, .consequences, .rings, .vin, .outRun, .notices])
    (fun _ t => withStream_changes fun i => ite_refused (closeStream_changes t i)) b s⟩

theorem execSetClock_changes (b : Body SetClock) (s : State) : ∃ t, execSetClock b s = .next t ∧ Changes (footprint (.setClock b)) s t :=
  ⟨_, rfl, requestWith_changes (fun _ _ => withStream_changes fun _ => ite_refused (putStream_changes _ _ _)) b s⟩

theorem execRunStream_changes (b : Body Nat) (s : State) : ∃ t, execRunStream b s = .next t ∧ Changes (footprint (.runStream b)) s t :=
  ⟨_, rfl, requestWith_changes (ps := [.rings, .notices]) (fun _ _ => withStream_changes fun _ => by
    split <;> first | exact .refl _ _ | exact setStreamState_changes _ _ _) b s⟩

theorem execPauseStream_changes (b : Body Nat) (s : State) :
    ∃ t, execPauseStream b s = .next t ∧ Changes (footprint (.pauseStream b)) s t :=
  ⟨_, rfl, requestWith_changes (ps := [.rings, .notices]) (fun _ _ => withStream_changes fun _ => by
    split <;> first | exact .refl _ _ | exact setStreamState_changes _ _ _) b s⟩

theorem execFlushStream_changes (b : Body Nat) (s : State) :
    ∃ t, execFlushStream b s = .next t ∧ Changes (footprint (.flushStream b)) s t :=
  ⟨_, rfl, requestWith_changes (ps := [.rings, .vin]) (fun _ _ => withStream_changes fun _ => ite_refused
    (((putVin_changes _ _ _).mono).trans ((putStream_changes _ _ _).mono))) b s⟩

theorem execSetStream_changes (b : Body SetStream) (s : State) :
    ∃ t, execSetStream b s = .next t ∧ Changes (footprint (.setStream b)) s t :=
  ⟨_, rfl, requestWith_changes (fun _ _ => withStream_changes fun _ => ite_refused (putStream_changes _ _ _)) b s⟩

theorem execGetStream_changes (b : Body Nat) (s : State) : ∃ t, execGetStream b s = .next t ∧ Changes (footprint (.getStream b)) s t :=
  ⟨_, rfl, requestWith_changes (ps := []) (fun _ _ => withStream_changes fun _ => .refl _ _) b s⟩

theorem execPaceTimerTick_changes (s : State) : ∃ t, execPaceTimerTick s = .next t ∧ Changes (footprint .paceTimerTick) s t :=
  ⟨_, rfl, .ite (.foldl (fun t i => .ite (pace_changes t i _) (.refl _ _)) _ s) (.refl _ _)⟩

theorem endVinFrame_changes (s : State) (p : StreamId) (early : Bool) :
    Changes [.vin, .rings, .layers, .notices] s (s.endVinFrame p early) := by
  have idle := (putVin_changes s p .idle).mono (qs := [.vin, .rings, .layers, .notices])
  unfold State.endVinFrame
  dsimp only
  split
  · exact idle.trans ((endPicture_changes _ _ _ _).mono)
  · exact .ite (idle.trans ((completeLayerFrame_changes _ _ _).mono)) (idle.trans ((failLayerFrame_changes _ _).mono))
  all_goals exact idle

theorem execVinFrameStart_changes (p : StreamId) (s : State) :
    ∃ t, execVinFrameStart p s = .next t ∧ Changes (footprint (.vinFrameStart p)) s t :=
  ⟨_, rfl, (endVinFrame_changes s p true).trans ((putVin_changes _ _ _).mono)⟩

theorem execVinFrameEnd_changes (p : StreamId) (s : State) :
    ∃ t, execVinFrameEnd p s = .next t ∧ Changes (footprint (.vinFrameEnd p)) s t := ⟨_, rfl, endVinFrame_changes s p false⟩

theorem readTagLine_changes (s : State) (p : StreamId) (stale : Bool) (line : List Byte) :
    Changes [.vin, .rings, .layers, .notices] s (s.readTagLine p stale line) := by
  unfold State.readTagLine
  split
  · exact .ite ((putVin_changes _ _ _).mono) ((badTag_changes _ _).mono)
  · exact (beginLayerFrame_changes _ _ _ _ _ _).mono
  · exact .ite ((putVin_changes _ _ _).mono) (.ite ((selectSlot_changes _ _ _).mono) ((badTag_changes _ _).mono))

theorem execVinLine0Complete_changes (p : StreamId) (line : List Byte) (s : State) :
    ∃ t, execVinLine0Complete p line s = .next t ∧ Changes (footprint (.vinLine0Complete p line)) s t := by
  unfold execVinLine0Complete
  split <;> first | exact ⟨_, rfl, .refl _ _⟩ | exact ⟨_, rfl, readTagLine_changes _ _ _ _⟩

theorem execVinPictureLine_changes (p : StreamId) (line : List Byte) (s : State) :
    ∃ t, execVinPictureLine p line s = .next t ∧ Changes (footprint (.vinPictureLine p line)) s t := by
  show ∃ t, _ ∧ Changes [.memory, .vin, .rings, .layers, .notices] s t
  unfold execVinPictureLine
  split <;> first
  | exact ⟨_, rfl, .refl _ _⟩
  | exact ⟨_, rfl, (pictureLine_changes _ _ _ _).mono⟩
  | exact ⟨_, rfl, (layerLine_changes _ _ _ _ _ _).mono⟩

theorem execSaiSamplePeriod_changes (al ar bl br : BitVec 16) (s : State) :
    ∃ t, execSaiSamplePeriod al ar bl br s = .next t ∧ Changes (footprint (.saiSamplePeriod al ar bl br)) s t :=
  ⟨_, rfl, audio_changes s .present _⟩

theorem execAudioInputLost_changes (s : State) : ∃ t, execAudioInputLost s = .next t ∧ Changes (footprint .audioInputLost) s t := by
  unfold execAudioInputLost
  split
  · exact ⟨_, rfl, ((audio_changes s .lost _).mono).trans
      ((Changes.foldl (ps := [.notices]) (fun t i => .ite (.refl _ _) (report_changes _ _)) _ _).mono)⟩
  · exact ⟨_, rfl, .refl _ _⟩

/-! ### Layers (chapter 4) -/

theorem execCreateLayer_changes (b : Body CreateLayer) (s : State) :
    ∃ t, execCreateLayer b s = .next t ∧ Changes (footprint (.createLayer b)) s t :=
  ⟨_, rfl, requestWith_changes (ps := [.pageMap, .clearing]) (fun f t => by
    dsimp only
    split
    · exact .refl _ _
    · refine ite_refused ?_
      split
      · exact .refl _ _
      · exact .refl _ _
      · rename_i placed
        exact ((pageMap_changes t (placed_rest (.inr rfl) (allocate_placed placed))).mono).trans
          ((clearing_changes { t with fmm := _ } _).mono)) b s⟩

theorem finishClearing_changes (s : State) (c : Clearing) : Changes [.memory, .layers, .clearing] s (s.finishClearing c) := by
  unfold State.finishClearing
  dsimp only
  refine Changes.trans (Changes.trans ?_ ((putLayer_changes _ _ _).mono)) ((clearing_changes _ _).mono)
  exact (mem_changes s _).mono

theorem execLayerRunCleared_changes (s : State) : ∃ t, execLayerRunCleared s = .next t ∧ Changes (footprint .layerRunCleared) s t := by
  unfold execLayerRunCleared
  split
  · exact ⟨_, rfl, .refl _ _⟩
  · exact ⟨_, rfl, ((finishClearing_changes s _).mono).trans ((answer_changes _ _ _ _).mono)⟩

theorem execDeleteLayer_changes (b : Body Nat) (s : State) :
    ∃ t, execDeleteLayer b s = .next t ∧ Changes (footprint (.deleteLayer b)) s t :=
  ⟨_, rfl, requestWith_changes (fun _ _ => withLayer_changes fun _ => ite_refused (deleteLayer_changes _ _)) b s⟩

theorem setLayer_changes (s : State) (n : Fin 24) (f : SetLayer) : Changes [.layers, .notices] s (s.setLayer n f) :=
  ((putLayer_changes _ _ _).mono).trans (settleFlips_changes _)

theorem execSetLayer_changes (b : Body SetLayer) (s : State) : ∃ t, execSetLayer b s = .next t ∧ Changes (footprint (.setLayer b)) s t :=
  ⟨_, rfl, requestWith_changes (fun f t => withLayer_changes fun n => ite_refused (ite_refused (by
    split
    · exact .refl _ _
    · exact (setLayer_changes t n f).effect))) b s⟩

theorem execGetLayer_changes (b : Body Nat) (s : State) : ∃ t, execGetLayer b s = .next t ∧ Changes (footprint (.getLayer b)) s t :=
  ⟨_, rfl, requestWith_changes (ps := []) (fun _ _ => withLayer_changes fun _ => .refl _ _) b s⟩

theorem loadBlock_changes (s : State) (n : Fin 24) (offset : Nat) (data : List Byte) :
    Changes [.memory, .layers, .notices] s (s.loadBlock n offset data) := by
  have loaded := fun m l => (((mem_changes s m).mono (qs := [.memory, .layers, .notices])).trans ((putLayer_changes _ n l).mono))
  exact .ite (((loaded _ _).trans ((report_changes _ _).mono)).trans ((repair_changes _ _ _).mono)) (loaded _ _)

theorem execLoadBlock_changes (b : Body LoadBlock) (s : State) : ∃ t, execLoadBlock b s = .next t ∧ Changes (footprint (.loadBlock b)) s t :=
  ⟨_, rfl, requestWith_changes (fun _ _ => withLayer_changes fun _ =>
    ite_refused (ite_refused (ite_refused (ite_refused (loadBlock_changes _ _ _ _))))) b s⟩

theorem execPresent_changes (b : Body Nat) (s : State) : ∃ t, execPresent b s = .next t ∧ Changes (footprint (.present b)) s t :=
  ⟨_, rfl, requestWith_changes (fun _ _ => withLayer_changes fun _ => ite_refused (ite_refused (requestFlip_changes _ _))) b s⟩

theorem designate_changes (s : State) (c : Card) (n : Option (Fin 24)) :
    Changes [.designations, .layers, .notices] s (s.designate c n) :=
  ((designations_changes s _).mono).trans ((settleFlips_changes _).mono)

theorem execSetCard_changes (b : Body SetCard) (s : State) : ∃ t, execSetCard b s = .next t ∧ Changes (footprint (.setCard b)) s t :=
  ⟨_, rfl, requestWith_changes (ps := [.designations, .layers, .notices]) (fun f t => by
    split
    · exact .refl _ _
    · exact (designate_changes t _ none).effect
    · exact withLayer_changes fun n => ite_refused (designate_changes t _ (some n)).effect) b s⟩

/-! ### Outputs (chapter 5) -/

theorem setOutput_changes (s : State) (o : Output) (f : SetOutput) (x : Option StreamId) :
    Changes (.outSettings :: .free :: viewPieces) s (s.setOutput o f x) := by
  have put := fun r => (putOut_changes s o r).mono (qs := .outSettings :: .free :: viewPieces)
  unfold State.setOutput
  dsimp only
  split
  · exact ((put _).trans ((ownerChanged_changes _ _ _).mono)).trans ((refresh_changes _ _).mono)
  · exact (put _).trans ((turnOff_changes _ _ _).mono)
  all_goals exact put _

theorem execSetOutput_changes (b : Body SetOutput) (s : State) : ∃ t, execSetOutput b s = .next t ∧ Changes (footprint (.setOutput b)) s t :=
  ⟨_, rfl, requestWith_changes (ps := .outSettings :: .free :: viewPieces) (fun _ _ => withOutput_changes fun _ => by
    split
    · exact .refl _ _
    · exact ite_refused (ite_refused (setOutput_changes _ _ _ _))) b s⟩

theorem execGetOutput_changes (b : Body Nat) (s : State) : ∃ t, execGetOutput b s = .next t ∧ Changes (footprint (.getOutput b)) s t :=
  ⟨_, rfl, requestWith_changes (ps := []) (fun _ _ => withOutput_changes fun _ => .refl _ _) b s⟩


/-- A record replaced by one that differs in its owner state alone. -/
theorem putOut_owners (s : State) (o : Output) (r : OutputRec)
    (settings : r.hostTiming = (s.out o).hostTiming ∧ r.background = (s.out o).background ∧ r.source = (s.out o).source ∧
      r.mirror = (s.out o).mirror)
    (run : r.activeTiming = (s.out o).activeTiming ∧ r.linger = (s.out o).linger ∧ r.frame = (s.out o).frame ∧
      r.shownCard = (s.out o).shownCard ∧ r.lastFit = (s.out o).lastFit) : Changes [.owners] s (s.putOut o r) := by
  intro p hp
  by_cases h : p = .outRun
  · subst h
    intro q
    rw [putOut_out]
    split
    · subst_vars; exact run
    · exact ⟨rfl, rfl, rfl, rfl, rfl⟩
  · exact putOut_owner s o r settings p (by simp at hp; simp [h, hp])

theorem showOn_changes (set : OutputSet) (s : State) (o : Output) : Changes (.owners :: ownerPieces) s (s.showOn set o) :=
  .ite (((putOut_owners s o { s.out o with owner := .camera, reason := .request } ⟨rfl, rfl, rfl, rfl⟩
    ⟨rfl, rfl, rfl, rfl, rfl⟩).mono).trans ((ownerChanged_changes _ _ _).mono)) (.refl _ _)

theorem execShowCamera_changes (b : Body Members) (s : State) :
    ∃ t, execShowCamera b s = .next t ∧ Changes (footprint (.showCamera b)) s t :=
  ⟨_, rfl, requestWith_changes (ps := .owners :: ownerPieces) (fun (f : Members) t => ite_refused (ite_refused
    (Changes.foldl (showOn_changes f.set) outputs t).effect)) b s⟩

theorem releaseOn_changes (set : OutputSet) (s : State) (o : Output) : Changes viewPieces s (s.releaseOn set o) := by
  unfold State.releaseOn
  dsimp only
  refine .ite ?_ (.refl _ _)
  split
  · exact afterView_changes _ _ _
  · exact .ite ((toNormal_changes _ _ _).mono) (.refl _ _)
  · exact .refl _ _
  · exact .refl _ _

theorem execReleaseView_changes (b : Body Members) (s : State) :
    ∃ t, execReleaseView b s = .next t ∧ Changes (footprint (.releaseView b)) s t :=
  ⟨_, rfl, requestWith_changes (ps := viewPieces) (fun (f : Members) t => ite_refused (Changes.foldl (releaseOn_changes f.set) outputs t).effect) b s⟩

theorem setPolicy_changes (s : State) (f : SetViewPolicy) :
    Changes ([Piece.policy, .suppression, .lostLatch] ++ reversePieces) s (s.setPolicy f) := by
  have speed : ∀ t : State, Changes ([Piece.policy, .suppression, .lostLatch] ++ reversePieces) t t.lingerSpeedChanged := fun t =>
    (((latchTest_changes t).mono).trans ((evalRev_changes _ _).mono)).trans ((speedTest_changes _).mono)
  have linger : ∀ t : State, Changes ([Piece.policy, .suppression, .lostLatch] ++ reversePieces) t
      (if f.lingerTime.isSome then outputs.foldl State.lingerDue t else t) := fun t =>
    .ite ((Changes.foldl lingerDue_changes _ _).mono) (.refl _ _)
  have limit : ∀ (c : Prop) [Decidable c] (t : State), Changes ([Piece.policy, .suppression, .lostLatch] ++ reversePieces) t
      (if c then t else t.suppressionTest) := fun c _ t => .ite (.refl _ _) ((suppressionTest_changes t).mono)
  unfold State.setPolicy
  dsimp only
  refine Changes.trans (Changes.trans ((policy_changes s (SetViewPolicy.store f s.comp.policy)).mono) ?_) (limit _ _)
  exact (linger _).trans (.ite (.refl _ _) (speed _))

theorem execSetViewPolicy_changes (b : Body SetViewPolicy) (s : State) :
    ∃ t, execSetViewPolicy b s = .next t ∧ Changes (footprint (.setViewPolicy b)) s t :=
  ⟨_, rfl, requestWith_changes (fun f t => ite_refused (setPolicy_changes t f).effect) b s⟩

/-! ### The camera (chapter 6) -/

theorem formatChanged_changes (s : State) : Changes (.capture :: cameraPieces) s s.formatChanged := by
  have cam : Changes (.capture :: cameraPieces) s { s with cam := { s.cam with
      slots := ((s.cam.slots.upd 0 CaptureSlot.emptied).upd 1 CaptureSlot.emptied).upd 2 CaptureSlot.emptied
      order := []
      shown := none } } := by
    intro p hp
    have same := same_refl s p
    cases p <;> first | exact absurd (by decide) hp | exact same
  exact cam.trans ((handGuide_changes _ _ ⟨rfl, rfl, rfl⟩).mono)

theorem setCamera_changes (s : State) (f : SetCamera) : Changes (.camSettings :: .capture :: cameraPieces) s (s.setCamera f) := by
  have due : ∀ t : State, Changes (.camSettings :: .capture :: cameraPieces) t t.cameraDue := fun t =>
    .ite ((wakeExpired_changes t).mono) ((frameExpired_changes t).mono)
  have settings := (camSettings_changes s (SetCamera.store f s.cam.settings)).mono (qs := .camSettings :: .capture :: cameraPieces)
  have format : ∀ t : State, Changes (.camSettings :: .capture :: cameraPieces) t (if f.format.isSome then t.formatChanged else t) :=
    fun t => .ite ((formatChanged_changes t).mono) (.refl _ _)
  unfold State.setCamera
  dsimp only
  refine Changes.trans ?_ ((followCamera_changes _).mono)
  exact (settings.trans (format _)).trans (.ite (due _) (.refl _ _))

theorem execSetCamera_changes (b : Body SetCamera) (s : State) : ∃ t, execSetCamera b s = .next t ∧ Changes (footprint (.setCamera b)) s t :=
  ⟨_, rfl, requestWith_changes (fun f t => ite_refused (ite_refused (setCamera_changes t f).effect)) b s⟩

theorem execCameraLine_changes (line : List Byte) (s : State) :
    ∃ t, execCameraLine line s = .next t ∧ Changes (footprint (.cameraLine line)) s t := by
  unfold execCameraLine
  split
  · exact ⟨_, rfl, captureLine_changes _ _ _⟩
  · exact ⟨_, rfl, .refl _ _⟩

/-! ### The guide (chapter 7) -/

theorem geometry_changes (s : State) (g : Guide) (h : g = { s.guide with geometry := g.geometry, valid := g.valid, style := g.style }) :
    Changes [.geometry] s { s with guide := g } := by
  rw [h]
  intro p hp
  have same := same_refl s p
  cases p <;> first | exact absurd (by decide) hp | exact same

theorem execSetGeometry_changes (b : Body SetGeometry) (s : State) :
    ∃ t, execSetGeometry b s = .next t ∧ Changes (footprint (.setGeometry b)) s t :=
  ⟨_, rfl, requestWith_changes (ps := [.geometry, .guide]) (fun f t => ite_block (Changes.effect
    (((geometry_changes t _ rfl).mono).trans ((requestRecompute_changes _).mono))) (.refl _ _)) b s⟩

theorem execSetGuideStyle_changes (b : Body SetGuideStyle) (s : State) :
    ∃ t, execSetGuideStyle b s = .next t ∧ Changes (footprint (.setGuideStyle b)) s t :=
  ⟨_, rfl, requestWith_changes (ps := [.geometry, .guide]) (fun f t => ite_refused (Changes.effect
    (((geometry_changes t _ rfl).mono).trans ((requestRecompute_changes _).mono)))) b s⟩

/-! ### Chimes, samples and the mix (chapter 8) -/

theorem afterAdmission_changes (s : State) (b : Bool) : Changes chimePieces s (s.afterAdmission b) :=
  (Changes.ite ((preempt_changes s).mono) ((chooseChime_changes s).mono)).trans ((syncPlaying_changes _).mono)

theorem admitHost_changes (s : State) (c : ChimeClass) (x : Sound) (n : Nat) (tag : Byte) :
    Changes chimePieces s (s.admitHost c x n tag).1 := by
  unfold State.admitHost
  split
  · split
    · exact ((putEntry_changes _ _ _).mono).trans (afterAdmission_changes _ _)
    · exact .refl _ _
  · split
    · exact ((makeEntry_changes _ _ _ _ _ _ _).mono).trans (afterAdmission_changes _ _)
    · split
      · split
        · refine Changes.trans (Changes.trans (Changes.trans (((endEntry_changes _ _ _).mono).trans
            ((makeEntry_changes _ _ _ _ _ _ _).mono)) (.ite ((preempt_changes _).mono) ((chooseChime_changes _).mono)))
            ((retryPark_changes _).mono)) ((syncPlaying_changes _).mono)
        · exact .refl _ _
      · exact .refl _ _

theorem execPlayChime_changes (b : Body PlayChime) (s : State) : ∃ t, execPlayChime b s = .next t ∧ Changes (footprint (.playChime b)) s t :=
  ⟨_, rfl, requestWith_changes (ps := chimePieces) (fun f t => by
    split
    · split
      · exact .refl _ _
      · dsimp only
        split
        · exact (admitHost_changes _ _ _ _ _).effect
        · exact .refl _ _
    · exact .refl _ _) b s⟩

theorem execCancelChime_changes (b : Body CancelChime) (s : State) :
    ∃ t, execCancelChime b s = .next t ∧ Changes (footprint (.cancelChime b)) s t :=
  ⟨_, rfl, requestWith_changes (ps := chimePieces) (fun f t => by
    split
    · exact .refl _ _
    · split
      · exact .refl _ _
      · exact ite_refused (Changes.effect ((((endEntry_changes t _ _).mono).trans ((afterEnd_changes _).mono)).trans
          ((syncPlaying_changes _).mono)))) b s⟩

theorem execDefineSample_changes (b : Body DefineSample) (s : State) :
    ∃ t, execDefineSample b s = .next t ∧ Changes (footprint (.defineSample b)) s t :=
  ⟨_, rfl, requestWith_changes (ps := [.pageMap, .samples]) (fun f t => withSample_changes fun n => ite_refused (by
    dsimp only
    split
    · exact .refl _ _
    · exact .refl _ _
    · rename_i placed
      exact (((pageMap_changes t (placed_rest (.inr rfl) (allocate_placed placed))).mono).trans
        ((putSample_changes _ _ _).mono)).effect)) b s⟩

theorem loadSample_changes (s : State) (n : Fin 16) (offset : Nat) (data : List Byte) :
    Changes [.memory, .samples] s (s.loadSample n offset data) := ((mem_changes s _).mono).trans ((putSample_changes _ _ _).mono)

theorem execLoadSampleBlock_changes (b : Body LoadSample) (s : State) :
    ∃ t, execLoadSampleBlock b s = .next t ∧ Changes (footprint (.loadSampleBlock b)) s t :=
  ⟨_, rfl, requestWith_changes (fun _ t => withSample_changes fun n =>
    ite_refused (ite_refused (ite_refused (ite_refused (loadSample_changes t n _ _).effect)))) b s⟩

theorem execFreeSample_changes (b : Body Nat) (s : State) : ∃ t, execFreeSample b s = .next t ∧ Changes (footprint (.freeSample b)) s t :=
  ⟨_, rfl, requestWith_changes (ps := [.pageMap, .consequences, .samples]) (fun _ t => withSample_changes fun n =>
    ite_refused (ite_refused (Changes.effect (((fmmFree_changes t (.sample n)).mono).trans ((putSample_changes _ _ _).mono))))) b s⟩

theorem execSetMix_changes (b : Body SetMix) (s : State) : ∃ t, execSetMix b s = .next t ∧ Changes (footprint (.setMix b)) s t :=
  ⟨_, rfl, requestWith_changes (ps := [.mixer]) (fun f t => by
    split
    · exact .refl _ _
    · split
      · exact .refl _ _
      · exact ite_refused (mixer_changes t _).effect) b s⟩

theorem execSetParkCadence_changes (b : Body SetParkCadence) (s : State) :
    ∃ t, execSetParkCadence b s = .next t ∧ Changes (footprint (.setParkCadence b)) s t :=
  ⟨_, rfl, requestWith_changes (ps := .cadence :: chimePieces) (fun f t => ite_refused (Changes.effect
    (((cadence_changes t _).mono).trans ((parkEvent_changes _).mono)))) b s⟩

theorem execOutputSamplePeriod_changes (s : State) :
    ∃ t, execOutputSamplePeriod s = .next t ∧ Changes (footprint .outputSamplePeriod) s t :=
  ⟨_, rfl, (((handDue_changes s .chime).trans ((formSample_changes _).mono)).trans ((advanceVoice_changes _).mono)).trans
    ((syncPlaying_changes _).mono)⟩

/-! ### The Calibration Store and the self-test (chapter 10) -/

theorem execReadSector_changes (b : Body ReadSector) (s : State) :
    ∃ t, execReadSector b s = .next t ∧ Changes (footprint (.readSector b)) s t :=
  ⟨_, rfl, queryWith_changes (fun f t => by
    split
    · split <;> rfl
    · rfl) b s⟩

theorem beginStoreOp_changes (s : State) (n : Fin 8) (k : StoreOpKind) : Changes [.store] s (s.beginStoreOp n k) :=
  (putSector_changes s n _).trans (store_changes _ _)

theorem execEraseSector_changes (b : Body Nat) (s : State) :
    ∃ t, execEraseSector b s = .next t ∧ Changes (footprint (.eraseSector b)) s t :=
  ⟨_, rfl, requestWith_changes (ps := [.store]) (fun k t => by
    split
    · exact .refl _ _
    · exact ite_refused (ite_refused (beginStoreOp_changes t _ _).effect)) b s⟩

theorem execWriteSector_changes (b : Body WriteSector) (s : State) :
    ∃ t, execWriteSector b s = .next t ∧ Changes (footprint (.writeSector b)) s t :=
  ⟨_, rfl, requestWith_changes (ps := [.store]) (fun f t => by
    split
    · exact ite_refused (ite_refused (ite_refused (beginStoreOp_changes t _ _).effect))
    · exact .refl _ _) b s⟩

theorem execStoreOperationEnd_changes (s : State) :
    ∃ t, execStoreOperationEnd s = .next t ∧ Changes (footprint .storeOperationEnd) s t := by
  unfold execStoreOperationEnd
  split
  · exact ⟨_, rfl, .refl _ _⟩
  · exact ⟨_, rfl, (((putSector_changes s _ _).mono).trans ((store_changes _ _).mono)).trans ((report_changes _ _).mono)⟩

theorem execRunSelfTest_changes (s : State) : ∃ t, execRunSelfTest s = .next t ∧ Changes (footprint .runSelfTest) s t :=
  ⟨_, rfl, request_changes (fun t => ite_refused (selfTest_changes t _).effect) s⟩

theorem endSelfTest_changes (s : State) (b : Bool) : Changes ([Piece.memory, .selfTest] ++ handPieces) s (s.endSelfTest b) := by
  unfold State.endSelfTest
  split
  · exact .refl _ _
  · exact ((((mem_changes s _).mono).trans ((handDue_changes _ _).mono)).trans ((selfTest_changes _ _).mono)).trans
      ((report_changes _ _).mono)

/-! ### Every command -/

/-- Every command answers a next state, and changes at most the pieces of its footprint. -/
theorem exec_changes (c : Instr) (s : State) : ∃ t, exec c s = .next t ∧ Changes (footprint c) s t := by
  cases c with
  | powerOn => exact ⟨_, rfl, startUp_changes _ _⟩
  | resetLine => exact ⟨_, rfl, startUp_changes _ _⟩
  | enterRunning => exact execEnterRunning_changes s
  | transactionBegin => exact execTransactionBegin_changes s
  | transactionEnd r => exact execTransactionEnd_changes r s
  | requestTaken f => exact ⟨_, rfl, frameEnds_changes (fun _ => takeFrame_changes _ _) s⟩
  | replyCollected => exact execReplyCollected_changes s
  | getIdentity => exact ⟨_, rfl, query_changes (fun _ => rfl) s⟩
  | fetchNotices => exact execFetchNotices_changes s
  | resetPart b => exact ⟨_, rfl, frameEnds_changes (fun _ => takeGood_changes _ _ _ _) s⟩
  | getState => exact ⟨_, rfl, query_changes (fun _ => rfl) s⟩
  | readPageMap b => exact execReadPageMap_changes b s
  | getMemoryError => exact execGetMemoryError_changes s
  | setRule b => exact execSetRule_changes b s
  | clearRule b => exact execClearRule_changes b s
  | readRules b => exact execReadRules_changes b s
  | readSignals => exact ⟨_, rfl, query_changes (fun _ => rfl) s⟩
  | setReverseSource b => exact execSetReverseSource_changes b s
  | openStream b => exact execOpenStream_changes b s
  | closeStream b => exact execCloseStream_changes b s
  | setClock b => exact execSetClock_changes b s
  | runStream b => exact execRunStream_changes b s
  | pauseStream b => exact execPauseStream_changes b s
  | flushStream b => exact execFlushStream_changes b s
  | setStream b => exact execSetStream_changes b s
  | getStream b => exact execGetStream_changes b s
  | createLayer b => exact execCreateLayer_changes b s
  | layerRunCleared => exact execLayerRunCleared_changes s
  | deleteLayer b => exact execDeleteLayer_changes b s
  | setLayer b => exact execSetLayer_changes b s
  | getLayer b => exact execGetLayer_changes b s
  | loadBlock b => exact execLoadBlock_changes b s
  | present b => exact execPresent_changes b s
  | setCard b => exact execSetCard_changes b s
  | setOutput b => exact execSetOutput_changes b s
  | getOutput b => exact execGetOutput_changes b s
  | showCamera b => exact execShowCamera_changes b s
  | releaseView b => exact execReleaseView_changes b s
  | setViewPolicy b => exact execSetViewPolicy_changes b s
  | setCamera b => exact execSetCamera_changes b s
  | getCamera => exact ⟨_, rfl, query_changes (fun _ => rfl) s⟩
  | setGeometry b => exact execSetGeometry_changes b s
  | getGeometry => exact ⟨_, rfl, query_changes (fun _ => rfl) s⟩
  | setGuideStyle b => exact execSetGuideStyle_changes b s
  | playChime b => exact execPlayChime_changes b s
  | cancelChime b => exact execCancelChime_changes b s
  | getChimes => exact ⟨_, rfl, query_changes (fun _ => rfl) s⟩
  | defineSample b => exact execDefineSample_changes b s
  | loadSampleBlock b => exact execLoadSampleBlock_changes b s
  | freeSample b => exact execFreeSample_changes b s
  | setMix b => exact execSetMix_changes b s
  | getMix => exact ⟨_, rfl, query_changes (fun _ => rfl) s⟩
  | setParkCadence b => exact execSetParkCadence_changes b s
  | readSector b => exact execReadSector_changes b s
  | eraseSector b => exact execEraseSector_changes b s
  | writeSector b => exact execWriteSector_changes b s
  | storeOperationEnd => exact execStoreOperationEnd_changes s
  | runSelfTest => exact execRunSelfTest_changes s
  | selfTestEnd b => exact ⟨_, rfl, endSelfTest_changes s b⟩
  | busFrame r => exact ⟨_, rfl, receive_changes s r⟩
  | signalHeld i => exact ⟨_, rfl, signalHeld_changes s i⟩
  | signalLost i => exact ⟨_, rfl, signalLost_changes s i⟩
  | revInChange b => exact ⟨_, rfl, lineChange_changes s b⟩
  | debounceExpiry => exact ⟨_, rfl, debounced_changes s⟩
  | lingerTimerExpiry o => exact ⟨_, rfl, lingerDue_changes s o⟩
  | refreshEvent o => exact ⟨_, rfl, refresh_changes s o⟩
  | drawingEnd => exact ⟨_, rfl, endDrawing_changes s⟩
  | paceTimerTick => exact execPaceTimerTick_changes s
  | vinFrameStart p => exact execVinFrameStart_changes p s
  | vinLine0Complete p line => exact execVinLine0Complete_changes p line s
  | vinPictureLine p line => exact execVinPictureLine_changes p line s
  | vinFrameEnd p => exact execVinFrameEnd_changes p s
  | saiSamplePeriod al ar bl br => exact execSaiSamplePeriod_changes al ar bl br s
  | audioInputLost => exact execAudioInputLost_changes s
  | outputSamplePeriod => exact execOutputSamplePeriod_changes s
  | mixerRampTick => exact ⟨_, rfl, mixer_changes s _⟩
  | cameraFrameStart => exact ⟨_, rfl, startCameraFrame_changes s⟩
  | cameraLine line => exact execCameraLine_changes line s
  | cameraFrameEnd => exact ⟨_, rfl, endCameraFrame_changes s⟩
  | wakeTimeout => exact ⟨_, rfl, wakeExpired_changes s⟩
  | frameTimeout => exact ⟨_, rfl, frameExpired_changes s⟩
  | correctedError => exact ⟨_, rfl, record_changes s s.fmm.record _⟩
  | uncorrectableError r w => exact ⟨_, rfl, findError_changes s r w.toNat⟩

end Sys2Proof.Machine
end

section
/-! PROOFS. Frame memory stays canonical and the page map lawful over every step (R2, R3, R5, R10). -/

namespace Sys2Proof.Machine

set_option Elab.async false

open Sys2Proof

/-- Frame memory is in canonical form (log 8) and the page map is lawful (R2, R5, R10). -/
def MemoryLawful (s : State) : Prop := s.mem.wf ∧ s.fmm.lawful

/-- The laws of the page map speak of its runs and boundaries alone. -/
theorem lawful_of_same {s t : State} (same : Piece.same s t .pageMap) (h : s.fmm.lawful) : t.fmm.lawful := by
  obtain ⟨runs, low, high⟩ := same
  have e : t.fmm = { s.fmm with pending := t.fmm.pending, record := t.fmm.record, corrected := t.fmm.corrected } := by
    show t.fmm = ⟨s.fmm.runs, s.fmm.lowTop, s.fmm.highBottom, _, _, _⟩
    rw [← runs, ← low, ← high]
  rw [e]
  exact h

section
variable {ps : List Piece} {s t : State} (h : MemoryLawful s) (c : Changes ps s t)
include h c

/-- A change that leaves the page map alone keeps the laws when it keeps frame memory canonical. -/
theorem MemoryLawful.of_mem (wf : t.mem.wf) (out : ps.contains .pageMap = false := by decide) : MemoryLawful t :=
  ⟨wf, lawful_of_same (c.at .pageMap out) h.2⟩

/-- A change that leaves frame memory alone keeps the laws when it keeps the page map lawful. -/
theorem MemoryLawful.of_fmm (lawful : t.fmm.lawful) (out : ps.contains .memory = false := by decide) : MemoryLawful t :=
  ⟨(c.at .memory out : t.mem = s.mem).symm ▸ h.1, lawful⟩

/-- A change that leaves both alone keeps the laws. -/
theorem MemoryLawful.of_changes (mem : ps.contains .memory = false := by decide) (map : ps.contains .pageMap = false := by decide) :
    MemoryLawful t := h.of_fmm c (lawful_of_same (c.at .pageMap map) h.2) mem

end

/-- A request keeps the laws when its block does. -/
theorem request_memoryLawful {code : Byte} {block : State → State × Reply} (hb : ∀ t, MemoryLawful t → MemoryLawful (block t).1)
    {s : State} (h : MemoryLawful s) : MemoryLawful (request code block s) := by
  have taken := h.of_changes (taking_changes s code)
  have acted := hb _ taken
  unfold request
  dsimp only
  split
  · split
    · rename_i e
      rw [e] at acted
      exact acted.of_changes (answer_changes _ _ _ _)
    · rename_i e
      rwa [e] at acted
  · exact taken

theorem requestWith_memoryLawful {α : Type} {code : Byte} {block : α → State → State × Reply}
    (hb : ∀ f t, MemoryLawful t → MemoryLawful (block f t).1) (b : Body α) {s : State} (h : MemoryLawful s) :
    MemoryLawful (requestWith code b block s) := by
  refine request_memoryLawful (fun t ht => ?_) h
  cases b with
  | whole f => exact hb f t ht
  | short => exact ht

/-- A refusal keeps the laws. -/
theorem ite_memoryLawful {c : Prop} [Decidable c] {t : State} {r : Reply} {e : State × Reply} (ht : MemoryLawful t)
    (he : MemoryLawful e.1) : MemoryLawful (if c then (t, r) else e).1 := by
  split
  · exact ht
  · exact he

/-! ### Start-up -/

@[simp] theorem startUp_fmm (s : State) (c : ResetCause) : (s.startUp c).fmm = .initial := rfl

theorem startUp_mem (s : State) (c : ResetCause) : (s.startUp c).mem = s.mem.zeroPages 0 190 := by
  have kept : s.abandonStore.mem = s.mem := by
    unfold State.abandonStore
    split <;> rfl
  exact congrArg (FrameMemory.zeroPages · 0 190) kept

theorem initial_lawful : Fmm.initial.lawful := by decide

theorem startUp_memoryLawful {s : State} (h : MemoryLawful s) (c : ResetCause) : MemoryLawful (s.startUp c) :=
  ⟨by rw [startUp_mem]; exact zeroPages_wf h.1 _ _, initial_lawful⟩

theorem enlist_memoryLawful {s : State} (h : MemoryLawful s) (tag code : Byte) (r : Option Result) :
    MemoryLawful (s.enlist tag code r) := h.of_changes (enlist_changes s tag code r)

theorem takeGood_memoryLawful {s : State} (h : MemoryLawful s) (tag code : Byte) (body : List Byte) :
    MemoryLawful (s.takeGood tag code body) := by
  unfold State.takeGood
  repeat' split
  all_goals first | exact enlist_memoryLawful h _ _ _ | exact startUp_memoryLawful h _

theorem takeFrame_memoryLawful {s : State} (h : MemoryLawful s) (frame : List Byte) : MemoryLawful (s.takeFrame frame) := by
  unfold State.takeFrame
  split
  · exact h
  · exact enlist_memoryLawful h _ _ _
  · exact takeGood_memoryLawful h _ _ _

theorem frameEnds_memoryLawful {take : State → State} (ht : ∀ t, MemoryLawful t → MemoryLawful (take t)) {s : State}
    (h : MemoryLawful s) : MemoryLawful (s.frameEnds take) := by
  unfold State.frameEnds
  split
  · split
    · exact h
    · exact ht _ (h.of_changes (setTransaction_changes s _))
  · exact ht s h

/-! ### Runs placed and freed -/

theorem slotPages_pos {w h : Nat} (hw : 0 < w) (hh : 0 < h) : 0 < slotPages w h := by
  have := Nat.mul_pos hw hh
  unfold slotPages ceilDiv Config.pageBytes
  omega

theorem runPages_pos {c : Clearing} (hp : 0 < c.planes) (hw : 0 < c.width) (hh : 0 < c.height) : 0 < c.runPages := by
  have area := Nat.mul_pos hw hh
  have bytes : 0 < planeBytes c.format c.width c.height :=
    Nat.mul_pos area (by cases c.format <;> decide)
  refine Nat.mul_pos hp ?_
  unfold planePages ceilDiv Config.pageBytes
  omega

theorem samplePages_pos {n : Nat} (hn : 0 < n) : 0 < samplePages n := by
  unfold samplePages ceilDiv Config.pageBytes
  omega

theorem clampNat_le {lo hi : Nat} (h : lo ≤ hi) (n : Nat) : lo ≤ clampNat lo hi n := by
  unfold clampNat
  split
  · exact Nat.le_refl _
  · split <;> omega

/-- When the format and the size of an OPEN STREAM are legal (R52). -/
theorem openStream_legal {f : OpenStream} {p : PixelFormat} : OpenStream.legal f = some p ↔
    f.format = .legal p ∧ 16 ≤ f.width ∧ f.width ≤ 1280 ∧ 16 ≤ f.height ∧ f.height ≤ 720 ∧ (p = .yuv422 → f.width % 2 = 0) := by
  unfold OpenStream.legal
  cases fmt : f.format with
  | undefined => simp
  | legal q =>
    simp only [Option.ite_none_right_eq_some, Option.some.injEq, Coded.legal.injEq]
    constructor
    · rintro ⟨size, rfl⟩; exact ⟨rfl, size⟩
    · rintro ⟨rfl, size⟩; exact ⟨size, rfl⟩

/-- The planes and the size that CREATE LAYER asks for are legal (R76). -/
def CreateLayer.sized (f : CreateLayer) : Prop :=
  (f.planes = 1 ∨ f.planes = 2) ∧ 1 ≤ f.width ∧ f.width ≤ 1280 ∧ 1 ≤ f.height ∧ f.height ≤ 800

/-- What a legal CREATE LAYER describes (R76). -/
theorem createLayer_legal {f : CreateLayer} {c : Clearing} : CreateLayer.legal f = some c ↔
    ∃ (n : Fin 24) (k : LayerKind) (x : LayerFormat), n.1 = f.layer ∧ f.kind = .legal k ∧ f.format = .legal x ∧ CreateLayer.sized f ∧
      c = ⟨n, k, f.permitted, x, f.width, f.height, f.planes⟩ := by
  unfold CreateLayer.legal index CreateLayer.sized
  constructor
  · intro h
    split at h
    · rename_i n k x layer kind format
      split at h
      · rename_i size
        split at layer
        · obtain rfl := Option.some.inj layer
          exact ⟨_, k, x, rfl, kind, format, size, (Option.some.inj h).symm⟩
        · cases layer
      · cases h
    · cases h
  · rintro ⟨n, k, x, layer, kind, format, size, rfl⟩
    rw [dif_pos (layer ▸ n.2), kind, format]
    simp only [if_pos size, Option.some.injEq, Clearing.mk.injEq, and_true]
    exact Fin.ext layer.symm

theorem withStream_memoryLawful {k : Nat} {t : State} {act : StreamId → State × Reply} (ht : MemoryLawful t)
    (h : ∀ i, MemoryLawful (act i).1) : MemoryLawful (withStream k t act).1 := by
  unfold withStream
  split
  · exact ht
  · exact h _

theorem withLayer_memoryLawful {k : Nat} {t : State} {act : Fin 24 → State × Reply} (ht : MemoryLawful t)
    (h : ∀ i, MemoryLawful (act i).1) : MemoryLawful (withLayer k t act).1 := by
  unfold withLayer
  split
  · exact ht
  · exact h _

theorem withSample_memoryLawful {k : Nat} {t : State} {act : Fin 16 → State × Reply} (ht : MemoryLawful t)
    (h : ∀ i, MemoryLawful (act i).1) : MemoryLawful (withSample k t act).1 := by
  unfold withSample
  split
  · exact ht
  · exact h _

/-- Where no descriptor stands in the way of a call, its owner has none. -/
theorem fresh_of_guard {a : Prop} {f : Fmm} {o : RunOwner} (h : ¬ (a ∨ (f.runOf o).isSome = true)) : f.runOf o = none := by
  rw [← Option.not_isSome_iff_eq_none]
  exact fun e => h (.inr e)

theorem execOpenStream_memoryLawful (b : Body OpenStream) {s t : State} (h : MemoryLawful s) (e : execOpenStream b s = .next t) :
    MemoryLawful t := by
  cases e
  refine requestWith_memoryLawful (fun f t ht => withStream_memoryLawful ht fun i => ?_) b h
  split
  · exact ht
  · rename_i p legal
    split
    · exact ht
    · rename_i fresh
      dsimp only
      split
      · exact ht
      · exact ht
      · rename_i g placed
        obtain ⟨-, w, -, hh, -⟩ := openStream_legal.1 legal
        have pages : 0 < clampNat 2 8 f.slots * slotPages f.width f.height :=
          Nat.mul_pos (Nat.lt_of_lt_of_le (by decide) (clampNat_le (by decide) _)) (slotPages_pos (by omega) (by omega))
        have lawful : g.lawful := placeLow_lawful ht.2 pages (fresh_of_guard fresh) (allocate_placed placed)
        exact ht.of_fmm (openStream_changes t i f p _ (placed_rest (.inl rfl) (allocate_placed placed))) lawful

theorem closeStream_fmm (s : State) (i : StreamId) : (s.closeStream i).fmm = s.fmm.free (.stream i) := rfl

theorem execCloseStream_memoryLawful (b : Body Nat) {s t : State} (h : MemoryLawful s) (e : execCloseStream b s = .next t) :
    MemoryLawful t := by
  cases e
  refine requestWith_memoryLawful (fun k t ht => withStream_memoryLawful ht fun i => ite_memoryLawful ht ?_) b h
  exact ht.of_fmm (closeStream_changes t i) (by rw [closeStream_fmm]; exact free_lawful ht.2 _)

theorem execCreateLayer_memoryLawful (b : Body CreateLayer) {s t : State} (h : MemoryLawful s) (e : execCreateLayer b s = .next t) :
    MemoryLawful t := by
  cases e
  refine requestWith_memoryLawful (fun f t ht => ?_) b h
  split
  · exact ht
  · rename_i c legal
    split
    · exact ht
    · rename_i fresh
      split
      · exact ht
      · exact ht
      · rename_i g placed
        obtain ⟨n, k, x, -, -, -, ⟨planes, w, -, hh, -⟩, rfl⟩ := createLayer_legal.1 legal
        have pages := runPages_pos (c := ⟨n, k, f.permitted, x, f.width, f.height, f.planes⟩)
          (by rcases planes with e | e <;> simp [e]) w hh
        exact ⟨ht.1, placeHigh_lawful ht.2 pages (fresh_of_guard fresh) nofun (allocate_placed placed)⟩

theorem deleteLayer_fmm (s : State) (n : Fin 24) : (s.deleteLayer n).fmm = s.fmm.free (.layer n) := by
  show Fmm.free (State.fmm (match (s.layer n).vinLoad with
    | some p => s.putVin p .ignored
    | none => s)) (.layer n) = _
  split <;> rfl

theorem execDeleteLayer_memoryLawful (b : Body Nat) {s t : State} (h : MemoryLawful s) (e : execDeleteLayer b s = .next t) :
    MemoryLawful t := by
  cases e
  refine requestWith_memoryLawful (fun k t ht => withLayer_memoryLawful ht fun n => ite_memoryLawful ht ?_) b h
  exact ht.of_fmm (deleteLayer_changes t n) (by rw [deleteLayer_fmm]; exact free_lawful ht.2 _)

theorem execDefineSample_memoryLawful (b : Body DefineSample) {s t : State} (h : MemoryLawful s) (e : execDefineSample b s = .next t) :
    MemoryLawful t := by
  cases e
  refine requestWith_memoryLawful (fun f t ht => withSample_memoryLawful ht fun n => ?_) b h
  split
  · exact ht
  · rename_i fresh
    dsimp only
    split
    · exact ht
    · exact ht
    · rename_i g placed
      have pages := samplePages_pos (Nat.lt_of_lt_of_le (by decide) (clampNat_le (lo := 1) (hi := 192000) (by decide) f.count))
      exact ⟨ht.1, placeHigh_lawful ht.2 pages (fresh_of_guard fresh) nofun (allocate_placed placed)⟩

theorem execFreeSample_memoryLawful (b : Body Nat) {s t : State} (h : MemoryLawful s) (e : execFreeSample b s = .next t) :
    MemoryLawful t := by
  cases e
  exact requestWith_memoryLawful (fun k t ht => withSample_memoryLawful ht fun n => ite_memoryLawful ht (ite_memoryLawful ht
    ⟨ht.1, free_lawful ht.2 _⟩)) b h

/-! ### Bytes written -/

theorem execLayerRunCleared_memoryLawful {s t : State} (h : MemoryLawful s) (e : execLayerRunCleared s = .next t) :
    MemoryLawful t := by
  unfold execLayerRunCleared at e
  split at e
  · cases e; exact h
  · rename_i c _
    cases e
    refine (h.of_mem (finishClearing_changes s c) ?_).of_changes (answer_changes _ _ _ _)
    unfold State.finishClearing
    show (match s.fmm.runOf (.layer c.layer) with
      | some r => s.mem.zeroPages r.base r.count
      | none => s.mem).wf
    split
    · exact zeroPages_wf h.1 _ _
    · exact h.1

theorem loadBlock_mem (s : State) (n : Fin 24) (offset : Nat) (data : List Byte) : (s.loadBlock n offset data).mem =
    s.mem.write (pageAddress (s.planePage n (s.layer n).target) + offset) data := by
  unfold State.loadBlock
  dsimp only
  split
  · exact (repair_changes _ _ _).at .memory
  · rfl

theorem execLoadBlock_memoryLawful (b : Body LoadBlock) {s t : State} (h : MemoryLawful s) (e : execLoadBlock b s = .next t) :
    MemoryLawful t := by
  cases e
  refine requestWith_memoryLawful (fun f t ht => withLayer_memoryLawful ht fun n => ite_memoryLawful ht (ite_memoryLawful ht
    (ite_memoryLawful ht (ite_memoryLawful ht ?_)))) b h
  exact ht.of_mem (loadBlock_changes t n _ _) (by rw [loadBlock_mem]; exact write_wf ht.1 _ _)

theorem execLoadSampleBlock_memoryLawful (b : Body LoadSample) {s t : State} (h : MemoryLawful s)
    (e : execLoadSampleBlock b s = .next t) : MemoryLawful t := by
  cases e
  exact requestWith_memoryLawful (fun f t ht => withSample_memoryLawful ht fun n => ite_memoryLawful ht (ite_memoryLawful ht
    (ite_memoryLawful ht (ite_memoryLawful ht ⟨write_wf ht.1 _ _, ht.2⟩)))) b h

theorem endSelfTest_memoryLawful {s : State} (h : MemoryLawful s) (b : Bool) : MemoryLawful (s.endSelfTest b) := by
  unfold State.endSelfTest
  split
  · exact h
  · rename_i x _
    have patterned : MemoryLawful { s with mem := s.mem.patternPages x.pages x.late } := ⟨patternPages_wf h.1 _ _, h.2⟩
    have handed := patterned.of_changes (handDue_changes _ .selfTest)
    exact handed

/-- A fold keeps what its step keeps. -/
theorem foldl_keeps {α β : Type} {P : α → Prop} {f : α → β → α} (hf : ∀ a b, P a → P (f a b)) : ∀ (bs : List β) {a : α},
    P a → P (bs.foldl f a)
  | [], _, h => h
  | b :: bs, a, h => foldl_keeps hf bs (hf a b h)

theorem plot_wf (page w h : Nat) (colour : BitVec 16) (m : FrameMemory) (p : Int × Int) (wf : m.wf) : (plot page w h colour m p).wf := by
  unfold plot
  split
  · exact write_wf wf _ _
  · exact wf

theorem draw_wf (d : Drawing) (plane : Fin 2) {m : FrameMemory} (wf : m.wf) : (d.draw plane m).wf :=
  foldl_keeps (P := FrameMemory.wf) (fun _ _ hm => foldl_keeps (P := FrameMemory.wf) (fun _ _ h => plot_wf _ _ _ _ _ _ h) _ hm) _
    (zeroPages_wf wf _ _)

theorem endDrawing_memoryLawful {s : State} (h : MemoryLawful s) : MemoryLawful s.endDrawing := by
  unfold State.endDrawing
  split
  · rename_i d _
    have plane : MemoryLawful { s with mem := d.draw s.guide.back s.mem } := ⟨draw_wf d _ h.1, h.2⟩
    have drawn := plane.of_changes (dropGuideConsequences_changes _)
    dsimp only
    split
    · exact drawn.of_changes (redraw_changes _)
    · exact drawn
  · exact h

theorem pictureLine_memoryLawful {s : State} (h : MemoryLawful s) (i : StreamId) (k : Nat) (line : List Byte) :
    MemoryLawful (s.pictureLine i k line) := by
  refine h.of_mem (pictureLine_changes s i k line) ?_
  unfold State.pictureLine
  dsimp only
  split
  · split
    · split <;> exact write_wf h.1 _ _
    · exact h.1
  · exact h.1

theorem layerLine_memoryLawful {s : State} (h : MemoryLawful s) (p : StreamId) (n : Fin 24) (k : Nat) (a : Bool) (line : List Byte) :
    MemoryLawful (s.layerLine p n k a line) := by
  refine h.of_mem (layerLine_changes s p n k a line) ?_
  unfold State.layerLine
  dsimp only
  split
  · split <;> exact write_wf h.1 _ _
  · exact h.1

theorem execVinPictureLine_memoryLawful {s t : State} (h : MemoryLawful s) (p : StreamId) (line : List Byte)
    (e : execVinPictureLine p line s = .next t) : MemoryLawful t := by
  unfold execVinPictureLine at e
  split at e <;> cases e
  · exact pictureLine_memoryLawful h _ _ _
  · exact h
  · exact layerLine_memoryLawful h _ _ _ _ _
  all_goals exact h

theorem captureLine_memoryLawful {s : State} (h : MemoryLawful s) (rx : CameraRx) (line : List Byte) :
    MemoryLawful (s.captureLine rx line) := by
  refine h.of_mem (captureLine_changes s rx line) ?_
  unfold State.captureLine
  dsimp only
  split
  · show FrameMemory.wf (if _ then _ else _)
    split
    · exact write_wf h.1 _ _
    · exact h.1
  · exact h.1

theorem execCameraLine_memoryLawful {s t : State} (h : MemoryLawful s) (line : List Byte) (e : execCameraLine line s = .next t) :
    MemoryLawful t := by
  unfold execCameraLine at e
  split at e <;> cases e
  · exact captureLine_memoryLawful h _ _
  · exact h

/-- Finding an error marks its word, and changes nothing else of frame memory. -/
theorem findError_mem (s : State) (r : Reader) (word : Nat) : (s.findError r word).mem = s.mem.markBad word := by
  have offered : ∀ (t : State) (p : Nat) (o : Owner) (r : Reader), (t.offerError p o r).mem = t.mem := fun t p o r =>
    (offerError_changes t p o r).at .memory
  have found : ∀ (t : State) (w : Nat), (t.selfTestFinds w).mem = t.mem := fun t w => (selfTestFinds_changes t w).at .memory
  unfold State.findError
  dsimp only
  split
  · show State.mem (if _ then _ else _) = _
    split
    · rw [found, offered]
    · rw [offered]
  · split
    · rw [found, offered]
    · rw [offered]

theorem findError_memoryLawful {s : State} (h : MemoryLawful s) (r : Reader) (word : Nat) : MemoryLawful (s.findError r word) :=
  h.of_mem (findError_changes s r word) (by rw [findError_mem]; exact markBad_wf h.1 word)

/-! ### Every step -/

/-- Every command keeps the laws: those whose footprint leaves frame memory and the page map out, by their frames; the others by what
they place, free and write. -/
theorem exec_memoryLawful (c : Instr) {s t : State} (h : MemoryLawful s) (e : exec c s = .next t) : MemoryLawful t := by
  have quiet : (footprint c).contains .memory = false → (footprint c).contains .pageMap = false → MemoryLawful t := by
    obtain ⟨u, eu, frame⟩ := exec_changes c s
    obtain rfl : u = t := Host.Outcome.next.inj (eu.symm.trans e)
    exact fun mem map => h.of_changes frame mem map
  cases c with
  | powerOn => cases e; exact startUp_memoryLawful h _
  | resetLine => cases e; exact startUp_memoryLawful h _
  | resetPart b => cases e; exact frameEnds_memoryLawful (fun t ht => takeGood_memoryLawful ht _ _ _) h
  | requestTaken f => cases e; exact frameEnds_memoryLawful (fun t ht => takeFrame_memoryLawful ht _) h
  | transactionEnd r =>
    change execTransactionEnd r s = _ at e
    unfold execTransactionEnd at e
    split at e <;> cases e
    · split
      · exact h.of_changes (setTransaction_changes _ _)
      · exact takeFrame_memoryLawful (h.of_changes (setTransaction_changes _ _)) _
    · exact takeFrame_memoryLawful h _
  | openStream b => exact execOpenStream_memoryLawful b h e
  | closeStream b => exact execCloseStream_memoryLawful b h e
  | createLayer b => exact execCreateLayer_memoryLawful b h e
  | layerRunCleared => exact execLayerRunCleared_memoryLawful h e
  | deleteLayer b => exact execDeleteLayer_memoryLawful b h e
  | loadBlock b => exact execLoadBlock_memoryLawful b h e
  | defineSample b => exact execDefineSample_memoryLawful b h e
  | loadSampleBlock b => exact execLoadSampleBlock_memoryLawful b h e
  | freeSample b => exact execFreeSample_memoryLawful b h e
  | selfTestEnd b => cases e; exact endSelfTest_memoryLawful h b
  | drawingEnd => cases e; exact endDrawing_memoryLawful h
  | vinPictureLine p line => exact execVinPictureLine_memoryLawful h p line e
  | cameraLine line => exact execCameraLine_memoryLawful h line e
  | uncorrectableError r w => cases e; exact findError_memoryLawful h r _
  | _ => exact quiet rfl rfl

/-- An idle step lets time pass, and may end a step of a start-up. -/
theorem idle_memoryLawful {s : State} (h : MemoryLawful s) : MemoryLawful s.idle := by
  have ticked : MemoryLawful { s.tick with free := s.free + 1 } := h
  have left : ∀ xs, MemoryLawful { s.tick with free := s.free + 1, steps := xs } := fun _ => h
  unfold State.idle
  split
  · exact h
  · dsimp only
    split
    · unfold State.endStep
      split
      · exact (left _).of_changes (doStep_changes _ _)
      · exact ticked
    · exact ticked

/-- Settles O54: an idle step writes no byte and moves no run, and every command keeps the laws. -/
theorem frameMemoryAndPageMapStayLawful : Obligations.FrameMemoryAndPageMapStayLawful := by
  intro s t h e
  unfold step at e
  split at e
  · cases e; exact idle_memoryLawful h
  · rename_i c rest _
    exact exec_memoryLawful c (s := { s with pending := rest }) h e

end Sys2Proof.Machine
end

section
/-! PROOFS. What frame memory reads after each operation over it (R1, R13, R24, R82, R190). -/

namespace Sys2Proof.Machine

set_option Elab.async false

open Sys2Proof

/-! ### Stored bytes -/

/-- The byte stored at an address, by what the list of cells says of the address. -/
theorem stored_eq (m : FrameMemory) (x : Nat) : m.stored x = ((m.cells.find? (fun c => c.1 == x)).map Prod.snd).getD (m.unlisted x) := by
  unfold FrameMemory.stored
  cases m.cells.find? (fun c => c.1 == x) <;> rfl

/-- A search for an address among the cells that pass a test of addresses. -/
theorem find?_cells_filter (cells : List Host.Cell) (p : Nat → Bool) (x : Nat) :
    (cells.filter fun c => p c.1).find? (fun c => c.1 == x) = if p x then cells.find? (fun c => c.1 == x) else none := by
  rw [List.find?_filter]
  have here : (fun c : Host.Cell => decide (p c.1 = true ∧ (c.1 == x) = true)) = fun c => p x && c.1 == x := by
    funext c
    by_cases e : c.1 = x <;> simp [e]
  rw [here]
  cases p x <;> simp

/-- What a list of written bytes says of an address. -/
theorem find?_listing (m : FrameMemory) (x : Nat) (bytes : List Byte) : ∀ a : Nat,
    (m.listing a bytes).find? (fun c => c.1 == x) =
      if a ≤ x ∧ x < a + bytes.length then
        (if x < 134217728 ∧ bytes.getD (x - a) 0#8 ≠ m.unlisted x then some (x, bytes.getD (x - a) 0#8) else none)
      else none := by
  induction bytes with
  | nil => intro a; rw [if_neg (by simp)]; rfl
  | cons b bs ih =>
    intro a
    have ih := ih (a + 1)
    unfold FrameMemory.listing Config.memoryBytes
    by_cases here : a = x
    · subst here
      have later : (m.listing (a + 1) bs).find? (fun c => c.1 == a) = none := by rw [ih, if_neg (by omega)]
      have inside : a ≤ a ∧ a < a + (b :: bs).length := ⟨Nat.le_refl _, by simp⟩
      rw [if_pos inside, Nat.sub_self, List.getD_cons_zero]
      split
      · simp
      · exact later
    · have skip : ∀ (c : Prop) [Decidable c], (if c then (a, b) :: m.listing (a + 1) bs else m.listing (a + 1) bs).find? (fun c => c.1 == x) =
          (m.listing (a + 1) bs).find? (fun c => c.1 == x) := by
        intro c _
        split
        · rw [List.find?_cons, show ((a, b).1 == x) = false by simpa using here]
        · rfl
      rw [skip, ih]
      have range : (a ≤ x ∧ x < a + (b :: bs).length) ↔ a + 1 ≤ x ∧ x < a + 1 + bs.length := by simp; omega
      rw [if_congr range rfl rfl]
      split
      · rw [show x - a = (x - (a + 1)) + 1 by omega, List.getD_cons_succ]
      · rfl

/-- A splice stores the bytes where they lie, and leaves every other address as it was. -/
theorem splice_stored (m : FrameMemory) (a : Nat) (bytes : List Byte) (fits : a + bytes.length ≤ 134217728) (x : Nat) :
    (m.splice a bytes).stored x = if a ≤ x ∧ x < a + bytes.length then bytes.getD (x - a) 0#8 else m.stored x := by
  rw [stored_eq, stored_eq, splice_unlisted]
  have cells : (m.splice a bytes).cells = (m.cells.filter fun c => decide (c.1 < a)) ++ m.listing a bytes ++
      m.cells.filter fun c => decide (a + bytes.length ≤ c.1) := rfl
  rw [cells, List.find?_append, List.find?_append, find?_cells_filter m.cells (fun c => decide (c < a)),
    find?_cells_filter m.cells (fun c => decide (a + bytes.length ≤ c)), find?_listing]
  by_cases inside : a ≤ x ∧ x < a + bytes.length
  · have low : decide (x < a) = false := by simp; omega
    have high : decide (a + bytes.length ≤ x) = false := by simp; omega
    have top : x < 134217728 := by omega
    simp only [low, high, inside, top, and_self, true_and, if_true, Bool.false_eq_true, if_false, Option.none_or, Option.or_none]
    by_cases same : bytes.getD (x - a) 0#8 = m.unlisted x
    · rw [if_neg (not_not.2 same), same]; rfl
    · rw [if_pos same]; rfl
  · rcases Nat.lt_or_ge x a with lt | ge
    · have high : decide (a + bytes.length ≤ x) = false := by simp; omega
      simp [lt, high, inside]
    · have high : a + bytes.length ≤ x := by omega
      simp [Nat.not_lt.2 ge, high, inside]

/-- Words taken as zero store zero; every other address stays. -/
theorem zeroWords_stored : ∀ (ws : List Nat) (m : FrameMemory), (∀ w ∈ ws, w * 8 + 8 ≤ 134217728) → ∀ x,
    (m.zeroWords ws).stored x = if x / 8 ∈ ws then 0#8 else m.stored x
  | [], m, _, x => by simp [FrameMemory.zeroWords]
  | w :: ws, m, fits, x => by
    have room := fits w (.head _)
    unfold FrameMemory.zeroWords
    rw [zeroWords_stored ws _ (fun v hv => fits v (.tail _ hv)), splice_stored _ _ _ (by simpa [Config.wordBytes] using room)]
    have zeros : (List.replicate Config.wordBytes 0#8).getD (x - w * Config.wordBytes) 0#8 = 0#8 := by
      simp only [List.getD_eq_getElem?_getD, List.getElem?_replicate]
      split <;> rfl
    rw [zeros]
    have word : (w * Config.wordBytes ≤ x ∧ x < w * Config.wordBytes + (List.replicate Config.wordBytes 0#8).length) ↔ x / 8 = w := by
      simp only [List.length_replicate, Config.wordBytes]
      omega
    rw [if_congr word rfl rfl]
    by_cases later : x / 8 ∈ ws <;> by_cases here : x / 8 = w <;> simp_all

/-! ### Bytes read -/

theorem read_of_bad {m : FrameMemory} {x : Nat} (h : x / 8 ∈ m.bad) : m.read x = 0#8 := by
  unfold FrameMemory.read Config.wordBytes
  rw [if_pos (by simpa using h)]

theorem read_of_good {m : FrameMemory} {x : Nat} (h : x / 8 ∉ m.bad) : m.read x = m.stored x := by
  unfold FrameMemory.read Config.wordBytes
  rw [if_neg (by simpa using h)]

theorem touches_iff {a n w : Nat} : touches a n w = true ↔ 0 < n ∧ a < w * 8 + 8 ∧ w * 8 < a + n := by
  unfold touches Config.wordBytes
  simp only [Bool.and_eq_true, decide_eq_true_eq]
  omega

/-- What a write makes the words that cannot be corrected. -/
theorem write_bad (m : FrameMemory) (a : Nat) (bytes : List Byte) (w : Nat) :
    w ∈ (m.write a bytes).bad ↔ w ∈ m.bad ∧ ¬ touches a bytes.length w = true := by
  show w ∈ m.bad.filter _ ↔ _
  simp

theorem write_stored (m : FrameMemory) (a : Nat) (bytes : List Byte) (fits : a + bytes.length ≤ 134217728) (x : Nat) :
    (m.write a bytes).stored x = if a ≤ x ∧ x < a + bytes.length then bytes.getD (x - a) 0#8
      else if x / 8 ∈ m.bad ∧ touches a bytes.length (x / 8) = true then 0#8 else m.stored x := by
  have spliced : (m.write a bytes).stored x = ((m.zeroWords (m.bad.filter (touches a bytes.length))).splice a bytes).stored x := rfl
  rw [spliced, splice_stored _ _ _ fits, zeroWords_stored]
  · simp only [List.mem_filter]
  · intro w hw
    have := touches_iff.1 (List.mem_filter.1 hw).2
    omega

/-- Settles O18: a word that is touched is corrected by the write, with its other bytes zero; any other keeps its state. -/
theorem memoryReadsWhatWasWritten : Obligations.MemoryReadsWhatWasWritten := by
  intro m a bytes x fits
  have inside_touches : a ≤ x ∧ x < a + bytes.length → touches a bytes.length (x / 8) = true := by
    rw [touches_iff]
    omega
  by_cases bad : x / 8 ∈ m.bad
  · by_cases touched : touches a bytes.length (x / 8) = true
    · rw [read_of_good fun h => ((write_bad m a bytes _).1 h).2 touched, write_stored m a bytes fits, read_of_bad bad,
        if_pos (c := _ ∧ touches _ _ _ = true) ⟨bad, touched⟩]
    · rw [read_of_bad ((write_bad m a bytes _).2 ⟨bad, touched⟩), if_neg fun h => touched (inside_touches h), read_of_bad bad]
  · rw [read_of_good fun h => bad ((write_bad m a bytes _).1 h).1, write_stored m a bytes fits, read_of_good bad,
      if_neg (c := _ ∧ touches _ _ _ = true) fun h => bad h.1]

/-- Pages that have been cleared read zero, and every other address reads as before (R24, R76). -/
theorem zeroPages_read (m : FrameMemory) (base count x : Nat) :
    (m.zeroPages base count).read x = if base ≤ x / 65536 ∧ x / 65536 < base + count then 0#8 else m.read x := by
  have same_page : x / 8 / Config.pageWords = x / 65536 := by unfold Config.pageWords; omega
  have bad : x / 8 ∈ (m.zeroPages base count).bad ↔ x / 8 ∈ m.bad ∧ pageIn base count (x / 65536) = false := by
    show x / 8 ∈ m.bad.filter _ ↔ _
    rw [List.mem_filter, same_page, Bool.not_eq_true']
  have stored : (m.zeroPages base count).stored x = if pageIn base count (x / 65536) then 0#8 else m.stored x := by
    have found : (m.zeroPages base count).cells.find? (fun c => c.1 == x) =
        if !pageIn base count (x / 65536) then m.cells.find? (fun c => c.1 == x) else none :=
      find?_cells_filter m.cells (fun y => !pageIn base count (y / Config.pageBytes)) x
    rw [stored_eq, stored_eq, found]
    cases inside : pageIn base count (x / 65536) with
    | true =>
      have blank : (m.zeroPages base count).unlisted x = 0#8 := by
        unfold FrameMemory.unlisted
        rw [if_neg]
        simpa [FrameMemory.zeroPages, Config.pageBytes] using fun _ => inside
      simpa using blank
    | false => simp [zeroPages_unlisted m base count x inside]
  rw [if_congr (pageIn_eq_true (base := base)).symm rfl rfl]
  cases inside : pageIn base count (x / 65536) with
  | true => rw [read_of_good fun h => by simp [inside] at bad; exact bad h, stored, inside]; rfl
  | false =>
    by_cases h : x / 8 ∈ m.bad
    · rw [read_of_bad (bad.2 ⟨h, inside⟩), read_of_bad h]; rfl
    · rw [read_of_good fun k => h (bad.1 k).1, read_of_good h, stored, inside]

/-- Pages left with the self-test's pattern read its complement, but zero in the words that stay uncorrectable; every other address
reads as before (R190). -/
theorem patternPages_read (m : FrameMemory) (pages late : List Nat) (x : Nat) :
    (m.patternPages pages late).read x =
      if x / 65536 ∈ pages then (if x / 8 ∈ late ∧ x / 8 ∈ m.bad then 0#8 else ~~~ Config.selfTestPattern x) else m.read x := by
  have same_page : x / 8 / Config.pageWords = x / 65536 := by unfold Config.pageWords; omega
  have bad : x / 8 ∈ (m.patternPages pages late).bad ↔ x / 8 ∈ m.bad ∧ (x / 65536 ∈ pages → x / 8 ∈ late) := by
    show x / 8 ∈ m.bad.filter _ ↔ _
    rw [List.mem_filter, same_page]
    simp only [Bool.or_eq_true, Bool.not_eq_true', List.contains_eq_mem, decide_eq_false_iff_not, decide_eq_true_eq]
    tauto
  have found : (m.patternPages pages late).cells.find? (fun c => c.1 == x) =
      if !pages.contains (x / 65536) then m.cells.find? (fun c => c.1 == x) else none :=
    find?_cells_filter m.cells (fun y => !pages.contains (y / Config.pageBytes)) x
  by_cases inside : x / 65536 ∈ pages
  · have stored : (m.patternPages pages late).stored x = ~~~ Config.selfTestPattern x := by
      rw [stored_eq, found, if_neg (by simpa using inside)]
      show FrameMemory.unlisted _ x = _
      unfold FrameMemory.unlisted
      rw [if_pos]
      simpa [FrameMemory.patternPages, insertAll_mem, Config.pageBytes] using Or.inl inside
    rw [if_pos inside]
    by_cases h : x / 8 ∈ late ∧ x / 8 ∈ m.bad
    · rw [if_pos h, read_of_bad (bad.2 ⟨h.2, fun _ => h.1⟩)]
    · rw [if_neg h, read_of_good fun k => h ⟨(bad.1 k).2 inside, (bad.1 k).1⟩, stored]
  · have stored : (m.patternPages pages late).stored x = m.stored x := by
      rw [stored_eq, stored_eq, found, if_pos (by simpa using inside),
        patternPages_unlisted m pages late x (by simpa [Config.pageBytes] using inside)]
    rw [if_neg inside]
    by_cases h : x / 8 ∈ m.bad
    · rw [read_of_bad (bad.2 ⟨h, fun k => absurd k inside⟩), read_of_bad h]
    · rw [read_of_good fun k => h (bad.1 k).1, read_of_good h, stored]

/-- A word found uncorrectable reads zero, and every other address reads as before (R13). -/
theorem markBad_read (m : FrameMemory) (w x : Nat) : (m.markBad w).read x = if x / 8 = w then 0#8 else m.read x := by
  have bad : x / 8 ∈ (m.markBad w).bad ↔ x / 8 = w ∨ x / 8 ∈ m.bad := insertNew_mem w m.bad _
  by_cases here : x / 8 = w
  · rw [if_pos here, read_of_bad (bad.2 (.inl here))]
  · rw [if_neg here]
    by_cases h : x / 8 ∈ m.bad
    · rw [read_of_bad (bad.2 (.inr h)), read_of_bad h]
    · rw [read_of_good fun k => (bad.1 k).elim here h, read_of_good h]
      rfl

end Sys2Proof.Machine
end

section
/-! PROOFS. The reports of frame memory: READ PAGE MAP, GET MEMORY ERROR and CORRECTED_ERROR (R11, R12, R23). -/

namespace Sys2Proof.Machine

set_option Elab.async false

open Sys2Proof

/-! ### From a block that acts to its request -/

section
variable {c : Instr} {code : Byte} {s u : State} {r : Result} {b : ReplyBody} {ps : List Piece} {P : State → Prop}

/-- A request whose block acts within a frame is answered as the block answers it. -/
theorem answers_of_changes {block : State → State × Reply} (he : exec c s = .next (request code block s)) (hc : codeOf c = code)
    (hb : block (s.taking code) = (u, .now r b)) (hu : Changes ps (s.taking code) u) (hP : P (u.answer code r b))
    (requests : ps.contains .requests = false := by decide) (part : ps.contains .part = false := by decide) :
    Answers c s r b ps P :=
  answers_of_block he hc hb hu (hu.at .requests requests)
    (by rw [show u.part = _ from hu.at .part part, taking_part]) hP

/-- The same for a request with a whole body. -/
theorem answers_of_whole {α : Type} {f : α} {block : α → State → State × Reply}
    (he : exec c s = .next (requestWith code (.whole f) block s)) (hc : codeOf c = code)
    (hb : block f (s.taking code) = (u, .now r b)) (hu : Changes ps (s.taking code) u) (hP : P (u.answer code r b))
    (requests : ps.contains .requests = false := by decide) (part : ps.contains .part = false := by decide) :
    Answers c s r b ps P := answers_of_changes (block := block f) he hc hb hu hP requests part

/-- A whole body that its block answers without a change. -/
theorem answers_of_whole_refusal {α : Type} {f : α} {block : α → State → State × Reply}
    (he : exec c s = .next (requestWith code (.whole f) block s)) (hc : codeOf c = code)
    (hb : block f (s.taking code) = (s.taking code, .now r b)) : Answers c s r b [] fun _ => True :=
  answers_of_refusal (block := block f) he hc hb

end

/-! ### The entries of READ PAGE MAP -/

/-- The entry of a run, and of a hole (R11). -/
def runRow (r : Run) : Owner × Nat × Nat := (.run r.owner, r.base, r.count)
def holeRow (h : Hole) : Owner × Nat × Nat := (.free, h.base, h.count)

/-- Entries in ascending order of base (R11). -/
def byBase (xs : List (Owner × Nat × Nat)) : List (Owner × Nat × Nat) := xs.insertionSort (fun x y => x.2.1 ≤ y.2.1)

/-- The entries below the low boundary, and those above it, before they are put in order. -/
def Fmm.lowRows (f : Fmm) : List (Owner × Nat × Nat) :=
  (f.runs.filter fun r => decide (r.base < f.lowTop)).map runRow ++ f.lowHoles.map holeRow
def Fmm.highRows (f : Fmm) : List (Owner × Nat × Nat) :=
  (f.runs.filter fun r => !decide (r.base < f.lowTop)).map runRow ++ f.highHoles.map holeRow

theorem entries_eq (f : Fmm) : f.entries = (.reserve, 0, 190) :: (byBase f.lowRows ++ byBase f.highRows) := rfl

theorem mem_byBase {e : Owner × Nat × Nat} {xs : List (Owner × Nat × Nat)} : e ∈ byBase xs ↔ e ∈ xs :=
  (List.perm_insertionSort _ xs).mem_iff

/-- Two entries share no page. -/
def RowsApart (x y : Owner × Nat × Nat) : Prop := x.2.1 + x.2.2 ≤ y.2.1 ∨ y.2.1 + y.2.2 ≤ x.2.1

/-- Entries that share no page, put in order, rise strictly by base. -/
theorem byBase_rises {xs : List (Owner × Nat × Nat)} (apart : xs.Pairwise RowsApart) (pos : ∀ e ∈ xs, 0 < e.2.2) :
    (byBase xs).Pairwise fun x y => x.2.1 < y.2.1 := by
  have total : Std.Total fun x y : Owner × Nat × Nat => x.2.1 ≤ y.2.1 := ⟨fun x y => Nat.le_total _ _⟩
  have trans : IsTrans (Owner × Nat × Nat) fun x y => x.2.1 ≤ y.2.1 := ⟨fun _ _ _ => Nat.le_trans⟩
  have sorted := List.pairwise_insertionSort (fun x y : Owner × Nat × Nat => x.2.1 ≤ y.2.1) xs
  have apart' : (byBase xs).Pairwise RowsApart :=
    (List.perm_insertionSort _ xs).symm.pairwise apart fun h => Or.symm h
  refine (sorted.and apart').imp_of_mem fun {x y} hx hy h => ?_
  have := pos x (mem_byBase.1 hx)
  have := pos y (mem_byBase.1 hy)
  rcases h with ⟨le, h | h⟩ <;> omega

/-- Runs that lie apart and the clear stretches between them give entries that share no page. -/
theorem rows_apart {rs : List Run} {hs : List Hole} (runs : RunsApart rs) (holes : hs.Pairwise fun g h => g.base + g.count ≤ h.base)
    (clear : ∀ h ∈ hs, StretchClear rs h.base h.count) : (rs.map runRow ++ hs.map holeRow).Pairwise RowsApart := by
  refine List.pairwise_append.2 ⟨List.pairwise_map.2 (runs.1.imp .inl), List.pairwise_map.2 (holes.imp .inl), ?_⟩
  intro x hx y hy
  obtain ⟨r, hr, rfl⟩ := List.mem_map.1 hx
  obtain ⟨h, hh, rfl⟩ := List.mem_map.1 hy
  exact clear h hh r hr

section
variable {f : Fmm} (lawful : f.lawful)
include lawful

/-- The runs that are not low are the high ones. -/
theorem highRuns_eq : (f.runs.filter fun r => !decide (r.base < f.lowTop)) = f.runs.filter fun r => decide (f.highBottom ≤ r.base) := by
  refine List.filter_congr fun r hr => ?_
  obtain ⟨-, order, -⟩ := lawful_bounds lawful
  have := run_within lawful hr
  rcases run_side lawful hr with side | side
  · rw [decide_eq_true (show r.base < f.lowTop by omega), decide_eq_false (show ¬ f.highBottom ≤ r.base by omega)]; rfl
  · rw [decide_eq_false (show ¬ r.base < f.lowTop by omega), decide_eq_true side]; rfl

/-- What a low entry is: a run, or FREE pages, between the reserve and the low boundary. -/
theorem lowRows_mem {e : Owner × Nat × Nat} (he : e ∈ f.lowRows) : 0 < e.2.2 ∧ 190 ≤ e.2.1 ∧ e.2.1 + e.2.2 ≤ f.lowTop ∧
    ∀ p, e.2.1 ≤ p → p < e.2.1 + e.2.2 → f.ownerOf p = e.1 := by
  rcases List.mem_append.1 he with he | he <;> obtain ⟨x, hx, rfl⟩ := List.mem_map.1 he
  · obtain ⟨lo, hi⟩ := lowRuns_within lawful x hx
    have mem := (List.mem_filter.1 hx).1
    exact ⟨(run_within lawful mem).1, lo, hi, fun p h1 h2 => ownerOf_of_mem lawful mem ⟨h1, h2⟩⟩
  · obtain ⟨lo, pos, hi, -⟩ := holesBetween_mem ((lawful_apart lawful).filter _) (lowRuns_within lawful) x hx
    exact ⟨pos, lo, hi, (lowHole_fits lawful hx pos (Nat.le_refl _)).2.2⟩

theorem highRows_mem {e : Owner × Nat × Nat} (he : e ∈ f.highRows) : 0 < e.2.2 ∧ f.highBottom ≤ e.2.1 ∧
    ∀ p, e.2.1 ≤ p → p < e.2.1 + e.2.2 → f.ownerOf p = e.1 := by
  unfold Fmm.highRows at he
  rw [highRuns_eq lawful] at he
  rcases List.mem_append.1 he with he | he <;> obtain ⟨x, hx, rfl⟩ := List.mem_map.1 he
  · have mem := (List.mem_filter.1 hx).1
    exact ⟨(run_within lawful mem).1, (highRuns_within lawful x hx).1, fun p h1 h2 => ownerOf_of_mem lawful mem ⟨h1, h2⟩⟩
  · obtain ⟨lo, pos, -, -⟩ := holesBetween_mem ((lawful_apart lawful).filter _) (highRuns_within lawful) x hx
    have free := (highHole_fits lawful hx pos (Nat.le_refl _)).2.2
    rw [Nat.add_sub_cancel] at free
    exact ⟨pos, lo, free⟩

theorem entries_rise : (f.entries.map fun e => e.2.1).Pairwise (· < ·) := by
  obtain ⟨-, order, -⟩ := lawful_bounds lawful
  have low := byBase_rises (rows_apart ((lawful_apart lawful).filter _)
    (holesBetween_rise ((lawful_apart lawful).filter _) (lowRuns_within lawful))
    fun h hh => (holesBetween_mem ((lawful_apart lawful).filter _) (lowRuns_within lawful) h hh).2.2.2)
    fun e he => (lowRows_mem lawful he).1
  have high : (byBase f.highRows).Pairwise fun x y => x.2.1 < y.2.1 := by
    refine byBase_rises ?_ fun e he => (highRows_mem lawful he).1
    unfold Fmm.highRows
    rw [highRuns_eq lawful]
    exact rows_apart ((lawful_apart lawful).filter _)
      (holesBetween_rise ((lawful_apart lawful).filter _) (highRuns_within lawful))
      fun h hh => (holesBetween_mem ((lawful_apart lawful).filter _) (highRuns_within lawful) h hh).2.2.2
  rw [entries_eq, List.pairwise_map]
  refine .cons (fun e he => ?_) (List.pairwise_append.2 ⟨low, high, fun x hx y hy => ?_⟩)
  · show 0 < e.2.1
    obtain ⟨lowTop, -⟩ := lawful_bounds lawful
    rcases List.mem_append.1 he with he | he
    · have := (lowRows_mem lawful (mem_byBase.1 he)).2.1
      omega
    · have := (highRows_mem lawful (mem_byBase.1 he)).2.1
      omega
  · obtain ⟨pos, -, top, -⟩ := lowRows_mem lawful (mem_byBase.1 hx)
    have := (highRows_mem lawful (mem_byBase.1 hy)).2.1
    omega

/-- Every entry has a page, and its pages have its owner. -/
theorem entries_own {e : Owner × Nat × Nat} (he : e ∈ f.entries) :
    0 < e.2.2 ∧ ∀ p, e.2.1 ≤ p → p < e.2.1 + e.2.2 → f.ownerOf p = e.1 := by
  rw [entries_eq] at he
  rcases List.mem_cons.1 he with rfl | he
  · refine ⟨by decide, fun p _ hi => ?_⟩
    have reserve : p < Config.reservePages := by simpa [Config.reservePages] using hi
    exact if_pos reserve
  · rcases List.mem_append.1 he with he | he
    · obtain ⟨pos, -, -, own⟩ := lowRows_mem lawful (mem_byBase.1 he)
      exact ⟨pos, own⟩
    · obtain ⟨pos, -, own⟩ := highRows_mem lawful (mem_byBase.1 he)
      exact ⟨pos, own⟩

/-- Every page outside the gap lies in an entry: the reserve, its run, or a hole. -/
theorem entries_cover {p : Nat} (hp : p < f.lowTop ∨ f.highBottom ≤ p ∧ p < 2048) :
    ∃ e ∈ f.entries, e.2.1 ≤ p ∧ p < e.2.1 + e.2.2 := by
  obtain ⟨low, order, -⟩ := lawful_bounds lawful
  rw [entries_eq]
  by_cases reserve : p < 190
  · exact ⟨_, .head _, Nat.zero_le _, by simpa using reserve⟩
  by_cases used : ∃ r ∈ f.runs, r.base ≤ p ∧ p < r.base + r.count
  · obtain ⟨r, hr, inside⟩ := used
    refine ⟨runRow r, List.mem_cons_of_mem _ (List.mem_append.2 ?_), inside⟩
    by_cases below : r.base < f.lowTop
    · exact .inl (mem_byBase.2 (List.mem_append_left _ (List.mem_map_of_mem (List.mem_filter.2 ⟨hr, by simpa using below⟩))))
    · exact .inr (mem_byBase.2 (List.mem_append_left _ (List.mem_map_of_mem (List.mem_filter.2 ⟨hr, by simpa using below⟩))))
  · have free : f.ownerOf p = .free := ownerOf_eq_free.2 ⟨by omega, fun r hr inside => used ⟨r, hr, inside⟩⟩
    have alone : ∀ q, p ≤ q → q < p + 1 → f.ownerOf q = .free := fun q h1 h2 => by rwa [show q = p by omega]
    rcases hp with below | ⟨above, top⟩
    · obtain ⟨h, hh, inside⟩ := lowHole_of_fits lawful Nat.one_pos ⟨by omega, by omega, alone⟩
      exact ⟨holeRow h, List.mem_cons_of_mem _ (List.mem_append_left _ (mem_byBase.2 (List.mem_append_right _
        (List.mem_map_of_mem hh)))), inside⟩
    · obtain ⟨h, hh, inside⟩ := highHole_of_fits lawful Nat.one_pos ⟨by omega, by omega, alone⟩
      exact ⟨holeRow h, List.mem_cons_of_mem _ (List.mem_append_right _ (mem_byBase.2 (List.mem_append_right _
        (List.mem_map_of_mem hh)))), inside⟩

end

/-- Settles O16: the three commands by their blocks, the entries by the runs and the holes between them. -/
theorem frameMemoryReportsAndCorrectedErrors : Obligations.FrameMemoryReportsAndCorrectedErrors := by
  refine ⟨fun s first _ => ⟨fun high => ?_, fun low => ?_⟩, fun s _ => ?_, fun s => ?_, fun f lawful => ?_⟩
  · exact answers_of_whole_refusal rfl rfl (if_pos high)
  · refine answers_of_whole_refusal rfl rfl ((if_neg (Nat.not_le.2 low)).trans ?_)
    rw [taking_fmm]
    rfl
  · refine answers_of_changes rfl rfl (r := .done) ?_ (record_changes _ .clear (s.taking 0x11#8).fmm.corrected) ⟨rfl, ?_⟩
    · rw [taking_fmm]
    · simp
  · exact ⟨_, rfl, record_changes s s.fmm.record _, rfl, by simp only [satInc, satAdd, Nat.add_one_le_iff]⟩
  · exact ⟨rfl, entries_rise lawful, fun e he => entries_own lawful he, fun p hp => entries_cover lawful hp⟩

end Sys2Proof.Machine
end

section
/-! PROOFS. The requests that place and free runs, and the self-test: OPEN STREAM, CLOSE STREAM, CREATE LAYER and RUN SELF TEST
(R51 to R53, R76, R189, R190). -/

namespace Sys2Proof.Machine

set_option Elab.async false

open Sys2Proof

/-! ### Numbers and sizes of requests -/

theorem streamOf_eq_some {k : Nat} {i : StreamId} : streamOf k = some i ↔ (streamNo i).1 = k := by
  match k with
  | 0 => cases i <;> decide
  | 1 => cases i <;> decide
  | k + 2 => cases i <;> simp [streamOf, streamNo]

theorem streamOf_eq_none {k : Nat} : streamOf k = none ↔ 2 ≤ k := by
  match k with
  | 0 => decide
  | 1 => decide
  | k + 2 => simp [streamOf]

theorem clampNat_eq {lo hi : Nat} (h : lo ≤ hi) (n : Nat) : clampNat lo hi n = max lo (min hi n) := by
  unfold clampNat
  split
  · omega
  · split <;> omega

theorem clampNat_same {lo hi n : Nat} (h : lo ≤ hi) : clampNat lo hi n = n ↔ lo ≤ n ∧ n ≤ hi := by
  rw [clampNat_eq h]
  omega

theorem ceilDiv_page (n : Nat) : ceilDiv n Config.pageBytes = (n + 65535) / 65536 := by
  unfold ceilDiv Config.pageBytes
  omega

theorem slotPages_eq (w h : Nat) : slotPages w h = (w * h * 2 + 65535) / 65536 := ceilDiv_page _

theorem runPages_eq (c : Clearing) : c.runPages =
    c.planes * ((c.width * c.height * (if c.format = .argb8888 then 4 else 2) + 65535) / 65536) := by
  unfold Clearing.runPages planePages
  rw [ceilDiv_page]
  cases c.format <;> rfl

/-- A block that names a stream there is acts on it. -/
theorem withStream_some {k : Nat} {i : StreamId} (h : (streamNo i).1 = k) (s : State) (act : StreamId → State × Reply) :
    withStream k s act = act i := by
  unfold withStream
  rw [streamOf_eq_some.2 h]

theorem withStream_none {k : Nat} (h : 2 ≤ k) (s : State) (act : StreamId → State × Reply) :
    withStream k s act = (s, .plain .badValue) := by
  unfold withStream
  rw [streamOf_eq_none.2 h]

/-- What an allocation call answers without a self-test in flight. -/
theorem allocate_eq {place : Fmm → RunOwner → Nat → Option Fmm} {s : State} (h : s.selfTest = none) (o : RunOwner) (n : Nat) :
    allocate place s o n = match place s.fmm o n with
      | some f => .placed f
      | none => .noSpace := by
  unfold allocate
  rw [h]
  rfl

/-! ### OPEN STREAM -/

section
variable (s : State) (i : StreamId) (f : OpenStream) (p : PixelFormat) (n : Nat) (g : Fmm)

@[simp] theorem openStream_fmm : (s.openStream i f p n g).fmm = g := rfl

theorem openStream_notices : (s.openStream i f p n g).link.notices = queueReport (.streamState i .priming) s.link.notices := rfl

theorem openStream_stream_ne {j : StreamId} (h : j ≠ i) : (s.openStream i f p n g).stream j = s.stream j := by
  unfold State.openStream State.setStreamState
  simp only [report_stream, putStream_stream_ne _ _ _ (Ne.symm h), putVin_stream]
  rfl

theorem openStream_vin (j : StreamId) : (s.openStream i f p n g).vin j = if i = j then (s.vin i).outdated else s.vin j := by
  unfold State.openStream State.setStreamState
  simp only [report_vin, putStream_vin, putVin_vin]
  rfl

theorem openStream_stream : (s.openStream i f p n g).stream i = { s.stream i with
    state := .priming, width := f.width, height := f.height, format := p, slotCount := n
    ring := List.replicate n (.empty OutputSet.none), lastWritten := n - 1, clock := 0, fraction := 0
    clockRunning := false, lastStamp := none, lastSequence := none, endMark := false, counters := ⟨0, 0, 0, 0, 0, 0⟩ } := by
  unfold State.openStream State.setStreamState
  simp only [report_stream, putStream_stream_same, putVin_stream]
  rfl

end

/-- Settles O25: the checks in their order, the placement of O13, and the record of the stream. -/
theorem openStreamTakesARingOrRefuses : Obligations.OpenStreamTakesARingOrRefuses := by
  intro s f _ legal slots pages
  refine ⟨fun none_legal => ?_, fun p i ⟨number, format, size⟩ same => ?_⟩
  · by_cases number : f.stream < 2
    · have refused : OpenStream.legal f = none := Option.eq_none_iff_forall_ne_some.2 fun p e =>
        none_legal p ⟨number, openStream_legal.1 e⟩
      obtain ⟨i, same⟩ : ∃ i, streamOf f.stream = some i :=
        Option.ne_none_iff_exists'.1 fun e => absurd (streamOf_eq_none.1 e) (by omega)
      refine answers_of_whole_refusal rfl rfl ((withStream_some (streamOf_eq_some.1 same) _ _).trans ?_)
      rw [refused]
      rfl
    · exact answers_of_whole_refusal rfl rfl (withStream_none (by omega) _ _)
  have legal : OpenStream.legal f = some p := openStream_legal.2 ⟨format, size⟩
  have count : clampNat 2 8 f.slots = slots := clampNat_eq (by decide) _
  refine ⟨fun opened => ?_, fun closed fresh => ⟨fun busy => ?_, fun idle full => ?_, fun g idle placed => ?_⟩⟩
  · refine answers_of_whole_refusal rfl rfl ((withStream_some same _ _).trans ?_)
    rw [legal]
    exact if_pos (.inl (by rwa [taking_stream]))
  all_goals
    have open_guard : ¬ (((s.taking 0x30#8).stream i).state ≠ .closed ∨ ((s.taking 0x30#8).fmm.runOf (.stream i)).isSome = true) := by
      simp [closed, fresh]
  · refine answers_of_whole_refusal rfl rfl ((withStream_some same _ _).trans ?_)
    rw [legal]
    refine (if_neg open_guard).trans ?_
    dsimp only
    rw [allocate_busy (by rwa [taking_selfTest])]
    rfl
  · refine answers_of_whole_refusal rfl rfl ((withStream_some same _ _).trans ?_)
    rw [legal]
    refine (if_neg open_guard).trans ?_
    dsimp only
    rw [allocate_eq (by rwa [taking_selfTest]), taking_fmm, count, slotPages_eq, full]
    rfl
  · have rest := placed_rest (.inl rfl) placed
    refine answers_of_whole (u := (s.taking 0x30#8).openStream i f p slots g) rfl rfl ((withStream_some same _ _).trans ?_)
      (openStream_changes _ _ _ _ _ (by rwa [taking_fmm])) ?_
    · rw [legal]
      refine (if_neg open_guard).trans ?_
      dsimp only
      rw [allocate_eq (by rwa [taking_selfTest]), taking_fmm, count, slotPages_eq, placed]
      have adjusted : slots = f.slots ↔ 2 ≤ f.slots ∧ f.slots ≤ 8 := count ▸ clampNat_same (by decide)
      simp only [doneOr, Reply.plain, decide_eq_true_eq, ← adjusted]
      by_cases e : slots = f.slots <;> simp [e]
    · refine ⟨rfl, fun j other => ⟨?_, ?_⟩, fun started => ?_, ?_, ?_⟩
      · rw [answer_stream, openStream_stream_ne _ _ _ _ _ _ other, taking_stream]
      · rw [answer_vin, openStream_vin, if_neg (Ne.symm other), taking_vin]
      · rw [answer_vin, openStream_vin, if_pos rfl, taking_vin, started]
        rfl
      · rw [answer_stream, openStream_stream, taking_stream]
      · unfold Noted
        rw [answer_notices, openStream_notices, taking_notices]

/-! ### CLOSE STREAM -/

section
variable (s : State) (f : OutputFrame → OutputFrame)

theorem mapFrames_out (o : Output) : (s.mapFrames f).out o = { s.out o with frame := (s.out o).frame.map f } := by
  cases o <;> simp [State.mapFrames, outputs, putOut_out]

@[simp] theorem mapFrames_link : (s.mapFrames f).link = s.link := rfl
@[simp] theorem mapFrames_stream (i : StreamId) : (s.mapFrames f).stream i = s.stream i := rfl
@[simp] theorem mapFrames_vin (i : StreamId) : (s.mapFrames f).vin i = s.vin i := rfl

end

section
variable (s : State) (i : StreamId)

theorem closeStream_stream : (s.closeStream i).stream i = { s.stream i with
    state := .closed, slotCount := 0, ring := [], lastWritten := 0, clock := 0, fraction := 0, clockRunning := false, endMark := false } := by
  unfold State.closeStream State.setStreamState
  simp only [report_stream, putStream_stream_same, mapFrames_stream, putVin_stream]
  rfl

theorem closeStream_stream_ne {j : StreamId} (h : j ≠ i) : (s.closeStream i).stream j = s.stream j := by
  unfold State.closeStream State.setStreamState
  simp only [report_stream, putStream_stream_ne _ _ _ (Ne.symm h), mapFrames_stream]
  rfl

theorem closeStream_vin (j : StreamId) : (s.closeStream i).vin j = if i = j then (s.vin i).dropPicture else s.vin j := by
  unfold State.closeStream State.setStreamState
  simp only [report_vin, putStream_vin, mapFrames_vin]
  exact putVin_vin _ _ _ _

theorem closeStream_out (o : Output) :
    (s.closeStream i).out o = { s.out o with frame := (s.out o).frame.map (OutputFrame.withoutFilm i) } := by
  unfold State.closeStream State.setStreamState
  simp only [report_out, putStream_out, mapFrames_out]
  rfl

theorem closeStream_notices : (s.closeStream i).link.notices = queueReport (.streamState i .closed) s.link.notices := rfl

end

/-- A frame after its stream has closed: its background in place of film of that stream, else as it was (R53). -/
theorem withoutFilm_spec (i : StreamId) (f : OutputFrame) :
    let g := f.withoutFilm i
    g.timing = f.timing ∧ g.layers = f.layers ∧ ((∀ c k p w h fmt fit, f.base ≠ .film c i k p w h fmt fit) → g = f) ∧
      ∀ c k p w h fmt fit, f.base = .film c i k p w h fmt fit → g.base = .background c := by
  unfold OutputFrame.withoutFilm
  split
  · rename_i c j k p w h fmt fit film
    split
    · rename_i same
      subst same
      refine ⟨rfl, rfl, fun other => absurd film (other _ _ _ _ _ _ _), fun c' k' p' w' h' fmt' fit' e => ?_⟩
      rw [film] at e
      cases e
      rfl
    · rename_i other
      refine ⟨rfl, rfl, fun _ => rfl, fun c' k' p' w' h' fmt' fit' e => ?_⟩
      rw [film] at e
      cases e
      exact absurd rfl other
  · rename_i none_film
    exact ⟨rfl, rfl, fun _ => rfl, fun c k p w h fmt fit e => absurd e (none_film _ _ _ _ _ _ _ _)⟩

/-- Settles O26. -/
theorem closeStreamFreesTheRing : Obligations.CloseStreamFreesTheRing := by
  refine fun s _ => ⟨fun k high => answers_of_whole_refusal rfl rfl (withStream_none high _ _), fun i => ⟨fun closed => ?_, fun opened => ?_⟩⟩
  · exact answers_of_whole_refusal rfl rfl ((withStream_some rfl _ _).trans (if_pos (by rwa [taking_stream])))
  · refine answers_of_whole rfl rfl ((withStream_some rfl _ _).trans (if_neg (by rwa [taking_stream]))) (closeStream_changes _ _) ?_
    refine ⟨?_, ?_, fun j other => ⟨?_, ?_⟩, fun k short picture => ?_, fun o f frame => ?_, fun o frame => ?_, ?_⟩
    · rw [answer_fmm, closeStream_fmm, taking_fmm]
    · rw [answer_stream, closeStream_stream, taking_stream]
    · rw [answer_stream, closeStream_stream_ne _ _ other, taking_stream]
    · rw [answer_vin, closeStream_vin, if_neg (Ne.symm other), taking_vin]
    · rw [answer_vin, closeStream_vin, if_pos rfl, taking_vin, picture]
      rfl
    · refine ⟨f.withoutFilm i, ?_, withoutFilm_spec i f⟩
      rw [answer_out, closeStream_out, taking_out, frame]
      rfl
    · rw [answer_out, closeStream_out, taking_out, frame]
      rfl
    · unfold Noted
      rw [answer_notices, closeStream_notices, taking_notices]

/-! ### CREATE LAYER -/

/-- A request whose block answers later makes of the state what the block does, and is left EXECUTING (R173). -/
theorem makes_of_later {α : Type} {c : Instr} {code : Byte} {f : α} {block : α → State → State × Reply} {s u : State} {ps : List Piece}
    {P : State → Prop} (he : exec c s = .next (requestWith code (.whole f) block s)) (hc : codeOf c = code) (comes : Comes c s)
    (hb : block f (s.taking code) = (u, .later)) (hu : Changes ps (s.taking code) u) (hP : P u) : Makes c s (.requests :: ps) P := by
  subst hc
  unfold Comes at comes
  have left : requestWith (codeOf c) (.whole f) block s = u := by
    unfold requestWith request
    dsimp only
    rw [if_pos comes, hb]
  refine ⟨u, left ▸ he, Changes.trans (t := s.taking (codeOf c)) (fun p hp => ?_) (fun p hp => ?_), hP⟩
  · exact taking_changes s _ p fun h => hp (List.mem_singleton.1 h ▸ .head _)
  · exact hu p fun h => hp (.tail _ h)

/-- A request that is handed over is EXECUTING. -/
theorem executing_of_handsOver {s : State} {code : Byte} (h : s.handsOver code = true) :
    ∃ r ∈ s.link.requests, r.status = .executing ∧ r.code = code := by
  unfold State.handsOver at h
  simp only [Bool.and_eq_true, List.any_eq_true, decide_eq_true_eq] at h
  obtain ⟨⟨⟨r, hr, executing, same⟩, -⟩, -⟩ := h
  exact ⟨r, hr, of_decide_eq_true executing, same⟩

/-- While a run is being cleared, the row of the CREATE LAYER that waits for it changes nothing (log 22). -/
theorem createLayer_while_clearing {s : State} (b : Body CreateLayer) (clearing : s.layers.clearing.isSome = true)
    (lawful : RequestsLawful s) : exec (.createLayer b) s = .next s := by
  obtain ⟨-, -, waits⟩ := lawful
  obtain ⟨r, hr, executing, -⟩ := waits clearing
  have taken : s.taking 0x40#8 = s := if_pos (List.any_eq_true.2 ⟨r, hr, decide_eq_true executing⟩)
  have held : s.handsOver 0x40#8 = false := by
    unfold State.handsOver
    rw [Option.isNone_eq_false_iff.2 clearing]
    simp
  show Host.Outcome.next (request 0x40#8 _ s) = _
  unfold request
  dsimp only
  rw [taken, held]
  rfl

theorem finishClearing_mem {s : State} {c : Clearing} {run : Run} (h : s.fmm.runOf (.layer c.layer) = some run) :
    (s.finishClearing c).mem = s.mem.zeroPages run.base run.count := by
  unfold State.finishClearing
  rw [h]
  rfl

theorem finishClearing_layer (s : State) (c : Clearing) (n : Fin 24) :
    (s.finishClearing c).layer n = if c.layer = n then c.newLayer else s.layer n := putLayer_layer _ _ _ _

/-- Settles O33. -/
theorem createLayerClearsItsRun : Obligations.CreateLayerClearsItsRun := by
  refine ⟨fun s f _ => ⟨fun none_legal => ?_, fun k x n ⟨number, kind, format, size⟩ same => ?_⟩,
    fun s b clearing lawful => createLayer_while_clearing b clearing lawful, fun s c run clearing held => ?_, fun s none_cleared => ?_⟩
  · have refused : CreateLayer.legal f = none := Option.eq_none_iff_forall_ne_some.2 fun c e => by
      obtain ⟨n, k, x, same, kind, format, size, -⟩ := createLayer_legal.1 e
      exact none_legal k x ⟨same ▸ n.2, kind, format, size⟩
    refine answers_of_whole_refusal rfl rfl ?_
    rw [refused]
    rfl
  · have described := createLayer_legal.2 ⟨n, k, x, same, kind, format, size, rfl⟩
    have run_pages := runPages_eq ⟨n, k, f.permitted, x, f.width, f.height, f.planes⟩
    refine ⟨fun used => ?_, fun unused fresh => ⟨fun busy => ?_, fun idle => ⟨fun full => ?_, fun g placed comes => ?_⟩⟩⟩
    · refine answers_of_whole_refusal rfl rfl ?_
      rw [described]
      exact if_pos (.inl (by rwa [taking_layer]))
    all_goals
      have guard : ¬ (((s.taking 0x40#8).layer n).state ≠ .unused ∨ ((s.taking 0x40#8).fmm.runOf (.layer n)).isSome = true) := by
        simp [unused, fresh]
    · refine answers_of_whole_refusal rfl rfl ?_
      rw [described]
      refine (if_neg guard).trans ?_
      rw [allocate_busy (by rwa [taking_selfTest])]
      rfl
    · refine answers_of_whole_refusal rfl rfl ?_
      rw [described]
      refine (if_neg guard).trans ?_
      rw [allocate_eq (by rwa [taking_selfTest]), taking_fmm, run_pages, full]
      rfl
    · have rest := placed_rest (.inr rfl) placed
      refine makes_of_later (ps := [.pageMap, .clearing]) rfl rfl comes (u := { s.taking 0x40#8 with
          fmm := g, layers := { (s.taking 0x40#8).layers with clearing := some ⟨n, k, f.permitted, x, f.width, f.height, f.planes⟩ } })
        ?_ ?_ ⟨⟨rfl, rfl, rfl, rfl, rfl⟩, executing_of_handsOver (s := s.taking 0x40#8) comes, rfl, rfl⟩
      · rw [described]
        refine (if_neg guard).trans ?_
        rw [allocate_eq (by rwa [taking_selfTest]), taking_fmm, run_pages, placed]
      · refine Changes.trans (t := { s.taking 0x40#8 with fmm := g }) (Changes.mono (pageMap_changes _ ?_)) (Changes.mono (clearing_changes _ _))
        rwa [taking_fmm]
  · refine ⟨(s.finishClearing c).answer 0x40#8 .done .empty, ?_, ?_, ?_, rfl, fun a => ?_, ?_, fun m other => ?_⟩
    · show execLayerRunCleared s = _
      unfold execLayerRunCleared
      rw [clearing]
    · exact ((finishClearing_changes s c).mono).trans ((answer_changes _ _ _ _).mono)
    · exact answer_requests _ _ _ rfl ((finishClearing_changes s c).at .requests)
    · rw [answer_mem, finishClearing_mem held, zeroPages_read]
    · rw [answer_layer, finishClearing_layer, if_pos rfl]
      rfl
    · rw [answer_layer, finishClearing_layer, if_neg (Ne.symm other)]
  · show execLayerRunCleared s = _
    unfold execLayerRunCleared
    rw [none_cleared]

end Sys2Proof.Machine
end

section
/-! PROOFS. The self-test (R189, R190). -/

namespace Sys2Proof.Machine

set_option Elab.async false

open Sys2Proof

/-- Tests 4 and 5 pass: they run the part's own arithmetic on fixed inputs (R189). -/
theorem test4_passes : test4 = true := by decide +kernel
theorem test5_passes : test5 = true := by decide +kernel

/-- A self-test's verdict: the test that failed at its beginning, else test 3, else none (R189). -/
theorem verdict_eq (x : SelfTest) (b : Bool) :
    x.verdict b = if x.early ≠ 0 then x.early else if x.errorFound = true ∨ b = true then 3 else 0 := by
  unfold SelfTest.verdict
  rw [test4_passes, test5_passes]
  simp

/-- Test 1 compares the check over sector 0's first 254 bytes with its last two (R189). -/
theorem test1_iff (s : State) : s.test1 = true ↔ (check ((s.sector 0).bytes.take 254)).toNat =
    ((s.sector 0).bytes.getD 254 0#8).toNat * 256 + ((s.sector 0).bytes.getD 255 0#8).toNat := by
  unfold State.test1 checkMatches
  rw [decide_eq_true_iff]
  rfl

/-- Test 2 finds sectors 1 to 4 VALID (R189). -/
theorem test2_iff (s : State) : s.test2 = true ↔ ∀ n : Fin 8, 1 ≤ n.1 → n.1 ≤ 4 → (s.sector n).state = some .valid := by
  have four : ∀ n : Fin 8, n ∈ ([1, 2, 3, 4] : List (Fin 8)) ↔ 1 ≤ n.1 ∧ n.1 ≤ 4 := by decide
  unfold State.test2
  rw [List.all_eq_true]
  simp only [four, decide_eq_true_eq, and_imp]

/-- The FREE pages, rising (R190). -/
theorem mem_freePages {f : Fmm} {p : Nat} : p ∈ f.freePages ↔ p < 2048 ∧ f.ownerOf p = .free := by
  simp [Fmm.freePages, Config.pages]

theorem freePages_rise (f : Fmm) : f.freePages.Pairwise (· < ·) := List.pairwise_lt_range.filter _

/-- A reader's event with nothing due for it hands nothing over. -/
theorem handDue_nothing {s : State} {r : Reader} (h : ∀ c ∈ s.fmm.pending, c.dueAt r = false) : s.handDue r = s := by
  have none_due : s.fmm.pending.filter (Consequence.dueAt · r) = [] := List.filter_eq_nil_iff.2 fun c hc => by simp [h c hc]
  have all_kept : (s.fmm.pending.filter fun c => !c.dueAt r) = s.fmm.pending := List.filter_eq_self.2 fun c hc => by simp [h c hc]
  unfold State.handDue
  rw [none_due, all_kept]
  rfl

/-- What the end of a self-test makes of the state when its reader has no consequence waiting. -/
theorem endSelfTest_eq {s : State} {x : SelfTest} (flying : s.selfTest = some x) (quiet : ∀ c ∈ s.fmm.pending, c.reader ≠ .selfTest)
    (b : Bool) : s.endSelfTest b =
      State.report { s with mem := s.mem.patternPages x.pages x.late, selfTest := none } (.selfTestDone (x.verdict b)) := by
  have none_due : ∀ c ∈ s.fmm.pending, c.dueAt .selfTest = false := fun c hc => by
    simp [Consequence.dueAt, quiet c hc]
  unfold State.endSelfTest
  rw [flying]
  exact congrArg (fun u : State => State.report { u with selfTest := none } (.selfTestDone (x.verdict b)))
    (handDue_nothing (s := { s with mem := s.mem.patternPages x.pages x.late, selfTest := some x }) none_due)

/-- Settles O52: tests 1 and 2 at the beginning, the pattern and the verdict at the end. -/
theorem selfTestRunsOverFreePages : Obligations.SelfTestRunsOverFreePages := by
  refine ⟨fun s _ => ⟨fun busy => ?_, fun idle => ?_⟩, fun s b idle => ?_, fun s b x flying quiet => ?_⟩
  · exact answers_of_refusal rfl rfl (if_pos (by rwa [taking_selfTest]))
  · refine answers_of_changes rfl rfl (if_neg (by simp [idle])) (selfTest_changes _ _) ⟨_, rfl, rfl, rfl, ?_⟩
    have one := test1_iff (s.taking 0x83#8)
    have two := test2_iff (s.taking 0x83#8)
    rw [taking_sector] at one
    simp only [taking_sector] at two
    dsimp only
    rw [← one, ← two]
    refine ⟨fun fails => ?_, fun passes fails => ?_, fun passes passes' => ?_⟩
    · simp [fails]
    · simp [passes, fails]
    · simp only [passes, passes', Bool.not_true, Bool.false_eq_true, if_false, if_true, taking_fmm]
      exact ⟨trivial, freePages_rise _, fun p => mem_freePages⟩
  · show Host.Outcome.next (s.endSelfTest b) = _
    unfold State.endSelfTest
    rw [idle]
  · refine ⟨_, congrArg Host.Outcome.next (endSelfTest_eq flying quiet b), ?_, rfl, fun a out => ?_, fun a inside => ?_, ?_⟩
    · refine Changes.trans (Changes.trans ((mem_changes s (s.mem.patternPages x.pages x.late)).mono) ((selfTest_changes _ none).mono)) ?_
      exact (report_changes _ _).mono
    · exact (patternPages_read _ _ _ _).trans (if_neg out)
    · exact (patternPages_read _ _ _ _).trans (if_pos inside)
    · rw [verdict_eq]
      rfl

end Sys2Proof.Machine
end

section
/-! PROOFS. The state after reset. -/

namespace Sys2Proof.Machine

set_option Elab.async false

open Sys2Proof

/-! ### The records of the state after reset -/

@[simp] theorem reset_stream (i : StreamId) : State.reset.stream i = .initial := Table.sel_fill _ _
@[simp] theorem reset_vin (i : StreamId) : State.reset.vin i = .idle := Table.sel_fill _ _
@[simp] theorem reset_layer (n : Fin 24) : State.reset.layer n = .initial := Table.sel_fill _ _
@[simp] theorem reset_entry (i : Fin 8) : State.reset.entry i = none := Table.sel_fill _ _
@[simp] theorem reset_rule (n : Fin 16) : State.reset.rule n = .cleared := Table.sel_fill _ _
@[simp] theorem reset_signal (i : SignalId) : State.reset.signal i = .initial i := by cases i <;> rfl
@[simp] theorem reset_out (o : Output) : State.reset.out o = .loaded true (builtInTiming o) ⟨0, 0, 0⟩ false := by cases o <;> rfl

theorem reset_ringLawful (i : StreamId) : RingLawful State.reset i := by
  unfold RingLawful
  rw [reset_stream, reset_vin]
  have empty : Stream.initial.ring = [] := rfl
  dsimp only
  rw [empty]
  exact ⟨rfl, fun _ => rfl, by decide, fun k x h => by simp at h, nofun, by decide, fun _ h => by simp at h⟩

theorem reset_portsLawful : PortsLawful State.reset := by
  refine ⟨reset_ringLawful .a, reset_ringLawful .b, fun n p => ?_, fun n _ => ?_, nofun⟩
  · rw [reset_layer, reset_vin]
    exact ⟨nofun, nofun⟩
  · rw [reset_layer]
    rfl

theorem reset_placementsLawful (o : Output) : State.reset.placementsLawful o := by
  have none_placed : Layer.initial.placements.sel (outputNo o) = none := Table.sel_fill _ _
  unfold State.placementsLawful State.placedOn
  simp [none_placed]

theorem reset_reverseSettled : ReverseSettled State.reset := by
  unfold ReverseSettled
  decide +kernel

theorem reset_chimesLawful : ChimesLawful State.reset := by
  have unused : ∀ (f : ChimeEntry → Bool) i, State.reset.entryIs f i = false := fun f i => by
    unfold State.entryIs
    rw [reset_entry]
  refine ⟨fun i j h => ?_, fun i j h => ?_, fun i j e f h => ?_, fun i h => ?_, fun _ => reset_entry, fun i e h => ?_⟩
  · simp [unused] at h
  · simp [unused] at h
  · simp at h
  · simp [unused] at h
  · simp at h

theorem reset_outputsLawful : OutputsLawful State.reset := by
  intro o
  rw [reset_out]
  exact ⟨⟨nofun, nofun⟩, ⟨nofun, nofun⟩, nofun⟩

theorem reset_mem_read (a : Nat) : State.reset.mem.read a = 0#8 := rfl

/-- Settles O60. -/
theorem resetStateIsLawful : Obligations.ResetStateIsLawful := by
  refine ⟨by decide, by decide, ⟨by decide, trivial, nofun⟩, by unfold NoticesLawful; decide, reset_reverseSettled, nofun, ?_, reset_portsLawful,
    reset_placementsLawful, reset_chimesLawful, ?_, ?_, reset_outputsLawful, fun _ => rfl, rfl, rfl, rfl, rfl,
    fun i => ⟨reset_stream i, reset_vin i⟩, reset_layer, fun o => ?_, rfl, rfl, rfl, reset_entry, rfl, rfl, reset_mem_read, rfl, ?_⟩
  · intro m n enabled
    rw [reset_rule] at enabled
    cases enabled
  · unfold TargetsFollow
    decide +kernel
  · unfold CameraFollows
    decide +kernel
  · rw [reset_out]
    exact ⟨rfl, rfl, rfl⟩
  · decide

end Sys2Proof.Machine
end

section
/-! PROOFS. Finding an uncorrectable error (R13 to R16, R21, R22, R190). -/

namespace Sys2Proof.Machine

set_option Elab.async false

open Sys2Proof

/-! ## The steps of finding an error -/

/-- Holding a consequence adds it at the tail, unless its unit has one (R15). -/
theorem hold_pending (f : Fmm) (c : Consequence) :
    (f.hold c).pending = if f.pending.any (fun d => decide (d.unit = c.unit)) then f.pending else f.pending ++ [c] := by
  unfold Fmm.hold
  split <;> rfl

theorem hold_record (f : Fmm) (c : Consequence) : (f.hold c).record = f.record ∧ (f.hold c).corrected = f.corrected := by
  unfold Fmm.hold
  split <;> exact ⟨rfl, rfl⟩

/-- A clear record latches the error and queues MEMORY_ERROR (R22). -/
theorem offerError_clear {s : State} (clear : s.fmm.record.latched = false) (page : Nat) (o : Owner) (r : Reader) :
    (s.offerError page o r).fmm.record = ⟨true, page, o, r, false⟩ ∧ Noted s (s.offerError page o r) (.memoryError page o r) := by
  unfold State.offerError
  rw [if_neg (by simp [clear])]
  exact ⟨rfl, rfl⟩

/-- A latched record sets MORE, and nothing is queued (R22). -/
theorem offerError_latched {s : State} (latched : s.fmm.record.latched = true) (page : Nat) (o : Owner) (r : Reader) :
    (s.offerError page o r).fmm.record = { s.fmm.record with more := true } ∧
      (s.offerError page o r).link.notices = s.link.notices := by
  unfold State.offerError
  rw [if_pos latched]
  exact ⟨rfl, rfl⟩

theorem offerError_corrected (s : State) (page : Nat) (o : Owner) (r : Reader) :
    (s.offerError page o r).fmm.corrected = s.fmm.corrected := by
  unfold State.offerError
  split <;> rfl

/-- The state once an error has been offered to the record, and the self-test told of it. -/
def foundIn (s : State) (r : Reader) (word : Nat) : State :=
  let u := State.offerError { s with mem := s.mem.markBad word } (word / 8192) (s.fmm.ownerOf (word / 8192)) r
  if r = .selfTest then u.selfTestFinds word else u

theorem findError_eq (s : State) (r : Reader) (word : Nat) :
    s.findError r word = match consequenceOf s (word / 8192) r with
      | some c => { foundIn s r word with fmm := (foundIn s r word).fmm.hold c }
      | none => foundIn s r word := rfl

/-- The record and the notices are those of the offer: the self-test and the consequence held touch neither. -/
theorem findError_record (s : State) (r : Reader) (word : Nat) :
    let u := State.offerError { s with mem := s.mem.markBad word } (word / 8192) (s.fmm.ownerOf (word / 8192)) r
    (s.findError r word).fmm.record = u.fmm.record ∧ (s.findError r word).fmm.corrected = u.fmm.corrected ∧
      (s.findError r word).link.notices = u.link.notices := by
  have told : ∀ u : State, let v := if r = .selfTest then u.selfTestFinds word else u
      (v.fmm.record = u.fmm.record ∧ v.fmm.corrected = u.fmm.corrected) ∧ v.link.notices = u.link.notices := fun u =>
    have same := Changes.ite (c := r = .selfTest) (selfTestFinds_changes u word) (.refl _ u)
    ⟨same.at .errorRecord, same.at .notices⟩
  obtain ⟨⟨record, corrected⟩, notices⟩ := told _
  rw [findError_eq]
  cases consequenceOf s (word / 8192) r with
  | none => exact ⟨record, corrected, notices⟩
  | some c =>
    obtain ⟨kept, count⟩ := hold_record (foundIn s r word).fmm c
    exact ⟨kept.trans record, count.trans corrected, notices⟩

/-- The consequences held after an error (R15). -/
theorem findError_pending (s : State) (r : Reader) (word : Nat) :
    (s.findError r word).fmm.pending = match consequenceOf s (word / 8192) r with
      | some c => if s.fmm.pending.any (fun d => decide (d.unit = c.unit)) then s.fmm.pending else s.fmm.pending ++ [c]
      | none => s.fmm.pending := by
  have same : (foundIn s r word).fmm.pending = s.fmm.pending := by
    have offered := (offerError_changes { s with mem := s.mem.markBad word } (word / 8192) (s.fmm.ownerOf (word / 8192)) r).at
      .consequences
    exact ((Changes.ite (selfTestFinds_changes _ word) (.refl _ _)).at .consequences).trans offered
  rw [findError_eq]
  cases consequenceOf s (word / 8192) r with
  | none => exact same
  | some c => exact (hold_pending _ c).trans (by rw [same])

/-- Of the self-test, an error matters that SELF_TEST itself finds (R21, R190). -/
theorem findError_selfTest (s : State) (r : Reader) (word : Nat) :
    (s.findError r word).selfTest = (if r = .selfTest then s.selfTestFinds word else s).selfTest ∧
      (s.findError r word).free = (if r = .selfTest then s.selfTestFinds word else s).free := by
  have stable : ∀ u : State, u.selfTest = s.selfTest → u.free = s.free →
      (u.selfTestFinds word).selfTest = (s.selfTestFinds word).selfTest ∧
        (u.selfTestFinds word).free = (s.selfTestFinds word).free := by
    intro u test free
    unfold State.selfTestFinds
    rw [test, free]
    cases s.selfTest with
    | none => exact ⟨test, free⟩
    | some x =>
      dsimp only
      split
      · exact ⟨rfl, rfl⟩
      · exact ⟨test, free⟩
  have offered := offerError_changes { s with mem := s.mem.markBad word } (word / 8192) (s.fmm.ownerOf (word / 8192)) r
  have found : (foundIn s r word).selfTest = (if r = .selfTest then s.selfTestFinds word else s).selfTest ∧
      (foundIn s r word).free = (if r = .selfTest then s.selfTestFinds word else s).free := by
    unfold foundIn
    dsimp only
    split
    · exact stable _ (offered.at .selfTest) (offered.at .free)
    · exact ⟨offered.at .selfTest, offered.at .free⟩
  rw [findError_eq]
  cases consequenceOf s (word / 8192) r <;> exact found

/-! ## Units (R15) -/

theorem ownerOf_reserve {f : Fmm} {p : Nat} (h : p < 190) : f.ownerOf p = .reserve := if_pos h

theorem reserveUnit_capture {p : Nat} {k : Fin 3} (low : p < 114) (slot : k.1 = p / 38) : reserveUnit p = .capture k := by
  unfold reserveUnit Config.reserveUnit Config.guideBase
  match k, slot with
  | 0, slot => exact if_pos (by simp at slot; omega)
  | 1, slot => rw [if_neg (by simp at slot; omega), if_pos (by simp at slot; omega)]
  | 2, slot => rw [if_neg (by simp at slot; omega), if_neg (by simp at slot; omega), if_pos low]

theorem reserveUnit_guidePlane {p : Nat} {k : Fin 2} (low : 114 ≤ p) (high : p < 190) (plane : k.1 = (p - 114) / 38) :
    reserveUnit p = .guidePlane k := by
  unfold reserveUnit Config.reserveUnit Config.guideBase
  rw [if_neg (by omega), if_neg (by omega), if_neg (by omega)]
  match k, plane with
  | 0, plane => exact if_pos (by simp at plane; omega)
  | 1, plane => exact if_neg (by simp at plane; omega)

/-- The unit of a page, and the stamp remembered with it: the frame a stream slot is SHOWING (R15, R16). -/
def UnitOf (s : State) (page : Nat) (u : MemUnit) (stamp : Option Nat) : Prop :=
  (stamp = none ∧ ((∃ n, s.fmm.ownerOf page = .run (.layer n) ∧ u = .layer n) ∨
    (∃ n, s.fmm.ownerOf page = .run (.sample n) ∧ u = .sample n) ∨
    (∃ k : Fin 3, page < 114 ∧ k.1 = page / 38 ∧ u = .capture k) ∨
    (∃ p : Fin 2, 114 ≤ page ∧ page < 190 ∧ p.1 = (page - 114) / 38 ∧ u = .guidePlane p))) ∨
  (∃ x, s.fmm.ownerOf page = .run (.stream x) ∧
    u = .streamSlot x (s.fmm.indexOf page / slotPages (s.stream x).width (s.stream x).height) ∧
    stamp = showingStamp (s.stream x) (s.fmm.indexOf page / slotPages (s.stream x).width (s.stream x).height))

/-- The consequence of an error in a page of a unit. -/
theorem consequenceOf_unit {s : State} {page : Nat} {u : MemUnit} {stamp : Option Nat} (h : UnitOf s page u stamp) (r : Reader) :
    consequenceOf s page r = some ⟨u, r, s.fmm.indexOf page, stamp, false⟩ := by
  unfold consequenceOf
  dsimp only
  rcases h with ⟨rfl, ⟨n, owner, rfl⟩ | ⟨n, owner, rfl⟩ | ⟨k, low, slot, rfl⟩ | ⟨p, low, high, plane, rfl⟩⟩ | ⟨x, owner, rfl, rfl⟩
  · rw [owner]
  · rw [owner]
  · rw [ownerOf_reserve (by omega), reserveUnit_capture low slot]
  · rw [ownerOf_reserve high, reserveUnit_guidePlane low high plane]
  · rw [owner]

/-- A page that nobody owns has no consequence. -/
theorem consequenceOf_free {s : State} {page : Nat} (h : s.fmm.ownerOf page = .free) (r : Reader) : consequenceOf s page r = none := by
  unfold consequenceOf
  rw [h]

end Sys2Proof.Machine
end

section
/-! PROOFS. The notice queue (R176, R177), the end of chime entries (R157), and the output sample period (R20, R158). -/

namespace Sys2Proof.Machine

set_option Elab.async false

open Sys2Proof

/-! ## The notice queue -/

/-- A report leaves the entries of the other kinds and sources as they were (R176). -/
theorem mem_queueReport {r : Report} {x : NoticeEntry} (other : Report.key x.report ≠ Report.key r) :
    ∀ {q : List NoticeEntry}, x ∈ q → x ∈ queueReport r q
  | e :: es, h => by
    unfold queueReport
    split
    case isTrue same =>
      rcases List.mem_cons.1 h with rfl | later
      · exact absurd same other
      · exact .tail _ later
    case isFalse =>
      rcases List.mem_cons.1 h with rfl | later
      · exact .head _
      · exact .tail _ (mem_queueReport other later)

/-- Once reported, a kind and source has an entry; it is the new report where the two are not merged (R177). -/
theorem queueReport_has {r : Report} (replaces : ∀ e : Report, Report.key e = Report.key r → Report.merge e r = r) :
    ∀ q : List NoticeEntry, ∃ x ∈ queueReport r q, x.report = r
  | [] => ⟨⟨r, 0⟩, .head _, rfl⟩
  | e :: es => by
    unfold queueReport
    split
    case isTrue same => exact ⟨_, .head _, replaces _ same⟩
    case isFalse =>
      obtain ⟨x, hx, named⟩ := queueReport_has replaces es
      exact ⟨x, .tail _ hx, named⟩

/-- Merging gives the new report's kind and source. -/
theorem merge_key (e r : Report) : Report.key (Report.merge e r) = Report.key r := by
  cases e <;> cases r <;> rfl

/-- The kinds and sources in the queue after a report: those before it, and its own. -/
theorem mem_keys_queueReport {r : Report} {k : Nat × Nat} :
    ∀ q : List NoticeEntry, k ∈ (queueReport r q).map (fun e => Report.key e.report) ↔
      k ∈ q.map (fun e => Report.key e.report) ∨ k = Report.key r
  | [] => by simp [queueReport]
  | e :: es => by
    unfold queueReport
    split
    case isTrue same =>
      simp only [List.map_cons, List.mem_cons, merge_key, same]
      tauto
    case isFalse =>
      simp only [List.map_cons, List.mem_cons, mem_keys_queueReport es]
      tauto

/-- The kinds and sources queued after a report: those before it, and its own. -/
theorem mem_noticeKeys_report {s : State} {r : Report} {k : Nat × Nat} :
    k ∈ (s.report r).noticeKeys ↔ k ∈ s.noticeKeys ∨ k = Report.key r := mem_keys_queueReport _

/-! ## The end of a chime entry -/

/-- An entry is free, and the notice of its last end, PLAYED, is queued (R157). -/
def PlayedOut (s : State) (i : Fin 8) (tag : Byte) : Prop :=
  s.entry i = none ∧ ∃ x ∈ s.link.notices, x.report = .chimeEnded i tag .played

/-- A change of other pieces keeps an entry free and its notice queued. -/
theorem PlayedOut.keep {ps : List Piece} {s t : State} {i : Fin 8} {tag : Byte} (h : PlayedOut s i tag) (c : Changes ps s t)
    (entries : ps.contains .entries = false := by decide) (notices : ps.contains .notices = false := by decide) :
    PlayedOut t i tag := by
  obtain ⟨free, x, hx, named⟩ := h
  have same : t.chime.entries = s.chime.entries := (c.at .entries entries).1
  refine ⟨?_, x, ?_, named⟩
  · unfold State.entry at *
    rw [same, free]
  · rwa [show t.link.notices = s.link.notices from c.at .notices notices]

theorem chimeEnded_replaces (i : Fin 8) (tag : Byte) (reason : ChimeEnd) (e : Report) (_ : Report.key e = Report.key (.chimeEnded i tag reason)) :
    Report.merge e (.chimeEnded i tag reason) = .chimeEnded i tag reason := by
  cases e <;> rfl

theorem endEntry_some {s : State} {i : Fin 8} {e : ChimeEntry} (h : s.entry i = some e) (reason : ChimeEnd) :
    (∀ j, (s.endEntry i reason).entry j = if i = j then none else s.entry j) ∧
      (s.endEntry i reason).link.notices = queueReport (.chimeEnded i e.tag reason) s.link.notices := by
  unfold State.endEntry
  rw [h]
  dsimp only
  split <;> exact ⟨putEntry_entry s i none, rfl⟩

theorem endEntry_none {s : State} {i : Fin 8} (h : s.entry i = none) (reason : ChimeEnd) : s.endEntry i reason = s := by
  unfold State.endEntry
  rw [h]

/-- An entry that ends PLAYED is played out. -/
theorem endEntry_playedOut {s : State} {i : Fin 8} {e : ChimeEntry} (h : s.entry i = some e) : PlayedOut (s.endEntry i .played) i e.tag := by
  obtain ⟨entries, notices⟩ := endEntry_some h .played
  refine ⟨by rw [entries, if_pos rfl], ?_⟩
  rw [notices]
  exact queueReport_has (chimeEnded_replaces i e.tag .played) _

/-- The end of an entry keeps the ones played out before it. -/
theorem PlayedOut.endEntry {s : State} {i : Fin 8} {tag : Byte} (h : PlayedOut s i tag) (j : Fin 8) (reason : ChimeEnd) :
    PlayedOut (s.endEntry j reason) i tag := by
  obtain ⟨free, x, hx, named⟩ := h
  cases at_j : s.entry j with
  | none => rw [endEntry_none at_j]; exact ⟨free, x, hx, named⟩
  | some e =>
    obtain ⟨entries, notices⟩ := endEntry_some at_j reason
    have apart : j ≠ i := fun same => by rw [same, free] at at_j; exact nomatch at_j
    refine ⟨by rw [entries, if_neg apart, free], x, ?_, named⟩
    rw [notices]
    refine mem_queueReport ?_ hx
    rw [named]
    intro same
    exact apart (Fin.ext (congrArg Prod.snd same).symm)

/-- An entry that stays in use is written over: the free ones stay free. -/
theorem PlayedOut.putEntry {s : State} {i j : Fin 8} {tag : Byte} {e : ChimeEntry} (h : PlayedOut s i tag) (used : s.entry j = some e)
    (f : Option ChimeEntry) : PlayedOut (s.putEntry j f) i tag := by
  obtain ⟨free, noticed⟩ := h
  have apart : j ≠ i := fun same => by rw [same, free] at used; exact nomatch used
  exact ⟨by rw [putEntry_entry_ne s j f apart, free], noticed⟩

/-- One step of the search for the entry that comes first. -/
def better (s : State) (p : ChimeEntry → Bool) (before : ChimeEntry → ChimeEntry → Bool) (best : Option (Fin 8 × ChimeEntry))
    (i : Fin 8) : Option (Fin 8 × ChimeEntry) :=
  match s.entry i with
  | none => best
  | some e =>
    if p e then
      (match best with
        | none => some (i, e)
        | some b => if before e b.2 then some (i, e) else best)
    else best

theorem bestEntry_eq (s : State) (p : ChimeEntry → Bool) (before : ChimeEntry → ChimeEntry → Bool) :
    s.bestEntry p before = entryIds.foldl (better s p before) none := rfl

theorem better_some {s : State} {p : ChimeEntry → Bool} {before : ChimeEntry → ChimeEntry → Bool} {best : Option (Fin 8 × ChimeEntry)}
    {i : Fin 8} {b : Fin 8 × ChimeEntry} (h : better s p before best i = some b) : best = some b ∨ s.entry b.1 = some b.2 := by
  unfold better at h
  split at h
  case h_1 => exact .inl h
  case h_2 e used =>
    have here : some (i, e) = some b → s.entry b.1 = some b.2 := fun same => by cases same; exact used
    split at h
    · split at h
      · exact .inr (here h)
      · split at h
        · exact .inr (here h)
        · exact .inl h
    · exact .inl h

/-- What `bestEntry` finds is an entry in use. -/
theorem bestEntry_some {s : State} {p : ChimeEntry → Bool} {before : ChimeEntry → ChimeEntry → Bool} {i : Fin 8} {e : ChimeEntry}
    (h : s.bestEntry p before = some (i, e)) : s.entry i = some e := by
  have kept : ∀ (is : List (Fin 8)) (best : Option (Fin 8 × ChimeEntry)), (∀ b, best = some b → s.entry b.1 = some b.2) →
      ∀ b, is.foldl (better s p before) best = some b → s.entry b.1 = some b.2 := by
    intro is
    induction is with
    | nil => exact fun best hb => hb
    | cons j js ih => exact fun best hb => ih _ fun b found => (better_some found).elim (hb b) id
  rw [bestEntry_eq] at h
  exact kept entryIds none (fun b hb => nomatch hb) (i, e) h

theorem PlayedOut.chooseChime {s : State} {i : Fin 8} {tag : Byte} (h : PlayedOut s i tag) : PlayedOut s.chooseChime i tag := by
  unfold State.chooseChime
  split
  · exact h
  · split
    case h_1 j e best => exact h.putEntry (bestEntry_some best) _
    case h_2 => exact h

/-- With REV_EFF clear the park test after an end does nothing (R162). -/
theorem afterEnd_eq {s : State} (clear : s.recv.revEff = false) : s.afterEnd = s.chooseChime := by
  have same : s.chooseChime.recv.revEff = false := ((chooseChime_changes s).at .revEff).trans clear
  unfold State.afterEnd State.retryPark State.decidePark
  rw [same]
  simp

theorem PlayedOut.afterEnd {s : State} {i : Fin 8} {tag : Byte} (h : PlayedOut s i tag) (clear : s.recv.revEff = false) :
    PlayedOut s.afterEnd i tag := by
  rw [afterEnd_eq clear]
  exact h.chooseChime

theorem endEntry_revEff (s : State) (i : Fin 8) (reason : ChimeEnd) : (s.endEntry i reason).recv.revEff = s.recv.revEff :=
  (endEntry_changes s i reason).at .revEff

theorem PlayedOut.advanceVoice {s : State} {i : Fin 8} {tag : Byte} (h : PlayedOut s i tag) (clear : s.recv.revEff = false) :
    PlayedOut s.advanceVoice i tag := by
  unfold State.advanceVoice
  split
  case h_1 => exact h
  case h_2 j _ =>
    cases used : s.entry j with
    | none => exact h
    | some e =>
      dsimp only
      split
      · unfold State.endRepetition
        split
        · exact (h.endEntry _ _).afterEnd ((endEntry_revEff _ _ _).trans clear)
        · dsimp only
          split
          · exact (h.putEntry used _).chooseChime
          · exact h.putEntry used _
      · exact h.putEntry used _

/-! ## A sample that is damaged -/

/-- An entry that names a sample ends PLAYED (R160). -/
def endNamed (n : Fin 16) (s : State) (i : Fin 8) : State :=
  if s.entryIs (fun e => e.sound.names n) i then s.endEntry i .played else s

theorem endNamed_changes (n : Fin 16) (s : State) (i : Fin 8) : Changes chimePieces s (endNamed n s i) :=
  Changes.ite ((endEntry_changes s i .played).mono) (.refl _ _)

theorem damageSample_eq (s : State) (n : Fin 16) : s.damageSample n =
    let t := s.putSample n { s.sample n with state := .damaged, mark := 0 }
    if s.sampleNamed n then (entryIds.foldl (endNamed n) t).afterEnd.syncPlaying else t := rfl

theorem PlayedOut.endNamed {s : State} {i : Fin 8} {tag : Byte} (h : PlayedOut s i tag) (n : Fin 16) (j : Fin 8) :
    PlayedOut (endNamed n s j) i tag := by
  unfold Machine.endNamed
  split
  · exact h.endEntry _ _
  · exact h

/-- An entry that names the sample is played out by its own turn, and stands through the others'. -/
theorem endNamed_used {n : Fin 16} {s : State} {i : Fin 8} {e : ChimeEntry} (names : e.sound.names n = true)
    (used : s.entry i = some e) (j : Fin 8) :
    (j ≠ i ∧ (endNamed n s j).entry i = some e) ∨ PlayedOut (endNamed n s j) i e.tag := by
  by_cases here : j = i
  · subst here
    have named : s.entryIs (fun e => e.sound.names n) j = true := by
      unfold State.entryIs
      rw [used]
      exact names
    unfold endNamed
    rw [if_pos named]
    exact .inr (endEntry_playedOut used)
  · refine .inl ⟨here, ?_⟩
    unfold endNamed
    split
    · cases at_j : s.entry j with
      | none => rwa [endEntry_none at_j]
      | some f => rwa [(endEntry_some at_j _).1, if_neg here]
    · exact used

/-- Of the entries with numbers in a list, those that name a sample end PLAYED, one after another. -/
theorem endNamed_all {n : Fin 16} {i : Fin 8} {e : ChimeEntry} (names : e.sound.names n = true) :
    ∀ (is : List (Fin 8)) (s : State), i ∈ is → s.entry i = some e → PlayedOut (is.foldl (endNamed n) s) i e.tag := by
  intro is
  induction is with
  | nil => exact fun s hi => nomatch hi
  | cons j js ih =>
    intro s hi used
    rcases endNamed_used names used j with ⟨apart, still⟩ | out
    · exact ih _ ((List.mem_cons.1 hi).resolve_left fun same => apart same.symm) still
    · exact foldl_keeps (P := fun u => PlayedOut u i e.tag) (fun u k hu => hu.endNamed n k) js out

/-- The samples after one is damaged (R20). -/
theorem damageSample_sample (s : State) (n m : Fin 16) :
    (s.damageSample n).sample m = if n = m then { s.sample n with state := .damaged, mark := 0 } else s.sample m := by
  rw [← putSample_sample, damageSample_eq]
  generalize s.putSample n { s.sample n with state := .damaged, mark := 0 } = t
  dsimp only
  have ends : Changes chimePieces t ((entryIds.foldl (endNamed n) t).afterEnd.syncPlaying) :=
    ((Changes.foldl (endNamed_changes n) _ _).trans ((afterEnd_changes _).mono)).trans ((syncPlaying_changes _).mono)
  exact congrArg (·.sel m) ((Changes.ite (c := s.sampleNamed n = true) ends (.refl _ _)).at .samples)

/-- Every entry that names a damaged sample is played out, while REV_EFF is clear (R20, R160). -/
theorem damageSample_playedOut {s : State} {n : Fin 16} {i : Fin 8} {e : ChimeEntry} (used : s.entry i = some e)
    (names : e.sound.names n = true) (clear : s.recv.revEff = false) : PlayedOut (s.damageSample n) i e.tag := by
  have named : s.sampleNamed n = true := by
    unfold State.sampleNamed State.findEntry entryIds
    rw [List.find?_isSome]
    refine ⟨i, List.mem_finRange i, ?_⟩
    unfold State.entryIs
    rw [used]
    exact names
  rw [damageSample_eq]
  dsimp only
  rw [if_pos named]
  have out := endNamed_all names entryIds (s.putSample n { s.sample n with state := .damaged, mark := 0 }) (List.mem_finRange i) used
  have ends := Changes.foldl (endNamed_changes n) entryIds (s.putSample n { s.sample n with state := .damaged, mark := 0 })
  exact (out.afterEnd ((ends.at .revEff).trans clear)).keep (syncPlaying_changes _)

/-! ## The output sample period -/

/-- What an output sample period does after the consequences: the sample, the voice and PLAYING. -/
theorem samplePeriod_rest (s : State) : Changes (.consequences :: chimePieces) s (s.formSample.advanceVoice.syncPlaying) :=
  (((formSample_changes s).mono).trans ((advanceVoice_changes _).mono)).trans ((syncPlaying_changes _).mono)

/-- The consequences kept over an output sample period: CHIME's are due at the next one (R14, R158). -/
theorem samplePeriod_pending (s : State) : (s.formSample.advanceVoice.syncPlaying).fmm.pending =
    s.fmm.pending.map fun d => { d with played := d.played || decide (d.reader = .chime) } :=
  (((advanceVoice_changes s.formSample).mono (qs := chimePieces)).trans ((syncPlaying_changes _).mono)).at .consequences

theorem samplePeriod_playedOut {s : State} {i : Fin 8} {tag : Byte} (h : PlayedOut s i tag) (clear : s.recv.revEff = false) :
    PlayedOut (s.formSample.advanceVoice.syncPlaying) i tag :=
  ((h.keep (formSample_changes s)).advanceVoice (((formSample_changes s).at .revEff).trans clear)).keep (syncPlaying_changes _)

/-- A reader with one consequence due is handed that one. -/
theorem handDue_one {s : State} {r : Reader} {c : Consequence} (one : s.fmm.pending.filter (Consequence.dueAt · r) = [c]) :
    s.handDue r = State.handConsequence { s with fmm := { s.fmm with pending := s.fmm.pending.filter fun d => !d.dueAt r } } c := by
  unfold State.handDue
  rw [one]
  rfl

/-- A consequence of CHIME is due once an output sample has been formed with the zero (R158). -/
theorem dueAt_chime (c : Consequence) : c.dueAt .chime = (decide (c.reader = .chime) && c.played) := by
  simp [Consequence.dueAt]

theorem dueAt_scan (c : Consequence) (o : Output) : c.dueAt (.scan o) = decide (c.reader = .scan o) := by
  simp [Consequence.dueAt]

end Sys2Proof.Machine
end

section
/-! PROOFS. A consequence handed over at a refresh event (R14 to R20, R107). -/

namespace Sys2Proof.Machine

set_option Elab.async false

open Sys2Proof

/-! ## Sets of outputs -/

theorem has_put (x : OutputSet) (o p : Output) (b : Bool) : (x.put o b).has p = if p = o then b else x.has p := by
  cases o <;> cases p <;> rfl

theorem isEmpty_iff {x : OutputSet} : OutputSet.isEmpty x = true ↔ ∀ p, x.has p = false := by
  constructor
  · intro h p
    unfold OutputSet.isEmpty at h
    simp only [Bool.and_eq_true, Bool.not_eq_true'] at h
    obtain ⟨⟨centre, left⟩, right⟩ := h
    cases p
    · exact centre
    · exact left
    · exact right
  · intro h
    have centre : x.centre = false := h .centre
    have left : x.rearL = false := h .rearL
    have right : x.rearR = false := h .rearR
    simp [OutputSet.isEmpty, centre, left, right]

theorem has_outputsWhere (p : Output → Bool) (o : Output) : (outputsWhere p).has o = p o := by cases o <;> rfl

/-! ## The phases of a refresh event -/

/-- The computation's flip, the camera's slot and the new frame: what follows the layers in a refresh event. -/
def beginNext (u : State) (o : Output) : State := ((if u.flipsGuide o then u.flipGuide else u).refreshCamera o).beginFrame o

/-- What a refresh event does after its consequences have been handed over. -/
def finishRefresh (s : State) (o : Output) : State := beginNext (((s.releaseCapture o).releaseGuide o).refreshLayers o) o

theorem released_changes (s : State) (o : Output) : Changes [.capture, .guide] s ((s.releaseCapture o).releaseGuide o) :=
  ((releaseCapture_changes s o).mono).trans ((releaseGuide_changes _ o).mono)

theorem beginNext_changes (u : State) (o : Output) : Changes [.capture, .guide, .outRun] u (beginNext u o) := by
  have flipped := Changes.ite (c := u.flipsGuide o = true) (flipGuide_changes u) (.refl _ u)
  exact ((flipped.mono).trans ((refreshCamera_changes _ o).mono)).trans ((beginFrame_changes _ o).mono)

theorem finishRefresh_changes (s : State) (o : Output) : Changes [.outRun, .layers, .notices, .guide, .capture] s (finishRefresh s o) := by
  have released := (released_changes s o).mono (qs := [.outRun, .layers, .notices, .guide, .capture])
  unfold finishRefresh
  generalize (s.releaseCapture o).releaseGuide o = t at released ⊢
  have shown := released.trans ((refreshLayers_changes t o).mono)
  generalize t.refreshLayers o = u at shown ⊢
  exact shown.trans ((beginNext_changes u o).mono)

/-- The state in which an output's one consequence has been handed over: its frame has ended, and the consequence is due. -/
def handed (s : State) (o : Output) (c : Consequence) : State :=
  State.handConsequence
    { s.endFrame o with fmm := { s.fmm with pending := s.fmm.pending.filter (fun d => !decide (d.reader = .scan o)) } } c

theorem endFrame_out (s : State) (o q : Output) : ((s.endFrame o).out q).owner = (s.out q).owner ∧
    ((s.endFrame o).out q).source = (s.out q).source :=
  ⟨((endFrame_changes s o).at .owners (by decide) q).2.1, ((endFrame_changes s o).at .outSettings (by decide) q).2.2.1⟩

/-- An output that leads no stream hands over and paces nothing (R64). -/
theorem ledBy_none {s : State} {o : Output} (free : ∀ i, s.lead i ≠ some o) : (s.endFrame o).ledBy o = none := by
  have lead : ∀ i, (s.endFrame o).lead i = s.lead i := by
    intro i
    unfold State.lead
    simp only [endFrame_out]
  unfold State.ledBy
  split
  · rw [if_neg (by rw [lead]; exact free _)]
  · rfl

theorem refresh_eq {s : State} {o : Output} {c : Consequence} (on : (s.out o).owner ≠ .off) (free : ∀ i, s.lead i ≠ some o)
    (one : s.fmm.pending.filter (fun d => decide (d.reader = .scan o)) = [c]) :
    s.refresh o = finishRefresh (handed s o c) o := by
  have due : (s.endFrame o).handDue (.scan o) = handed s o c := by
    have waiting : (s.endFrame o).fmm = s.fmm := rfl
    rw [handDue_one (s := s.endFrame o) (c := c)]
    · simp only [dueAt_scan, waiting]
      rfl
    · simpa only [dueAt_scan, waiting] using one
  unfold State.refresh State.handAndPace
  rw [if_neg on, ledBy_none free, due]
  rfl

/-- Handing a consequence over leaves those still held. -/
theorem handConsequence_pending (s : State) (c : Consequence) : (s.handConsequence c).fmm.pending = s.fmm.pending := by
  unfold State.handConsequence
  split
  · exact (dropSlot_changes _ _ _ _).at .consequences
  · exact (damageLayer_changes _ _ _).at .consequences
  · exact (discardCapture_changes _ _).at .consequences
  · exact (requestRecompute_changes _).at .consequences
  · exact (damageSample_changes _ _).at .consequences

/-! ## Notices only grow -/

theorem noticeKeys_of_same {s t : State} (h : t.link.notices = s.link.notices) : t.noticeKeys = s.noticeKeys :=
  congrArg (List.map fun e : NoticeEntry => Report.key e.report) h

theorem flip_noticeKeys {s : State} {k : Nat × Nat} (n : Fin 24) (h : k ∈ s.noticeKeys) : k ∈ (s.flip n).noticeKeys := by
  unfold State.flip
  dsimp only
  have first : ∀ (t : State) (b : Prop) [Decidable b] (r : Report), k ∈ t.noticeKeys → k ∈ (if b then t.report r else t).noticeKeys := by
    intro t b _ r h
    split
    · exact mem_noticeKeys_report.2 (.inl h)
    · exact h
  exact first _ _ _ (first _ _ _ h)

theorem flipWhere_noticeKeys {s : State} {k : Nat × Nat} (p : State → Fin 24 → Bool) (h : k ∈ s.noticeKeys) :
    k ∈ (s.flipWhere p).noticeKeys := by
  refine foldl_keeps (P := fun t : State => k ∈ t.noticeKeys) (fun t n ht => ?_) _ h
  split
  · exact flip_noticeKeys n ht
  · exact ht

theorem finishRefresh_noticeKeys {s : State} {k : Nat × Nat} (o : Output) (h : k ∈ s.noticeKeys) :
    k ∈ (finishRefresh s o).noticeKeys := by
  have released := noticeKeys_of_same ((released_changes s o).at .notices)
  unfold finishRefresh
  generalize (s.releaseCapture o).releaseGuide o = t at released ⊢
  have shown : k ∈ (t.refreshLayers o).noticeKeys := by
    unfold State.refreshLayers State.settleFlips
    dsimp only
    refine flipWhere_noticeKeys _ (flipWhere_noticeKeys _ ?_)
    show k ∈ t.noticeKeys
    rwa [released]
  generalize t.refreshLayers o = u at shown ⊢
  rwa [noticeKeys_of_same ((beginNext_changes u o).at .notices)]

/-! ## A stream slot (R16) -/

theorem releaseScan_stream (s : State) (o : Output) (i : StreamId) :
    (s.releaseScan o).stream i = { s.stream i with ring := (s.stream i).ring.map (Slot.release o) } := by
  unfold State.releaseScan
  cases i <;> simp [putStream_stream]

theorem endFrame_stream (s : State) (o : Output) (i : StreamId) :
    (s.endFrame o).stream i = { s.stream i with ring := (s.stream i).ring.map (Slot.release o) } := releaseScan_stream _ o i

/-- A released ring shows what it showed. -/
theorem release_showing {r : Stream} {o : Output} {k v q : Nat} :
    (r.ring.map (Slot.release o))[k]? = some (.showing v q) ↔ r.ring[k]? = some (.showing v q) := by
  rw [List.getElem?_map]
  cases at_k : r.ring[k]? with
  | none => simp
  | some x => cases x <;> simp [Slot.release]

/-- The outputs that scan a slot once the frame under way on one of them has ended. -/
theorem endFrame_scanning (s : State) (o : Output) (i : StreamId) (k : Nat) (p : Output) :
    ((s.endFrame o).scanning i k).has p = (decide (p ≠ o) && (s.scanning i k).has p) := by
  have frames : ((s.endFrame o).out p).frame = if o = p then none else (s.out p).frame := by
    have released : ((s.endFrame o).out p).frame = ((s.putOut o { s.out o with
        frame := none
        activeTiming := if (s.out o).owner = .normal then (s.out o).hostTiming else (s.out o).activeTiming }).out p).frame :=
      ((releaseScan_changes _ o).at .outRun (by decide) p).2.2.1
    rw [released, putOut_out]
    split <;> rfl
  unfold State.scanning
  rw [has_outputsWhere, has_outputsWhere, frames]
  by_cases here : p = o
  · subst here
    simp
  · rw [if_neg (Ne.symm here)]
    simp [here]

/-- A consequence for a slot that still shows the frame that was read drops it; another one changes no stream (R16). -/
theorem dropSlot_stream (s : State) (i : StreamId) (k : Nat) (stamp : Option Nat) :
    (∀ v q, stamp = some v → (s.stream i).ring[k]? = some (.showing v q) → (s.dropSlot i k stamp).stream i =
      { s.stream i with
        ring := (s.stream i).ring.set k (.empty (s.scanning i k))
        counters := { (s.stream i).counters with lateDrop := satInc (s.stream i).counters.lateDrop } }) ∧
    ((∀ v q, stamp = some v → (s.stream i).ring[k]? ≠ some (.showing v q)) → (s.dropSlot i k stamp).stream i = s.stream i) := by
  unfold State.dropSlot showingStamp
  dsimp only
  rw [report_stream]
  constructor
  · intro v q same showing
    subst same
    rw [showing, if_pos (by simp), putStream_stream_same]
  · intro other
    rw [if_neg]
    intro h
    obtain ⟨some_stamp, same⟩ := Bool.and_eq_true_iff.1 h
    obtain ⟨v, rfl⟩ := Option.isSome_iff_exists.1 some_stamp
    rw [decide_eq_true_eq] at same
    split at same
    case h_1 w q showing =>
      cases same
      exact other _ q rfl showing
    case h_2 => exact nomatch same

theorem dropSlot_noticeKeys (s : State) (i : StreamId) (k : Nat) (stamp : Option Nat) :
    (6, (streamNo i).1) ∈ (s.dropSlot i k stamp).noticeKeys := by
  unfold State.dropSlot
  exact mem_noticeKeys_report.2 (.inr rfl)

/-! ## A layer (R17) -/

/-- With no flip pending, no flip is performed. -/
theorem flipWhere_quiet {s : State} (quiet : ∀ m, (s.layer m).flipPending = false) (p : State → Fin 24 → Bool) : s.flipWhere p = s := by
  have still : ∀ ns : List (Fin 24), ns.foldl (fun t n => if (t.layer n).flipPending && p t n then t.flip n else t) s = s := by
    intro ns
    induction ns with
    | nil => rfl
    | cons n ns ih => rw [List.foldl_cons, quiet n]; exact ih
  exact still _

/-- A layer whose plane at a page of its run is damaged (R17, R87). -/
def damagedAt (l : Layer) (index : Nat) : Layer :=
  let plane : Fin 2 := if index / l.pagesOfPlane = 0 then 0 else 1
  { l with
    damaged := l.damaged.put plane true
    mark := 0
    state := if plane = l.front ∧ l.state = .ready then .damaged else l.state }

theorem damageLayer_eq {s : State} (quiet : ∀ m, (s.layer m).flipPending = false) (n : Fin 24) (index : Nat) :
    s.damageLayer n index = State.report (s.putLayer n (damagedAt (s.layer n) index)) (damagedEvent n) := by
  unfold State.damageLayer State.settleFlips damagedAt
  dsimp only
  rw [flipWhere_quiet]
  intro m
  rw [report_layer, putLayer_layer]
  split
  · exact quiet n
  · exact quiet m

theorem pagesOfPlane_eq (l : Layer) :
    l.pagesOfPlane = (l.width * l.height * (if l.format = .argb8888 then 4 else 2) + 65535) / 65536 := by
  unfold Layer.pagesOfPlane planePages
  rw [ceilDiv_page]
  cases l.format <;> rfl

/-- With no flip pending, the rest of a refresh event leaves the layers. -/
theorem finishRefresh_layers {s : State} (quiet : ∀ m, (s.layer m).flipPending = false) (o : Output) (m : Fin 24) :
    (finishRefresh s o).layer m = s.layer m := by
  have before : ∀ m, ((s.releaseCapture o).releaseGuide o).layer m = s.layer m := fun m =>
    congrArg (·.sel m) ((released_changes s o).at .layers)
  unfold finishRefresh
  generalize (s.releaseCapture o).releaseGuide o = t at before ⊢
  have shown : t.refreshLayers o = t.putOut o { t.out o with shownCard := t.cardOf o } := by
    have still : ∀ m, ((t.putOut o { t.out o with shownCard := t.cardOf o }).layer m).flipPending = false := fun m => by
      rw [putOut_layer, before, quiet]
    unfold State.refreshLayers State.settleFlips
    dsimp only
    rw [flipWhere_quiet still, flipWhere_quiet still]
  rw [shown, ← before m]
  exact congrArg (·.sel m) ((beginNext_changes _ o).at .layers)

/-! ## A capture slot (R131) -/

theorem releaseCapture_cam (s : State) (o : Output) (j : Fin 3) :
    ((s.releaseCapture o).cam.slots.sel j).state = (s.cam.slots.sel j).state ∧ (s.releaseCapture o).cam.order = s.cam.order := by
  refine ⟨?_, rfl⟩
  unfold State.releaseCapture
  simp only [Table.sel_upd]
  split <;> split <;> split <;> rfl

theorem takeCapture_cam (s : State) (o : Output) (j : Fin 3) :
    ((s.takeCapture o).cam.slots.sel j).state = (s.cam.slots.sel j).state ∧ (s.takeCapture o).cam.order = s.cam.order := by
  unfold State.takeCapture
  dsimp only
  split
  · refine ⟨?_, rfl⟩
    dsimp only
    rw [Table.sel_upd]
    split
    · subst_vars; rfl
    · rfl
  · exact ⟨rfl, rfl⟩

/-- What follows the layers in a refresh event changes holds on capture slots, not their states nor their order. -/
theorem beginNext_cam (u : State) (o : Output) (j : Fin 3) :
    ((beginNext u o).cam.slots.sel j).state = (u.cam.slots.sel j).state ∧ (beginNext u o).cam.order = u.cam.order := by
  have flipped := Changes.ite (c := u.flipsGuide o = true) (flipGuide_changes u) (.refl _ u)
  unfold beginNext
  generalize (if u.flipsGuide o = true then u.flipGuide else u) = v at flipped ⊢
  have taken : ((v.refreshCamera o).cam.slots.sel j).state = (v.cam.slots.sel j).state ∧ (v.refreshCamera o).cam.order = v.cam.order := by
    unfold State.refreshCamera
    split
    · exact takeCapture_cam v o j
    · exact ⟨rfl, rfl⟩
  generalize v.refreshCamera o = w at taken ⊢
  obtain ⟨slots, order, -⟩ := flipped.at .capture
  obtain ⟨slots', order', -⟩ := (beginFrame_changes w o).at .capture
  rw [slots', order', taken.1, taken.2, slots, order]
  exact ⟨rfl, rfl⟩

/-- The rest of a refresh event changes holds on capture slots, not their states nor their order. -/
theorem finishRefresh_cam (s : State) (o : Output) (j : Fin 3) :
    ((finishRefresh s o).cam.slots.sel j).state = (s.cam.slots.sel j).state ∧ (finishRefresh s o).cam.order = s.cam.order := by
  obtain ⟨state, order⟩ := releaseCapture_cam s o j
  have released := releaseGuide_changes (s.releaseCapture o) o
  unfold finishRefresh
  generalize (s.releaseCapture o).releaseGuide o = t at released ⊢
  have shown := ((released.mono (qs := [.guide, .outRun, .layers, .notices])).trans ((refreshLayers_changes t o).mono)).at .capture
  generalize t.refreshLayers o = u at shown ⊢
  obtain ⟨slots, kept, -⟩ := shown
  obtain ⟨state', order'⟩ := beginNext_cam u o j
  rw [state', order', slots, kept, state, order]
  exact ⟨rfl, rfl⟩

theorem discardCapture_cam (s : State) (k : Fin 3) :
    (∀ j, ((s.discardCapture k).cam.slots.sel j).state =
      if k = j ∧ (s.cam.slots.sel k).state = .complete then .empty else (s.cam.slots.sel j).state) ∧
    (s.discardCapture k).cam.order =
      if (s.cam.slots.sel k).state = .complete then s.cam.order.filter (fun j => !decide (j = k)) else s.cam.order := by
  unfold State.discardCapture
  dsimp only
  split
  case isTrue complete =>
    refine ⟨fun j => ?_, rfl⟩
    dsimp only
    rw [Table.sel_put]
    by_cases here : k = j
    · rw [if_pos here, if_pos ⟨here, complete⟩]
    · rw [if_neg here, if_neg fun h => here h.1]
  case isFalse other => exact ⟨fun j => by rw [if_neg fun h => other h.2], rfl⟩

/-! ## A guide plane (R145 to R147) -/

theorem back_eq (g : Guide) : g.back = 1 - g.front := by
  unfold Guide.back otherPlane
  revert g
  intro g
  generalize g.front = p
  revert p
  decide

/-- An output's holds on the overlay planes after they clear (R144). -/
def clearedHolds (g : Guide) (o : Output) : Guide :=
  { g with holds := (g.holds.upd 0 fun h => h.put o false).upd 1 fun h => h.put o false }

theorem clearedHolds_back (g : Guide) (o p : Output) :
    (((clearedHolds g o).holds.sel (clearedHolds g o).back).has p = true) ↔ p ≠ o ∧ (g.holds.sel (1 - g.front)).has p = true := by
  have cleared : ∀ q : Fin 2, (clearedHolds g o).holds.sel q = (g.holds.sel q).put o false := by
    intro q
    unfold clearedHolds
    dsimp only
    match q with
    | 0 => rw [Table.sel_upd, Table.sel_upd, if_neg (by decide), if_pos rfl]
    | 1 => rw [Table.sel_upd, if_pos rfl, Table.sel_upd, if_neg (by decide)]
  rw [back_eq, cleared, has_put]
  show (if p = o then false else (g.holds.sel (1 - g.front)).has p) = true ↔ _
  by_cases here : p = o <;> simp [here]

/-- An output that lets go of the overlay planes lets a waiting computation draw when no other output holds the back plane. -/
theorem releaseGuide_eq (s : State) (o : Output) : s.releaseGuide o =
    if s.guide.comp = .waiting ∧ OutputSet.isEmpty ((clearedHolds s.guide o).holds.sel (clearedHolds s.guide o).back) = true then
      State.beginDrawing { s with guide := clearedHolds s.guide o }
    else { s with guide := clearedHolds s.guide o } := rfl

theorem flipsGuide_congr {s t : State} {o : Output} (comp : t.guide.comp = s.guide.comp) (owner : (t.out o).owner = (s.out o).owner) :
    t.flipsGuide o = s.flipsGuide o := by
  unfold State.flipsGuide OutputRec.inView
  rw [comp, owner]

/-- Where no flip is performed, what follows the layers in a refresh event leaves the computation. -/
theorem beginNext_comp {u : State} {o : Output} (still : u.flipsGuide o = false) :
    (beginNext u o).guide.comp = u.guide.comp ∧ (beginNext u o).guide.recompute = u.guide.recompute := by
  have begun : ∀ v : State, (v.beginFrame o).guide.comp = v.guide.comp ∧ (v.beginFrame o).guide.recompute = v.guide.recompute := by
    intro v
    unfold State.beginFrame
    dsimp only
    split <;> exact ⟨rfl, rfl⟩
  unfold beginNext
  rw [if_neg (by simp [still])]
  obtain ⟨comp, recompute, -⟩ := (refreshCamera_changes u o).at .guide
  obtain ⟨comp', recompute'⟩ := begun (u.refreshCamera o)
  exact ⟨comp'.trans comp, recompute'.trans recompute⟩

/-- Letting go of the capture slots bears on nothing that letting go of the overlay planes looks at. -/
theorem releaseGuide_releaseCapture (s : State) (o : Output) :
    ((s.releaseCapture o).releaseGuide o).guide = (s.releaseGuide o).guide := by
  have same : (s.releaseCapture o).guide = s.guide := rfl
  rw [releaseGuide_eq, releaseGuide_eq, same]
  by_cases last : s.guide.comp = .waiting ∧
      OutputSet.isEmpty ((clearedHolds s.guide o).holds.sel (clearedHolds s.guide o).back) = true
  · rw [if_pos last, if_pos last]
    rfl
  · rw [if_neg last, if_neg last]

/-- Where no flip is performed, a refresh event does no more to the computation than letting go of the planes. -/
theorem finishRefresh_comp {s : State} {o : Output} (still : (s.releaseGuide o).flipsGuide o = false) :
    (finishRefresh s o).guide.comp = (s.releaseGuide o).guide.comp ∧
      (finishRefresh s o).guide.recompute = (s.releaseGuide o).guide.recompute := by
  have guide := releaseGuide_releaseCapture s o
  have owner : (((s.releaseCapture o).releaseGuide o).out o).owner = ((s.releaseGuide o).out o).owner :=
    ((released_changes s o).at .owners (by decide) o).2.1.trans ((releaseGuide_changes s o).at .owners (by decide) o).2.1.symm
  unfold finishRefresh
  generalize (s.releaseCapture o).releaseGuide o = t at guide owner ⊢
  have shown := refreshLayers_changes t o
  generalize t.refreshLayers o = u at shown ⊢
  obtain ⟨comp, recompute, -⟩ := shown.at .guide
  rw [guide] at comp recompute
  have quiet : u.flipsGuide o = false := by
    rw [flipsGuide_congr comp ((shown.at .owners (by decide) o).2.1.trans owner)]
    exact still
  obtain ⟨comp', recompute'⟩ := beginNext_comp quiet
  exact ⟨comp'.trans comp, recompute'.trans recompute⟩

end Sys2Proof.Machine
end

section
/-! PROOFS. Uncorrectable errors: what is recorded, held and handed over (R13 to R22). -/

namespace Sys2Proof.Machine

set_option Elab.async false

open Sys2Proof

/-! ## The error is recorded and held -/

/-- What a reader's finding of an uncorrectable error gives for the unit of its page. -/
theorem findError_holds {s : State} {word : Nat} {u : MemUnit} {stamp : Option Nat} (h : UnitOf s (word / 8192) u stamp) (r : Reader) :
    (s.findError r word).fmm.pending = if s.fmm.pending.any (fun c => decide (c.unit = u)) then s.fmm.pending
      else s.fmm.pending ++ [⟨u, r, s.fmm.indexOf (word / 8192), stamp, false⟩] := by
  rw [findError_pending, consequenceOf_unit h]

/-- The self-test in flight remembers an error in its set (R190). -/
theorem findError_remembered {s : State} {x : SelfTest} {word : Nat} (flying : s.selfTest = some x) (inSet : word / 8192 ∈ x.pages) :
    (s.findError .selfTest word).free = s.free + 1 ∧ (s.findError .selfTest word).selfTest = some { x with
      errorFound := true
      late := if Config.foundInLastReadBack s.free then insertNew word x.late else x.late } := by
  obtain ⟨test, free⟩ := findError_selfTest s .selfTest word
  rw [test, free, if_pos rfl]
  unfold State.selfTestFinds
  rw [flying]
  dsimp only
  rw [if_pos (show word / Config.pageWords ∈ x.pages from inSet)]
  exact ⟨rfl, rfl⟩

/-- An error that is not one of SELF_TEST in its set is nothing to the self-test (R190). -/
theorem findError_unremembered {s : State} {r : Reader} {word : Nat}
    (outside : ∀ x, s.selfTest = some x → r = .selfTest → word / 8192 ∉ x.pages) :
    (s.findError r word).selfTest = s.selfTest ∧ (s.findError r word).free = s.free := by
  obtain ⟨test, free⟩ := findError_selfTest s r word
  rw [test, free]
  split
  case isTrue own =>
    unfold State.selfTestFinds
    cases flying : s.selfTest with
    | none => exact ⟨flying, rfl⟩
    | some x =>
      dsimp only
      rw [if_neg (show word / Config.pageWords ∉ x.pages from outside x flying own)]
      exact ⟨flying, rfl⟩
  case isFalse => exact ⟨rfl, rfl⟩

/-! ## One consequence handed over at a refresh event -/

/-- The state with the consequences due taken out, before the one is handed over. -/
def awaiting (s : State) (o : Output) : State :=
  { s.endFrame o with fmm := { s.fmm with pending := s.fmm.pending.filter (fun d => !decide (d.reader = .scan o)) } }

theorem handed_eq (s : State) (o : Output) (c : Consequence) : handed s o c = (awaiting s o).handConsequence c := rfl

theorem awaiting_layer (s : State) (o : Output) (n : Fin 24) : (awaiting s o).layer n = s.layer n := rfl

theorem awaiting_cam (s : State) (o : Output) : (awaiting s o).cam = s.cam := rfl

theorem awaiting_guide (s : State) (o : Output) : (awaiting s o).guide = s.guide := rfl

theorem handed_pending (s : State) (o : Output) (c : Consequence) :
    (finishRefresh (handed s o c) o).fmm.pending = s.fmm.pending.filter (fun d => !decide (d.reader = .scan o)) := by
  have rest : (finishRefresh (handed s o c) o).fmm.pending = (handed s o c).fmm.pending :=
    (finishRefresh_changes (handed s o c) o).at .consequences
  rw [rest, handed_eq, handConsequence_pending]
  rfl

/-- A stream slot's consequence (R16). -/
theorem handed_slot (s : State) (o : Output) {c : Consequence} {i : StreamId} {k : Nat} (unit : c.unit = .streamSlot i k) :
    (6, (streamNo i).1) ∈ (finishRefresh (handed s o c) o).noticeKeys ∧
    (finishRefresh (handed s o c) o).stream i = ((s.endFrame o).dropSlot i k c.stamp).stream i := by
  have dropped : handed s o c = (awaiting s o).dropSlot i k c.stamp := by
    rw [handed_eq]
    unfold State.handConsequence
    rw [unit]
  have rest : (finishRefresh (handed s o c) o).stream i = (handed s o c).stream i :=
    congrArg (·.sel (streamNo i)) ((finishRefresh_changes (handed s o c) o).at .rings)
  constructor
  · apply finishRefresh_noticeKeys
    rw [dropped]
    exact dropSlot_noticeKeys _ _ _ _
  · rw [rest, dropped]
    unfold State.dropSlot
    dsimp only
    rw [report_stream, report_stream]
    have same : (awaiting s o).stream i = (s.endFrame o).stream i := rfl
    rw [same]
    split
    · rw [putStream_stream_same, putStream_stream_same]
      rfl
    · rfl

/-- A layer's consequence, with no flip pending (R17, R87). -/
theorem handed_layer {s : State} (o : Output) {c : Consequence} {n : Fin 24} (unit : c.unit = .layer n)
    (quiet : ∀ m, (s.layer m).flipPending = false) :
    (∀ m, (finishRefresh (handed s o c) o).layer m = if n = m then damagedAt (s.layer n) c.pageIndex else s.layer m) ∧
    (7, 0) ∈ (finishRefresh (handed s o c) o).noticeKeys := by
  have damaged : handed s o c =
      State.report ((awaiting s o).putLayer n (damagedAt (s.layer n) c.pageIndex)) (damagedEvent n) := by
    rw [handed_eq, ← awaiting_layer s o n, ← damageLayer_eq (s := awaiting s o) quiet]
    unfold State.handConsequence
    rw [unit]
  have layers : ∀ m, (handed s o c).layer m = if n = m then damagedAt (s.layer n) c.pageIndex else s.layer m := fun m => by
    rw [damaged, report_layer, putLayer_layer, awaiting_layer]
  constructor
  · intro m
    rw [finishRefresh_layers, layers m]
    intro m
    rw [layers m]
    split
    · exact quiet n
    · exact quiet m
  · apply finishRefresh_noticeKeys
    rw [damaged]
    exact mem_noticeKeys_report.2 (.inr rfl)

/-- A capture slot's consequence (R131). -/
theorem handed_capture (s : State) (o : Output) {c : Consequence} {k : Fin 3} (unit : c.unit = .capture k) :
    (∀ j, ((finishRefresh (handed s o c) o).cam.slots.sel j).state =
      if k = j ∧ (s.cam.slots.sel k).state = .complete then .empty else (s.cam.slots.sel j).state) ∧
    (finishRefresh (handed s o c) o).cam.order =
      if (s.cam.slots.sel k).state = .complete then s.cam.order.filter (fun j => !decide (j = k)) else s.cam.order := by
  have discarded : handed s o c = (awaiting s o).discardCapture k := by
    rw [handed_eq]
    unfold State.handConsequence
    rw [unit]
  obtain ⟨slots, order⟩ := discardCapture_cam (awaiting s o) k
  rw [awaiting_cam] at slots order
  refine ⟨fun j => ?_, ?_⟩
  · rw [(finishRefresh_cam _ o j).1, discarded, slots]
  · rw [(finishRefresh_cam _ o k).2, discarded, order]

/-! ### An overlay plane's consequence (R145) -/

/-- The computation of an active Generator that is asked to compute again (R145, R146). -/
theorem requestRecompute_comp {s : State} (active : s.guide.active = true) :
    (s.guide.comp = .idle → OutputSet.isEmpty (s.guide.holds.sel (1 - s.guide.front)) = true →
      ∃ d, s.requestRecompute.guide.comp = .drawing d) ∧
    (s.guide.comp = .idle → OutputSet.isEmpty (s.guide.holds.sel (1 - s.guide.front)) = false →
      s.requestRecompute.guide = { s.guide with comp := .waiting }) ∧
    (∀ d, s.guide.comp = .drawing d → s.requestRecompute.guide = { s.guide with recompute := true }) ∧
    (∀ d b, s.guide.comp = .flipPending d b → s.requestRecompute.guide = { s.guide with recompute := true }) := by
  unfold State.requestRecompute State.beginComputation
  rw [if_pos active, back_eq]
  refine ⟨fun idle free => ?_, fun idle held => ?_, fun d drawing => ?_, fun d b waiting => ?_⟩
  · rw [idle]
    dsimp only
    rw [if_pos free]
    exact ⟨_, rfl⟩
  · rw [idle]
    dsimp only
    rw [if_neg (by simp [held])]
  · rw [drawing]
  · rw [waiting]

/-- Letting go of the overlay planes leaves a computation that does not wait. -/
theorem releaseGuide_settled {s : State} (o : Output) (settled : s.guide.comp ≠ .waiting) :
    (s.releaseGuide o).guide.comp = s.guide.comp ∧ (s.releaseGuide o).guide.recompute = s.guide.recompute := by
  rw [releaseGuide_eq, if_neg fun h => settled h.1]
  exact ⟨rfl, rfl⟩

/-- A computation that waits begins to draw as an output lets go, unless another one holds the back plane (R146). -/
theorem releaseGuide_waiting {s : State} {o : Output} (waiting : s.guide.comp = .waiting) :
    ((∃ q, q ≠ o ∧ (s.guide.holds.sel (1 - s.guide.front)).has q = true) → (s.releaseGuide o).guide.comp = .waiting) ∧
    (¬ (∃ q, q ≠ o ∧ (s.guide.holds.sel (1 - s.guide.front)).has q = true) → ∃ d, (s.releaseGuide o).guide.comp = .drawing d) := by
  have back := clearedHolds_back s.guide o
  rw [releaseGuide_eq]
  constructor
  · rintro ⟨q, held⟩
    rw [if_neg fun h => by simpa [isEmpty_iff.1 h.2 q] using (back q).2 held]
    exact waiting
  · intro free
    have empty : OutputSet.isEmpty ((clearedHolds s.guide o).holds.sel (clearedHolds s.guide o).back) = true :=
      isEmpty_iff.2 fun q => Bool.eq_false_iff.2 fun held => free ⟨q, (back q).1 held⟩
    rw [if_pos ⟨waiting, empty⟩]
    exact ⟨_, rfl⟩

/-- A computation that is not to be flipped is not flipped. -/
theorem flipsGuide_false {s : State} {o : Output} (h : ∀ d b, s.guide.comp ≠ .flipPending d b) : s.flipsGuide o = false := by
  unfold State.flipsGuide
  split
  case h_1 d b flips => exact absurd flips (h d b)
  case h_2 => rfl

/-- The owner of an output through the hand-over and the planes let go. -/
theorem releaseGuide_owner (s : State) (o : Output) (c : Consequence) :
    (((handed s o c).releaseGuide o).out o).owner = (s.out o).owner := by
  have released := ((releaseGuide_changes (handed s o c) o).at .owners (by decide) o).2.1
  have given := ((handConsequence_changes (awaiting s o) c).at .owners (by decide) o).2.1
  exact released.trans (given.trans (endFrame_out s o o).1)

/-- An overlay plane's consequence, at an active Generator (R145 to R147). -/
theorem handed_guidePlane {s : State} {o : Output} {c : Consequence} {p : Fin 2} (unit : c.unit = .guidePlane p)
    (active : s.guide.active = true) :
    (s.guide.comp = .idle → (∃ q, q ≠ o ∧ (s.guide.holds.sel (1 - s.guide.front)).has q = true) →
      (finishRefresh (handed s o c) o).guide.comp = .waiting) ∧
    (s.guide.comp = .idle → ¬ (∃ q, q ≠ o ∧ (s.guide.holds.sel (1 - s.guide.front)).has q = true) →
      ∃ d, (finishRefresh (handed s o c) o).guide.comp = .drawing d) ∧
    (∀ d, s.guide.comp = .drawing d → (finishRefresh (handed s o c) o).guide.comp = .drawing d ∧
      (finishRefresh (handed s o c) o).guide.recompute = true) ∧
    (∀ d b, s.guide.comp = .flipPending d b → (b = false ∧ o ≠ .centre) ∨ (b = true ∧ (s.out o).owner = .normal) →
      (finishRefresh (handed s o c) o).guide.comp = .flipPending d b ∧
        (finishRefresh (handed s o c) o).guide.recompute = true) := by
  have owner := releaseGuide_owner s o c
  have asked : (handed s o c).guide = (awaiting s o).requestRecompute.guide := by
    rw [handed_eq]
    unfold State.handConsequence
    rw [unit]
  obtain ⟨draws, waits, again, later⟩ := requestRecompute_comp (s := awaiting s o) active
  rw [← asked, awaiting_guide] at draws waits again later
  generalize handed s o c = t at owner draws waits again later ⊢
  refine ⟨fun idle held => ?_, fun idle free => ?_, fun d drawing => ?_, fun d b pending other => ?_⟩
  · have full : OutputSet.isEmpty (s.guide.holds.sel (1 - s.guide.front)) = false := by
      obtain ⟨q, -, has⟩ := held
      exact Bool.eq_false_iff.2 fun empty => by simp [isEmpty_iff.1 empty q] at has
    have waiting := waits idle full
    have stays := (releaseGuide_waiting (o := o) (congrArg Guide.comp waiting)).1 (by rw [waiting]; exact held)
    rw [(finishRefresh_comp (flipsGuide_false fun d b => by rw [stays]; exact fun h => nomatch h)).1, stays]
  · have drawn : ∃ d, (t.releaseGuide o).guide.comp = .drawing d := by
      cases full : OutputSet.isEmpty (s.guide.holds.sel (1 - s.guide.front)) with
      | true =>
        obtain ⟨d, drawing⟩ := draws idle full
        exact ⟨d, by rw [(releaseGuide_settled o (by rw [drawing]; exact fun h => nomatch h)).1, drawing]⟩
      | false =>
        have waiting := waits idle full
        exact (releaseGuide_waiting (o := o) (congrArg Guide.comp waiting)).2 (by rw [waiting]; exact free)
    obtain ⟨d, drawing⟩ := drawn
    exact ⟨d, by rw [(finishRefresh_comp (flipsGuide_false fun d b => by rw [drawing]; exact fun h => nomatch h)).1, drawing]⟩
  · have noted := again d drawing
    have comp : t.guide.comp = .drawing d := by rw [noted]; exact drawing
    obtain ⟨comp', recompute'⟩ := releaseGuide_settled o (by rw [comp]; exact fun h => nomatch h)
    obtain ⟨comp'', recompute''⟩ := finishRefresh_comp (flipsGuide_false (s := t.releaseGuide o) (o := o) fun d b => by
      rw [comp', comp]; exact fun h => nomatch h)
    rw [comp'', recompute'', comp', recompute', comp, noted]
    exact ⟨rfl, rfl⟩
  · have noted := later d b pending
    have comp : t.guide.comp = .flipPending d b := by rw [noted]; exact pending
    obtain ⟨comp', recompute'⟩ := releaseGuide_settled o (by rw [comp]; exact fun h => nomatch h)
    have still : (t.releaseGuide o).flipsGuide o = false := by
      unfold State.flipsGuide OutputRec.inView
      rw [comp', comp, owner]
      rcases other with ⟨rfl, apart⟩ | ⟨rfl, normal⟩
      · simpa using apart
      · simp [normal]
    obtain ⟨comp'', recompute''⟩ := finishRefresh_comp still
    rw [comp'', recompute'', comp', recompute', comp, noted]
    exact ⟨rfl, rfl⟩

/-! ## The obligation -/

/-- Settles O17: what finding an error records and holds, and what the next event of its reader does with the one consequence. -/
theorem uncorrectableErrorIsRecordedAndHeld : Obligations.UncorrectableErrorIsRecordedAndHeld := by
  refine ⟨fun s r word => ⟨_, rfl, findError_changes s r word.toNat, ?_⟩, fun s o c on free one => ?_, fun s quiet => ?_,
    fun s c n unit one => ?_⟩
  · obtain ⟨record, corrected, notices⟩ := findError_record s r word.toNat
    refine ⟨fun a => ?_, ?_, fun clear => ?_, fun latched => ?_, fun nobody => ?_, fun u stamp h => ?_, fun x flying own inSet => ?_,
      findError_unremembered⟩
    · rw [findError_mem, markBad_read]
    · exact corrected.trans (offerError_corrected _ _ _ r)
    · obtain ⟨latches, noted⟩ := offerError_clear (s := { s with mem := s.mem.markBad word.toNat }) clear (word.toNat / 8192)
        (s.fmm.ownerOf (word.toNat / 8192)) r
      exact ⟨record.trans latches, notices.trans noted⟩
    · obtain ⟨more, silent⟩ := offerError_latched (s := { s with mem := s.mem.markBad word.toNat }) latched (word.toNat / 8192)
        (s.fmm.ownerOf (word.toNat / 8192)) r
      exact ⟨record.trans more, notices.trans silent⟩
    · rw [findError_pending, consequenceOf_free nobody]
    · refine findError_holds ?_ r
      rcases h with reserve | ⟨x, owner, slot, shown⟩
      · exact .inl reserve
      · refine .inr ⟨x, owner, ?_, ?_⟩ <;> rw [slotPages_eq]
        · exact slot
        · rw [shown]
          rfl
    · subst own
      exact findError_remembered flying inSet
  · refine ⟨s.refresh o, rfl, refresh_changes s o, ?_⟩
    rw [refresh_eq on free one]
    refine ⟨handed_pending s o c, fun i k unit => ?_, fun n unit noFlip => ?_, fun k unit => ?_, fun p unit active => ?_⟩
    · obtain ⟨noticed, stream⟩ := handed_slot s o unit
      obtain ⟨drops, keeps⟩ := dropSlot_stream (s.endFrame o) i k c.stamp
      rw [endFrame_stream] at drops keeps
      simp only [ne_eq, release_showing] at drops keeps
      refine ⟨noticed, fun v q stamp showing => ⟨_, endFrame_scanning s o i k, ?_⟩, fun other => ?_⟩
      · rw [stream, drops v q stamp showing]
      · rw [stream, keeps other]
    · obtain ⟨layers, noticed⟩ := handed_layer o unit noFlip
      refine ⟨?_, fun m apart => ?_, noticed⟩
      · rw [layers, if_pos rfl]
        unfold damagedAt
        rw [pagesOfPlane_eq]
      · rw [layers, if_neg (Ne.symm apart)]
    · obtain ⟨slots, order⟩ := handed_capture s o unit
      refine ⟨?_, order, fun j apart => ?_⟩
      · rw [slots k]
        simp
      · rw [slots j, if_neg fun h => apart h.1.symm]
    · exact handed_guidePlane unit active
  · have none_due : s.handDue .chime = s := handDue_nothing fun c hc => by
      rw [dueAt_chime]
      by_cases own : c.reader = .chime
      · simp [quiet c hc own]
      · simp [own]
    refine ⟨_, rfl, ?_, ?_⟩ <;> rw [none_due]
    · exact (samplePeriod_rest s).mono
    · exact ⟨fun n => congrArg (·.sel n) ((samplePeriod_rest s).at .samples), samplePeriod_pending s⟩
  · have handed : s.handDue .chime = State.damageSample { s with fmm := { s.fmm with
        pending := s.fmm.pending.filter fun d => !d.dueAt .chime } } n := by
      rw [handDue_one (c := c) (by simpa only [dueAt_chime] using one)]
      unfold State.handConsequence
      rw [unit]
    have rest := samplePeriod_rest (s.handDue .chime)
    have samples : ∀ m, (State.syncPlaying (State.advanceVoice (s.handDue .chime).formSample)).sample m =
        if n = m then { s.sample n with state := .damaged, mark := 0 } else s.sample m := fun m => by
      refine (congrArg (·.sel m) (rest.at .samples)).trans ?_
      rw [handed]
      exact damageSample_sample _ n m
    refine ⟨_, rfl, ((handDue_changes s .chime).mono).trans (rest.mono), ?_, fun m apart => ?_, fun clear i e level used names => ?_⟩
    · rw [samples, if_pos rfl]
    · rw [samples, if_neg (Ne.symm apart)]
    · have still : (s.handDue .chime).recv.revEff = false := ((handDue_changes s .chime).at .revEff).trans clear
      refine samplePeriod_playedOut ?_ still
      rw [handed]
      exact damageSample_playedOut used (by rw [names]; simp [Sound.names]) clear

end Sys2Proof.Machine
end

section
/-! PROOFS. The beginning of a start-up, and its steps 2 to 6 one by one (R182, R183, R185). -/

namespace Sys2Proof.Machine

set_option Elab.async false

open Sys2Proof

/-! ## Folds over the numbers of a table -/

/-- A property counted up through the numbers below `n`. -/
theorem foldl_finRange {α : Type} {n : Nat} {P : Nat → α → Prop} {f : α → Fin n → α} {a : α} (first : P 0 a)
    (next : ∀ (i : Fin n) b, P i.1 b → P (i.1 + 1) (f b i)) : P n ((List.finRange n).foldl f a) := by
  induction n with
  | zero => exact first
  | succ n ih =>
    rw [List.finRange_succ_last, List.foldl_append, List.foldl_map]
    exact next (Fin.last n) _ (ih fun i b h => next i.castSucc b h)

/-- Every entry of a table changed, one after another. -/
theorem sel_updAll {α : Type} {n : Nat} (t : Table α n) (f : Fin n → α → α) (j : Fin n) :
    ((List.finRange n).foldl (fun x i => x.upd i (f i)) t).sel j = f j (t.sel j) := by
  have changed := foldl_finRange (P := fun k (x : Table α n) => ∀ j, x.sel j = if j.1 < k then f j (t.sel j) else t.sel j)
    (f := fun x i => x.upd i (f i)) (a := t) (fun j => by simp) fun i x h j => by
      rw [Table.sel_upd, h]
      by_cases here : i = j
      · subst here
        simp
      · have apart : i.1 ≠ j.1 := fun same => here (Fin.ext same)
        rw [if_neg here]
        by_cases low : j.1 < i.1
        · rw [if_pos low, if_pos (by omega)]
        · rw [if_neg low, if_neg (by omega)]
  rw [changed j, if_pos j.2]

/-! ## Step 1: the beginning (R181, R182) -/

/-- A start-up without a store operation in flight keeps every sector's bytes and mark, UNEXAMINED. -/
theorem startUp_store {s : State} (idle : s.store.op = none) (cause : ResetCause) :
    (∀ n, (s.startUp cause).sector n = { s.sector n with state := none }) ∧ (s.startUp cause).store.op = none := by
  have kept : s.abandonStore = s := by
    unfold State.abandonStore
    rw [idle]
  unfold State.startUp State.initMemory State.beginStartUp
  rw [kept]
  exact ⟨fun n => sel_updAll s.store.sectors (fun _ x => { x with state := none }) n, idle⟩

theorem startUp_out (s : State) (cause : ResetCause) (o : Output) :
    (s.startUp cause).out o = .loaded false (builtInTiming o) ⟨0, 0, 0⟩ false := by cases o <;> rfl

/-! ## Step 2: the sectors (R185) -/

theorem examineSectors_sector (s : State) (n : Fin 8) : s.examineSectors.sector n = Sector.examine n (s.sector n) :=
  sel_updAll s.store.sectors Sector.examine n

/-! ## Nothing evaluates REV_EFF anew -/

/-- No signal has a value, the line is 0, and REV_EFF is clear: the receiver as after a reset (R35, R48). -/
def Calm (s : State) : Prop := (∀ i, (s.signal i).state = .none) ∧ s.recv.line = false ∧ s.recv.revEff = false

theorem evalRev_calm {s : State} (h : Calm s) (fall : RevContribution) : s.evalRev fall = s := by
  obtain ⟨signals, line, rev⟩ := h
  have bus : s.busTerm = false := by
    unfold State.busTerm
    rw [signals]
  unfold State.evalRev
  dsimp only
  rw [bus, line, rev]
  cases s.recv.source <;> rfl

theorem latchTest_calm {s : State} (h : Calm s) : s.latchTest = s := by
  unfold State.latchTest
  rw [if_neg fun lost => by rw [h.1] at lost; exact nomatch lost.1]

/-! ## Step 3: the receiver (R48, R183) -/

/-- A rule stored, and its timeout taken. -/
def stored (s : State) (n : Fin 16) (r : Rule) : State := (s.putRule n r).takeTimeout r

theorem stored_rule (s : State) (n : Fin 16) (r : Rule) (m : Fin 16) : (stored s n r).rule m = if n = m then r else s.rule m := by
  unfold stored State.takeTimeout
  rw [← putRule_rule]
  split <;> rfl

theorem stored_signal (s : State) (n : Fin 16) (r : Rule) (i : SignalId) :
    (stored s n r).signal i = if r.enabled = true ∧ r.target = i then { s.signal i with timeout := r.timeout } else s.signal i := by
  unfold stored State.takeTimeout
  by_cases on : r.enabled = true
  · rw [if_pos on, putSignal_signal]
    by_cases here : r.target = i
    · subst here
      rw [if_pos rfl, if_pos ⟨on, rfl⟩]
      rfl
    · rw [if_neg here, if_neg fun h => here h.2]
      rfl
  · rw [if_neg on, if_neg fun h => on h.1]
    rfl

/-- What storing a rule leaves: everything but the rules and the signals. -/
theorem stored_rest (s : State) (n : Fin 16) (r : Rule) : stored s n r = { s with recv := { s.recv with
    rules := (stored s n r).recv.rules, signals := (stored s n r).recv.signals } } := by
  unfold stored State.takeTimeout
  split <;> rfl

theorem loadRule_eq (b : List Byte) (s : State) (n : Fin 16) : s.loadRule b n = stored s n
    (match SetRule.legal (ruleRequest b n.1) with
      | some (_, i, order) => if targetTaken s.recv.rules n i then .cleared else SetRule.toRule (ruleRequest b n.1) i order
      | none => .cleared) := by
  unfold State.loadRule
  dsimp only
  cases SetRule.legal (ruleRequest b n.1) with
  | none => rfl
  | some x =>
    obtain ⟨-, i, order⟩ := x
    dsimp only
    split <;> rfl

/-- A rule as sector 2 gives it: as SET RULE would store it, empty where that would refuse it or a lower rule has its target
(R183). -/
def RuleAsLoaded (b : List Byte) (rules : Fin 16 → Rule) (n : Fin 16) : Prop :=
  (SetRule.legal (ruleRequest b n.1) = none → rules n = .cleared) ∧
  ∀ m i order, SetRule.legal (ruleRequest b n.1) = some (m, i, order) →
    ((∃ k, k < n ∧ (rules k).enabled = true ∧ (rules k).target = i) → rules n = .cleared) ∧
    ((∀ k, k < n → (rules k).enabled = true → (rules k).target ≠ i) → rules n = SetRule.toRule (ruleRequest b n.1) i order)

/-- What holds when the rules below `k` have been loaded. -/
structure RulesLoaded (b : List Byte) (s : State) (k : Nat) (u : State) : Prop where
  rest : u = { s with recv := { s.recv with rules := u.recv.rules, signals := u.recv.signals } }
  signals : ∀ i, u.signal i = { s.signal i with timeout := (u.signal i).timeout }
  timeouts : ∀ m, (u.rule m).enabled = true → (u.signal (u.rule m).target).timeout = (u.rule m).timeout
  empty : ∀ m : Fin 16, k ≤ m.1 → u.rule m = .cleared
  loaded : ∀ m : Fin 16, m.1 < k → RuleAsLoaded b u.rule m

/-- Storing a rule whose target no enabled rule has keeps every enabled rule's timeout with its signal. -/
theorem RulesLoaded.next {b : List Byte} {s u : State} {n : Fin 16} {r : Rule} (h : RulesLoaded b s n.1 u)
    (apart : r.enabled = true → ∀ m, m ≠ n → (u.rule m).enabled = true → (u.rule m).target ≠ r.target)
    (given : RuleAsLoaded b (stored u n r).rule n) : RulesLoaded b s (n.1 + 1) (stored u n r) where
  rest := by
    have rest := stored_rest u n r
    generalize stored u n r = v at rest ⊢
    rw [h.rest] at rest
    exact rest
  signals i := by
    rw [stored_signal, h.signals i]
    split <;> rfl
  timeouts m := by
    rw [stored_rule]
    by_cases here : n = m
    · rw [if_pos here]
      intro on
      rw [stored_signal, if_pos ⟨on, rfl⟩]
    · rw [if_neg here]
      intro on
      rw [stored_signal, if_neg, h.timeouts m on]
      exact fun taken => apart taken.1 m (Ne.symm here) on taken.2.symm
  empty m above := by
    rw [stored_rule, if_neg fun same => by subst same; omega]
    exact h.empty m (by omega)
  loaded m below := by
    rcases Nat.lt_succ_iff_lt_or_eq.1 below with lower | same
    · have kept : ∀ k : Fin 16, k ≤ m → (stored u n r).rule k = u.rule k := fun k hk => by
        rw [stored_rule, if_neg fun same => by subst same; exact absurd hk (by simpa using lower)]
      obtain ⟨refused, taken⟩ := h.loaded m lower
      refine ⟨fun none => by rw [kept m le_rfl, refused none], fun k i order legal => ?_⟩
      obtain ⟨other, free⟩ := taken k i order legal
      rw [kept m le_rfl]
      refine ⟨fun ⟨k, low, on⟩ => other ⟨k, low, by rwa [kept k low.le] at on⟩, fun none => free fun k low on => ?_⟩
      rw [← kept k low.le] at on ⊢
      exact none k low on
    · obtain rfl : m = n := Fin.ext same
      exact given

/-- A target is taken by an enabled rule of a lower number, as the rules are loaded in order. -/
theorem targetTaken_iff {b : List Byte} {s u : State} {n : Fin 16} (h : RulesLoaded b s n.1 u) (i : SignalId) :
    targetTaken u.recv.rules n i = true ↔ ∃ k, k < n ∧ (u.rule k).enabled = true ∧ (u.rule k).target = i := by
  have same : ∀ k, u.recv.rules.sel k = u.rule k := fun _ => rfl
  unfold targetTaken
  simp only [List.any_eq_true, List.mem_finRange, true_and, Bool.and_eq_true, decide_eq_true_eq, same]
  constructor
  · rintro ⟨k, ⟨apart, on⟩, target⟩
    refine ⟨k, ?_, on, target⟩
    by_contra above
    rw [h.empty k (by simpa using above)] at on
    exact nomatch on
  · rintro ⟨k, below, on, target⟩
    exact ⟨k, ⟨below.ne, on⟩, target⟩

/-- Loading the next rule. -/
theorem loadRule_loaded {b : List Byte} {s u : State} {n : Fin 16} (h : RulesLoaded b s n.1 u) :
    RulesLoaded b s (n.1 + 1) (u.loadRule b n) := by
  have lower : ∀ (r : Rule) (k : Fin 16), k < n → (stored u n r).rule k = u.rule k := fun r k below => by
    rw [stored_rule, if_neg below.ne']
  have this_one : ∀ r, (stored u n r).rule n = r := fun r => by rw [stored_rule, if_pos rfl]
  rw [loadRule_eq]
  cases legal : SetRule.legal (ruleRequest b n.1) with
  | none => exact h.next (fun on => nomatch on) ⟨fun _ => this_one _, fun m i order other => by rw [legal] at other; exact nomatch other⟩
  | some x =>
    obtain ⟨m, i, order⟩ := x
    have taken := targetTaken_iff h i
    dsimp only
    by_cases used : targetTaken u.recv.rules n i = true
    · rw [if_pos used]
      refine h.next (fun on => nomatch on) ⟨fun other => (nomatch legal.symm.trans other), fun m' i' order' other => ?_⟩
      cases legal.symm.trans other
      refine ⟨fun _ => this_one _, fun none => ?_⟩
      obtain ⟨k, below, on, target⟩ := taken.1 used
      rw [← lower .cleared k below] at on target
      exact absurd target (none k below on)
    · rw [if_neg used]
      refine h.next (fun _ k apart on target => ?_) ⟨fun other => (nomatch legal.symm.trans other), fun m' i' order' other => ?_⟩
      · refine used (taken.2 ⟨k, ?_, on, target⟩)
        by_contra above
        rw [h.empty k (by simpa using above)] at on
        exact nomatch on
      · cases legal.symm.trans other
        refine ⟨fun ⟨k, below, on, target⟩ => ?_, fun _ => this_one _⟩
        rw [lower _ k below] at on target
        exact absurd (taken.2 ⟨k, below, on, target⟩) used

/-- All sixteen rules loaded into a receiver whose rules are empty. -/
theorem loadRules_loaded {s : State} (empty : ∀ n, s.rule n = .cleared) (b : List Byte) :
    RulesLoaded b s 16 ((List.finRange 16).foldl (State.loadRule b) s) :=
  foldl_finRange (P := RulesLoaded b s)
    ⟨rfl, fun _ => rfl, fun m on => (by rw [empty] at on; exact nomatch on), fun m _ => empty m, fun _ h => nomatch h⟩
    fun _ _ => loadRule_loaded

end Sys2Proof.Machine
end

section
/-! PROOFS. The steps of a start-up, and what they make of the state together (R182, R183). -/

namespace Sys2Proof.Machine

set_option Elab.async false

open Sys2Proof

/-! ## Step 3: the receiver (R48, R183) -/

/-- The receiver as sector 2 gives it, over the one after a reset: the built-in settings where the sector is not VALID. -/
def loadedReceiver (r : Receiver) (sector : Option (List Byte)) : Receiver :=
  match sector with
  | none => r
  | some b => { r with
      bitRate := bitRateOf (byteAt b 0).toNat
      source := reverseSourceOf (byteAt b 1).toNat
      debounceTime := clampNat 10 200 (byteAt b 2).toNat }

/-- What step 3 makes of a receiver after a reset. -/
structure ReceiverLoaded (s : State) (u : State) : Prop where
  rest : u = { s with recv := u.recv }
  recv : u.recv = { loadedReceiver s.recv (s.validBytes 2) with rules := u.recv.rules, signals := u.recv.signals }
  signals : ∀ i, u.signal i = { s.signal i with timeout := (u.signal i).timeout }
  timeouts : ∀ m, (u.rule m).enabled = true → (u.signal (u.rule m).target).timeout = (u.rule m).timeout
  builtIn : s.validBytes 2 = none → ∀ n, u.rule n = .cleared
  given : ∀ b, s.validBytes 2 = some b → ∀ n, RuleAsLoaded b u.rule n

/-- A debounce timer at 0 has not reached a debounce time of sector 2. -/
theorem debounceProceeds_start {s : State} {time : Nat} (positive : 0 < time) (atStart : s.recv.debounce = none ∨ s.recv.debounce = some 0)
    (source : ReverseSource) :
    State.debounceProceeds { s with recv := { s.recv with source := source, debounceTime := time } } =
      { s with recv := { s.recv with source := source, debounceTime := time } } := by
  unfold State.debounceProceeds reached Config.perMs
  dsimp only
  rcases atStart with none | zero
  · rw [none]
    rfl
  · rw [zero]
    dsimp only
    rw [if_neg (by simp; omega)]

theorem loadReceiver_loaded {s : State} (calm : Calm s) (atStart : s.recv.debounce = none ∨ s.recv.debounce = some 0)
    (empty : ∀ n, s.rule n = .cleared) : ReceiverLoaded s s.loadReceiver := by
  unfold State.loadReceiver
  cases valid : s.validBytes 2 with
  | none =>
    dsimp only
    rw [evalRev_calm calm]
    exact
      { rest := rfl
        recv := by rw [valid]; rfl
        signals := fun _ => rfl
        timeouts := fun m on => by rw [empty] at on; exact nomatch on
        builtIn := fun _ => empty
        given := fun b other => nomatch valid.symm.trans other }
  | some b =>
    dsimp only
    obtain ⟨rest, signals, timeouts, -, loaded⟩ :=
      loadRules_loaded (s := { s with recv := { s.recv with bitRate := bitRateOf (byteAt b 0).toNat } }) empty b
    generalize (List.finRange 16).foldl (State.loadRule b) _ = u at rest signals timeouts loaded ⊢
    have debounce : u.recv.debounce = s.recv.debounce := by rw [rest]
    have line : u.recv.line = s.recv.line := by rw [rest]
    have rev : u.recv.revEff = s.recv.revEff := by rw [rest]
    have time : 0 < clampNat 10 200 (byteAt b 2).toNat := by
      rw [clampNat_eq (by omega)]
      omega
    have proceeds := debounceProceeds_start time (by rw [debounce]; exact atStart) (reverseSourceOf (byteAt b 1).toNat)
    have still : Calm { u with recv := { u.recv with
        source := reverseSourceOf (byteAt b 1).toNat, debounceTime := clampNat 10 200 (byteAt b 2).toNat } } :=
      ⟨fun i => (congrArg Signal.state (signals i)).trans (calm.1 i), line.trans calm.2.1, rev.trans calm.2.2⟩
    unfold State.takeReverseSource
    rw [proceeds, evalRev_calm still]
    exact
      { rest := congrArg (fun v : State => { v with recv := { u.recv with
          source := reverseSourceOf (byteAt b 1).toNat, debounceTime := clampNat 10 200 (byteAt b 2).toNat } }) rest
        recv := by
          rw [valid]
          exact congrArg (fun r : Receiver => { r with
            source := reverseSourceOf (byteAt b 1).toNat, debounceTime := clampNat 10 200 (byteAt b 2).toNat }) (congrArg State.recv rest)
        signals := signals
        timeouts := timeouts
        builtIn := fun none => nomatch valid.symm.trans none
        given := fun b' same n => by cases valid.symm.trans same; exact loaded n n.2 }

/-! ## Step 4: the outputs (R106, R117) -/

/-- The Compositor as sector 3 gives it. -/
def loadedCompositor (sector : Option (List Byte)) : Compositor :=
  match sector with
  | none => .builtIn
  | some b => compositorOf b

/-- The outputs of a Compositor as loaded. -/
theorem loadedCompositor_out (sector : Option (List Byte)) (s : State) (o : Output) :
    State.out { s with comp := loadedCompositor sector } o = match sector with
      | none => .loaded true (builtInTiming o) ⟨0, 0, 0⟩ false
      | some b => outputAt b o := by
  cases sector <;> cases o <;> rfl

/-- Step 4 loads the outputs, and nothing follows from it: no output shows the camera, and no signal has a value. -/
theorem loadOutputs_eq {s : State} (calm : Calm s) (quiet : s.comp.demand = false) :
    s.loadOutputs = { s with comp := loadedCompositor (s.validBytes 3) } := by
  have absent : (loadedCompositor (s.validBytes 3)).demand = false := by cases s.validBytes 3 <;> rfl
  have noView : ∀ o, (State.out { s with comp := loadedCompositor (s.validBytes 3) } o).inView = false := by
    intro o
    rw [loadedCompositor_out]
    have shown : ∀ enabled t background mirror, (OutputRec.loaded enabled t background mirror).inView = false := by
      intro enabled t background mirror
      cases enabled <;> rfl
    cases s.validBytes 3 with
    | none => exact shown _ _ _ _
    | some b => exact shown _ _ _ _
  have same : ({ loadedCompositor (s.validBytes 3) with demand := s.comp.demand } : Compositor) = loadedCompositor (s.validBytes 3) := by
    rw [quiet, ← absent]
  have noDemand : State.recomputeDemand { s with comp := loadedCompositor (s.validBytes 3) } =
      { s with comp := loadedCompositor (s.validBytes 3) } := by
    unfold State.recomputeDemand outputs
    dsimp only
    simp only [List.any_cons, List.any_nil, noView, absent]
    rfl
  have loaded : s.loadOutputs = ((State.recomputeDemand { s with comp := { loadedCompositor (s.validBytes 3) with
      demand := s.comp.demand } }).latchTest).evalRev .bus := rfl
  rw [loaded, same, noDemand, latchTest_calm (s := { s with comp := loadedCompositor (s.validBytes 3) }) calm,
    evalRev_calm (s := { s with comp := loadedCompositor (s.validBytes 3) }) calm]

/-! ## Step 5: the camera and the guide (R134, R151) -/

/-- The camera as a start-up leaves it: keep-warm makes it wake (R134). -/
def startedCamera (x : CameraSettings) : Camera :=
  { Camera.initial x with status := if x.keepWarm then .waking else .off, timer := if x.keepWarm then some 0 else none }

/-- The Generator as a start-up leaves it. -/
def startedGuide (g : Geometry) (valid : Bool) (style : GuideStyle) (x : CameraSettings) : Guide :=
  { Guide.initial g valid style x.width x.height with camStatus := (startedCamera x).status }

/-- The notices after a camera has been loaded: one when it wakes (R121). -/
def startedNotices (x : CameraSettings) (q : List NoticeEntry) : List NoticeEntry :=
  if x.keepWarm then queueReport (.cameraState .waking) q else q

theorem followCamera_started {s : State} (quiet : s.comp.demand = false) (g : Geometry) (valid : Bool) (style : GuideStyle)
    (x : CameraSettings) : State.followCamera { s with
      cam := .initial x, guide := { Guide.initial g valid style x.width x.height with demand := false } } =
    { s with
      cam := startedCamera x, guide := startedGuide g valid style x
      link := { s.link with notices := startedNotices x s.link.notices } } := by
  unfold State.followCamera State.cameraRuns startedGuide startedCamera startedNotices
  dsimp only
  rw [quiet, Bool.false_or]
  show (if x.keepWarm = true then _ else _) = _
  have off : (Camera.initial x).status = .off := rfl
  by_cases warm : x.keepWarm = true
  · rw [if_pos warm, if_pos off]
    simp only [warm, if_true]
    unfold State.wakeCamera State.setCameraStatus State.handGuide Guide.active
    cases valid <;> rfl
  · rw [if_neg warm, if_pos off]
    simp only [warm]
    rfl

/-- The camera settings as sector 1 gives them. -/
def loadedSettings (sector : Option (List Byte)) : CameraSettings := sector.elim .builtIn cameraSettingsOf

def loadedGuide (sector : Option (List Byte)) : Guide :=
  startedGuide (sector.elim .builtIn geometryOf) sector.isSome (sector.elim .builtIn styleOf) (loadedSettings sector)

theorem loadCamera_eq {s : State} (quiet : s.comp.demand = false) (unasked : s.guide.demand = false) : s.loadCamera = { s with
    cam := startedCamera (loadedSettings (s.validBytes 1)), guide := loadedGuide (s.validBytes 1)
    link := { s.link with notices := startedNotices (loadedSettings (s.validBytes 1)) s.link.notices } } := by
  unfold State.loadCamera
  rw [unasked]
  cases s.validBytes 1 with
  | none => exact followCamera_started quiet .builtIn false .builtIn .builtIn
  | some b => exact followCamera_started quiet (geometryOf b) true (styleOf b) (cameraSettingsOf b)

/-! ## Step 6: the mix (R165, R169) -/

/-- A record of the mix whose attenuation is its volume: no chime plays and REV_EFF is clear. -/
def MixOut.atRest (x : MixOut) : MixOut := { x with target := x.filmVolume, applied := x.filmVolume }

/-- With no chime PLAYING and REV_EFF clear, every target is its film volume, taken at once (R166, R169). -/
theorem settle_retarget {m : Mixer} (silent : m.playing = false) (clear : m.revEff = false) (capped : (m.outs.sel 0).filmVolume ≤ 63) :
    ∀ k, (Mixer.settle (Mixer.retarget m)).outs.sel k = MixOut.atRest (m.outs.sel k) := by
  have target : cabinTarget (m.outs.sel 0).filmVolume m.duck m.rev m.playing m.revEff = (m.outs.sel 0).filmVolume := by
    unfold cabinTarget
    rw [silent, clear]
    simpa using capped
  intro k
  unfold Mixer.settle Mixer.retarget
  dsimp only
  rw [target]
  simp only [Table.sel_upd, Table.sel_put]
  match k with
  | 0 => rfl
  | 1 => rfl
  | 2 => rfl

/-- The Mixer as sector 4 gives it. -/
def loadedMixer (sector : Option (List Byte)) : Mixer :=
  match sector with
  | none => Mixer.builtIn
  | some b => Mixer.settle (Mixer.retarget { Mixer.builtIn with
      outs := ⟨#[mixOutAt b 0, mixOutAt b 1, mixOutAt b 2], rfl⟩
      duck := clampNat 0 30 (byteAt b 12).toNat
      rev := clampNat 0 63 (byteAt b 13).toNat })

theorem loadMixer_eq {s : State} (reset : s.mixer = .builtIn) : s.loadMixer = { s with
    mixer := loadedMixer (s.validBytes 4)
    chime := { s.chime with cadence := (s.validBytes 4).elim .builtIn cadenceOf } } := by
  unfold State.loadMixer
  rw [reset]
  cases s.validBytes 4 with
  | none => rfl
  | some b => rfl

/-! ## All the steps -/

/-- The state as the steps after the first find it. -/
structure Fresh (u : State) : Prop where
  steps : u.steps = laterSteps
  recv : ∃ raw, u.recv = .initial raw
  demand : u.comp.demand = false
  guide : u.guide.demand = false
  mixer : u.mixer = .builtIn

theorem initial_calm {s : State} {raw : Bool} (h : s.recv = .initial raw) :
    (∀ i, s.signal i = .initial i) ∧ (∀ n, s.rule n = .cleared) ∧ Calm s := by
  have signals : ∀ i, s.signal i = .initial i := by
    intro i
    unfold State.signal
    rw [h]
    cases i <;> rfl
  refine ⟨signals, fun n => ?_, fun i => by rw [signals i]; rfl, by rw [h]; rfl, by rw [h]; rfl⟩
  unfold State.rule
  rw [h]
  exact Table.sel_fill _ n

/-- A start-up's later steps as one: each block as its sector gives it, over the state after step 2. -/
def afterSteps (v : State) (r : Receiver) : State :=
  { v with
    recv := r
    comp := loadedCompositor (v.validBytes 3)
    cam := startedCamera (loadedSettings (v.validBytes 1))
    guide := loadedGuide (v.validBytes 1)
    link := { v.link with notices := startedNotices (loadedSettings (v.validBytes 1)) v.link.notices }
    mixer := loadedMixer (v.validBytes 4)
    chime := { v.chime with cadence := (v.validBytes 4).elim .builtIn cadenceOf } }

/-- The state after step 2, with the steps taken off the list. -/
def examined (u : State) : State := State.examineSectors { u with steps := [] }

theorem finishStartUp_eq {u : State} (fresh : Fresh u) : ∃ w, ReceiverLoaded (examined u) w ∧
    u.finishStartUp = afterSteps (examined u) w.recv := by
  obtain ⟨raw, recv⟩ := fresh.recv
  obtain ⟨-, empty, calm⟩ := initial_calm (s := examined u) recv
  have atStart : (examined u).recv.debounce = none ∨ (examined u).recv.debounce = some 0 := by
    show u.recv.debounce = none ∨ u.recv.debounce = some 0
    rw [recv]
    cases raw
    · exact .inl rfl
    · exact .inr rfl
  have loaded := loadReceiver_loaded calm atStart empty
  refine ⟨_, loaded, ?_⟩
  have inOrder : u.finishStartUp = (examined u).loadReceiver.loadOutputs.loadCamera.loadMixer := by
    unfold State.finishStartUp examined
    rw [fresh.steps]
    unfold laterSteps
    simp only [List.foldl_cons, List.foldl_nil, State.doStep]
  rw [inOrder]
  have still : Calm (examined u).loadReceiver := by
    refine ⟨fun i => (congrArg Signal.state (loaded.signals i)).trans (calm.1 i), ?_, ?_⟩
    · rw [loaded.recv]
      cases (examined u).validBytes 2 <;> exact calm.2.1
    · rw [loaded.recv]
      cases (examined u).validBytes 2 <;> exact calm.2.2
  have rest := loaded.rest
  generalize (examined u).loadReceiver = w at still rest ⊢
  have quiet : w.comp.demand = false := by rw [rest]; exact fresh.demand
  have unasked : w.guide.demand = false := by rw [rest]; exact fresh.guide
  have reset : w.mixer = .builtIn := by rw [rest]; exact fresh.mixer
  have noDemand : (loadedCompositor (w.validBytes 3)).demand = false := by cases w.validBytes 3 <;> rfl
  rw [loadOutputs_eq still quiet, loadCamera_eq (s := { w with comp := loadedCompositor (w.validBytes 3) }) noDemand unasked,
    loadMixer_eq]
  · rw [rest]
    rfl
  · exact reset

end Sys2Proof.Machine
end

section
/-! PROOFS. A start-up initialises every block (R24, R48, R72, R94, R117, R134, R151, R169, R181 to R185). -/

namespace Sys2Proof.Machine

set_option Elab.async false

open Sys2Proof

/-! ## What each sector gives -/

theorem byteAt_eq (b : List Byte) (i : Nat) : byteAt b i = b.getD i 0 := rfl

theorem clampNat_zero (hi n : Nat) : clampNat 0 hi n = min hi n := by
  rw [clampNat_eq (Nat.zero_le hi), Nat.zero_max]

theorem toNat_eq_iff (x : Byte) {k : Nat} (small : k < 256) : x.toNat = k ↔ x = BitVec.ofNat 8 k := by
  rw [BitVec.toNat_eq, BitVec.toNat_ofNat, Nat.mod_eq_of_lt small]

/-- A sector's bytes when its content and mark make it VALID. -/
def validContent (n : Fin 8) (x : Sector) : Option (List Byte) :=
  if sectorStateOf n x.bytes x.mark = .valid then some x.bytes else none

theorem validContent_some {n : Fin 8} {x : Sector} (valid : sectorStateOf n x.bytes x.mark = .valid) :
    validContent n x = some x.bytes := if_pos valid

theorem validContent_none {n : Fin 8} {x : Sector} (other : ¬ sectorStateOf n x.bytes x.mark = .valid) :
    validContent n x = none := if_neg other

/-! ### Sector 2 (R48) -/

theorem loadedReceiver_eq (r : Receiver) (x : Sector) (fresh : r.bitRate = 500 ∧ r.source = .line ∧ r.debounceTime = 50) :
    let b := x.bytes
    let valid := sectorStateOf 2 b x.mark = .valid
    loadedReceiver r (validContent 2 x) = { r with
      bitRate := if valid then (if b.getD 0 0 = 1 then 125 else if b.getD 0 0 = 2 then 250 else 500) else 500
      source := if valid then (if b.getD 1 0 = 1 then .bus else if b.getD 1 0 = 3 then .either else .line) else .line
      debounceTime := if valid then max 10 (min 200 (b.getD 2 0).toNat) else 50 } := by
  obtain ⟨rate, source, time⟩ := fresh
  dsimp only
  by_cases valid : sectorStateOf 2 x.bytes x.mark = .valid
  · rw [validContent_some valid, if_pos valid, if_pos valid, if_pos valid]
    unfold loadedReceiver bitRateOf reverseSourceOf
    dsimp only
    rw [clampNat_eq (by omega)]
    simp only [toNat_eq_iff _ (show 1 < 256 by omega), toNat_eq_iff _ (show 2 < 256 by omega), toNat_eq_iff _ (show 3 < 256 by omega)]
    rfl
  · rw [validContent_none valid, if_neg valid, if_neg valid, if_neg valid, ← rate, ← source, ← time]
    rfl

/-! ### Sector 3 (R95, R96, R117) -/

/-- The Compositor without a VALID sector 3. -/
theorem loadedCompositor_none {x : Sector} (other : ¬ sectorStateOf 3 x.bytes x.mark = .valid) {t : State}
    (loaded : t.comp = loadedCompositor (validContent 3 x)) :
    t.comp.policy = ViewPolicy.builtIn ∧ ∀ o, t.out o = OutputRec.loaded true (builtInTiming o) ⟨0, 0, 0⟩ false := by
  rw [validContent_none other] at loaded
  refine ⟨by rw [loaded]; rfl, fun o => ?_⟩
  unfold State.out
  rw [loaded]
  cases o <;> rfl

theorem outputAt_eq (b : List Byte) (o : Output) :
    let k := 9 * (outputNo o).1
    let rate := (b.getD (k + 5) 0).toNat
    outputAt b o = OutputRec.loaded ((b.getD k 0).getLsbD 0)
      ⟨max 320 (min 1280 (u16At b (k + 1))), max 240 (min 800 (u16At b (k + 3))), if rate = 50 ∨ rate = 60 then rate else 60⟩
      ⟨b.getD (k + 6) 0, b.getD (k + 7) 0, b.getD (k + 8) 0⟩ ((b.getD k 0).getLsbD 1 && decide (o ≠ .centre)) := by
  have rate : (builtInTiming o).refresh = 60 := by cases o <;> rfl
  unfold outputAt timingAt
  dsimp only
  rw [rate, clampNat_eq (by omega), clampNat_eq (by omega)]
  rfl

/-- The Compositor with a VALID sector 3. -/
theorem loadedCompositor_some {x : Sector} (valid : sectorStateOf 3 x.bytes x.mark = .valid) {t : State}
    (loaded : t.comp = loadedCompositor (validContent 3 x)) :
    let b := x.bytes
    (∀ o, t.out o = outputAt b o) ∧
    t.comp.policy.lingerTime = min 10000 (u16At b 27) ∧ t.comp.policy.lingerSpeed = min 3000 (u16At b 29) ∧
    t.comp.policy.filmSpeedLimit = min 1000 (u16At b 31) ∧
    ∀ k : Fin 3, t.comp.policy.fills.sel k = ⟨b.getD (33 + 3 * k.1) 0, b.getD (34 + 3 * k.1) 0, b.getD (35 + 3 * k.1) 0⟩ := by
  rw [validContent_some valid] at loaded
  refine ⟨fun o => ?_, ?_⟩
  · unfold State.out
    rw [loaded]
    cases o <;> rfl
  · rw [loaded, ← clampNat_zero, ← clampNat_zero, ← clampNat_zero]
    refine ⟨rfl, rfl, rfl, fun k => ?_⟩
    match k with
    | 0 => rfl
    | 1 => rfl
    | 2 => rfl

/-! ### Sector 1 (R134, R135, R151) -/

theorem cameraSettingsOf_eq (b : List Byte) :
    let w := u16At b 0
    let h := u16At b 2
    cameraSettingsOf b = ⟨if 320 ≤ w ∧ w ≤ 1280 ∧ w % 2 = 0 then w else 1280, if 240 ≤ h ∧ h ≤ 960 ∧ h % 2 = 0 then h else 800, .yuv422,
      max 40 (min 500 (u16At b 4)), max 100 (min 2000 (u16At b 6)), max 5 (min 60 (b.getD 8 0).toNat), (b.getD 9 0).getLsbD 0⟩ := by
  unfold cameraSettingsOf cameraWidthOf cameraHeightOf
  rw [clampNat_eq (by omega), clampNat_eq (by omega), clampNat_eq (by omega)]
  rfl

theorem geometryOf_ranges (b : List Byte) :
    (geometryOf b).ratio = max 1000 (min 2500 (u16At b 10)) ∧ (geometryOf b).wheelbase = max 2000 (min 3500 (u16At b 12)) ∧
    (geometryOf b).overhang = max 300 (min 1500 (u16At b 14)) ∧ (geometryOf b).track = max 1200 (min 2000 (u16At b 16)) ∧
    (geometryOf b).reach = max 1000 (min 5000 (u16At b 18)) :=
  ⟨clampNat_eq (by omega) _, clampNat_eq (by omega) _, clampNat_eq (by omega) _, clampNat_eq (by omega) _, clampNat_eq (by omega) _⟩

theorem geometryOf_homography (b : List Byte) (i : Fin 9) : (geometryOf b).homography.sel i = b24At b (20 + 3 * i.1) := by
  match i with
  | 0 | 1 | 2 | 3 | 4 | 5 | 6 | 7 | 8 => rfl

/-- Markers that rise below the reach are taken, others replaced by quarters of the reach (R183). -/
theorem geometryOf_markers (b : List Byte) :
    let rise := u16At b 47 < u16At b 49 ∧ u16At b 49 < u16At b 51 ∧ u16At b 51 < (geometryOf b).reach
    (rise → (geometryOf b).marker1 = u16At b 47 ∧ (geometryOf b).marker2 = u16At b 49 ∧ (geometryOf b).marker3 = u16At b 51) ∧
    (¬ rise → (geometryOf b).marker1 = (geometryOf b).reach / 4 ∧ (geometryOf b).marker2 = (geometryOf b).reach / 2 ∧
      (geometryOf b).marker3 = 3 * (geometryOf b).reach / 4) := by
  have marker : ∀ n m : Nat, (if decide (u16At b 47 < u16At b 49 ∧ u16At b 49 < u16At b 51 ∧ u16At b 51 < (geometryOf b).reach) = true
      then n else m) = if u16At b 47 < u16At b 49 ∧ u16At b 49 < u16At b 51 ∧ u16At b 51 < (geometryOf b).reach then n else m := fun n m => by
    simp only [decide_eq_true_eq]
  constructor
  · intro rise
    exact ⟨(marker _ _).trans (if_pos rise), (marker _ _).trans (if_pos rise), (marker _ _).trans (if_pos rise)⟩
  · intro other
    exact ⟨(marker _ _).trans (if_neg other), (marker _ _).trans (if_neg other), (marker _ _).trans (if_neg other)⟩

/-! ### Sector 4 (R165, R169) -/

theorem mixOutAt_eq (b : List Byte) (k : Fin 3) :
    let code := (b.getD (4 * k.1) 0).toNat
    let volume := min 63 (b.getD (4 * k.1 + 1) 0).toNat
    let builtIn : Option StreamId := if k = 0 then none else if k = 1 then some .a else some .b
    MixOut.atRest (mixOutAt b k) = ⟨if code = 0 then none else if code = 1 then some .a else if code = 2 then some .b else builtIn,
      volume, decide (k = 0) || decide (b.getD (4 * k.1 + 2) 0 ≠ 0), min 63 (b.getD (4 * k.1 + 3) 0).toNat, volume, volume, 0⟩ := by
  have film : (Mixer.builtIn.outs.sel k).film = if k = 0 then none else if k = 1 then some .a else some .b := by
    match k with
    | 0 | 1 | 2 => rfl
  unfold MixOut.atRest mixOutAt
  dsimp only
  rw [film, clampNat_zero, clampNat_zero]
  rfl

/-- The Mixer of a VALID sector 4. -/
theorem loadedMixer_some (b : List Byte) :
    (loadedMixer (some b)).duck = min 30 (b.getD 12 0).toNat ∧ (loadedMixer (some b)).rev = min 63 (b.getD 13 0).toNat ∧
    ∀ k, (loadedMixer (some b)).outs.sel k = MixOut.atRest (mixOutAt b k) := by
  refine ⟨clampNat_zero _ _, clampNat_zero _ _, fun k => ?_⟩
  have capped : (mixOutAt b 0).filmVolume ≤ 63 := by
    show clampNat 0 63 _ ≤ 63
    rw [clampNat_zero]
    omega
  refine (settle_retarget (m := { Mixer.builtIn with
    outs := ⟨#[mixOutAt b 0, mixOutAt b 1, mixOutAt b 2], rfl⟩
    duck := clampNat 0 30 (byteAt b 12).toNat
    rev := clampNat 0 63 (byteAt b 13).toNat }) rfl rfl capped k).trans ?_
  match k with
  | 0 | 1 | 2 => rfl

/-- What every start-up leaves of the Mixer: no samples, no REV_EFF, no chime. -/
theorem loadedMixer_rest (sector : Option (List Byte)) : (loadedMixer sector).revEff = false ∧ (loadedMixer sector).playing = false ∧
    ∀ k, (loadedMixer sector).samples.sel k = ⟨0, 0⟩ := by
  cases sector with
  | none => exact ⟨rfl, rfl, fun k => Table.sel_fill _ k⟩
  | some b => exact ⟨rfl, rfl, fun k => Table.sel_fill _ k⟩

theorem cadenceOf_eq (b : List Byte) : cadenceOf b = ⟨max 20 (min 60 (b.getD 14 0).toNat), max 100 (min 250 (b.getD 15 0).toNat),
    max 6 (b.getD 16 0).toNat, min 63 (b.getD 17 0).toNat⟩ := by
  have byte := (byteAt b 16).isLt
  unfold cadenceOf
  rw [clampNat_eq (by omega), clampNat_eq (by omega), clampNat_eq (by omega), clampNat_zero,
    Nat.min_eq_right (show (byteAt b 16).toNat ≤ 255 by omega)]
  rfl

/-! ## The commands that begin a start-up (R182) -/

/-- A state with another transaction under way. -/
def withTransaction (s : State) (x : Option Transaction) : State := { s with link := { s.link with transaction := x } }

/-- RESET PART in RUNNING, with room in the list, begins a start-up; the frame has ended in the transaction it came in. -/
theorem resetPart_startUp {s : State} (running : Running s) (room : s.link.requests.length < 4) (heard : FrameHeard s) :
    exec (.resetPart []) s = .next ((withTransaction s (s.link.transaction.map fun x => { x with frameEnded := true })).startUp .request) := by
  have taken : ∀ u : State, u.part.phase = .running → u.link.requests.length < 4 →
      u.takeGood 0#8 codeResetPart [] = u.startUp .request := by
    intro u phase list
    have going : u.isStarting = false := by
      unfold State.isStarting
      rw [phase]
      rfl
    unfold State.takeGood
    rw [if_pos ⟨rfl, list⟩, going]
    rfl
  show Host.Outcome.next (s.frameEnds fun t => t.takeGood 0#8 codeResetPart []) = _
  unfold State.frameEnds
  cases under_way : s.link.transaction with
  | none =>
    dsimp only
    rw [taken s running room, Option.map_none, ← under_way]
    rfl
  | some x =>
    obtain ⟨ended, deaf⟩ := heard x under_way
    dsimp only
    rw [if_neg (by simp [ended, deaf])]
    exact congrArg Host.Outcome.next (taken (withTransaction s (some { x with frameEnded := true })) running room)

/-- Each of the three commands is a start-up, with a transaction under way exactly where there was one. -/
theorem exec_startUp {s : State} {c : Instr} {cause : ResetCause}
    (h : (c = .powerOn ∧ cause = .power) ∨ (c = .resetLine ∧ cause = .line) ∨
      (c = .resetPart [] ∧ cause = .request ∧ Running s ∧ s.link.requests.length < 4 ∧ FrameHeard s)) :
    ∃ x : Option Transaction, exec c s = .next ((withTransaction s x).startUp cause) ∧ x.isSome = s.link.transaction.isSome := by
  rcases h with ⟨rfl, rfl⟩ | ⟨rfl, rfl⟩ | ⟨rfl, rfl, running, room, heard⟩
  · exact ⟨s.link.transaction, rfl, rfl⟩
  · exact ⟨s.link.transaction, rfl, rfl⟩
  · exact ⟨_, resetPart_startUp running room heard, Option.isSome_map⟩

/-! ## The state a start-up ends in -/

theorem startUp_fresh (s : State) (cause : ResetCause) : Fresh (s.startUp cause) := ⟨rfl, ⟨_, rfl⟩, rfl, rfl, rfl⟩

/-- The sectors after step 2: bytes and marks as before, the state as they give it (R185). -/
theorem examined_sector {s : State} (idle : s.store.op = none) (cause : ResetCause) (n : Fin 8) :
    (examined (s.startUp cause)).sector n =
      { s.sector n with state := some (sectorStateOf n (s.sector n).bytes (s.sector n).mark) } := by
  have before : State.sector { s.startUp cause with steps := [] } n = { s.sector n with state := none } := (startUp_store idle cause).1 n
  unfold examined
  rw [examineSectors_sector, before]
  rfl

theorem examined_validBytes {s : State} (idle : s.store.op = none) (cause : ResetCause) (n : Fin 8) :
    (examined (s.startUp cause)).validBytes n = validContent n (s.sector n) := by
  unfold State.validBytes validContent
  rw [examined_sector idle]
  simp only [Option.some_inj]

theorem startedNotices_key {x : CameraSettings} {e : NoticeEntry} (h : e ∈ startedNotices x []) : Report.key e.report = (4, 0) := by
  unfold startedNotices at h
  split at h
  · obtain rfl := List.mem_singleton.1 h
    rfl
  · exact nomatch h

theorem validContent_isSome (n : Fin 8) (x : Sector) :
    (validContent n x).isSome = decide (sectorStateOf n x.bytes x.mark = .valid) := by
  unfold validContent
  split <;> simp_all

/-- The state that a start-up with a transaction under way ends in, block by block: reset values, and what each sector gives
(R182, R183). -/
structure StartedUp (s : State) (x : Option Transaction) (cause : ResetCause) (t : State) : Prop where
  part : t.part = ⟨.starting, cause⟩
  steps : t.steps = []
  link : t.link = { Link.initial with
    transaction := x.map Transaction.deafened
    notices := startedNotices (loadedSettings (validContent 1 (s.sector 1))) [] }
  recv : t.recv = { loadedReceiver (.initial s.recv.rawLine) (validContent 2 (s.sector 2)) with
    rules := t.recv.rules, signals := t.recv.signals }
  signals : ∀ i, t.signal i = { Signal.initial i with timeout := (t.signal i).timeout }
  timeouts : ∀ n, (t.rule n).enabled = true → (t.signal (t.rule n).target).timeout = (t.rule n).timeout
  noRules : validContent 2 (s.sector 2) = none → ∀ n, t.rule n = .cleared
  rules : ∀ b, validContent 2 (s.sector 2) = some b → ∀ n, RuleAsLoaded b t.rule n
  fmm : t.fmm = .initial
  mem : t.mem = s.mem.zeroPages 0 190
  pacer : t.pacer = .initial
  layers : t.layers = .initial
  comp : t.comp = loadedCompositor (validContent 3 (s.sector 3))
  cam : t.cam = startedCamera (loadedSettings (validContent 1 (s.sector 1)))
  guide : t.guide = loadedGuide (validContent 1 (s.sector 1))
  mixer : t.mixer = loadedMixer (validContent 4 (s.sector 4))
  chime : t.chime = { ChimePlayer.initial .builtIn with cadence := (validContent 4 (s.sector 4)).elim .builtIn cadenceOf }
  selfTest : t.selfTest = none
  storeOp : t.store.op = none
  sectors : ∀ n, t.sector n = { s.sector n with state := some (sectorStateOf n (s.sector n).bytes (s.sector n).mark) }

theorem examined_rest (u : State) : (examined u).part = u.part ∧ (examined u).link = u.link ∧ (examined u).recv = u.recv ∧
    (examined u).fmm = u.fmm ∧ (examined u).mem = u.mem ∧ (examined u).pacer = u.pacer ∧ (examined u).layers = u.layers ∧
    (examined u).chime = u.chime ∧ (examined u).selfTest = u.selfTest ∧ (examined u).store.op = u.store.op :=
  ⟨rfl, rfl, rfl, rfl, rfl, rfl, rfl, rfl, rfl, rfl⟩

/-- A start-up without a store operation in flight ends so. -/
theorem finishStartUp_startedUp {s : State} (idle : s.store.op = none) (x : Option Transaction) (cause : ResetCause) :
    StartedUp s x cause ((withTransaction s x).startUp cause).finishStartUp := by
  have bytes := examined_validBytes (s := withTransaction s x) idle cause
  have sector := examined_sector (s := withTransaction s x) idle cause
  have op' := (startUp_store (s := withTransaction s x) idle cause).2
  have mem' := startUp_mem (withTransaction s x) cause
  have fresh := startUp_fresh (withTransaction s x) cause
  obtain ⟨w, loaded, finish⟩ := finishStartUp_eq fresh
  obtain ⟨part, link, recv, fmm, mem, pacer, layers, chime, selfTest, op⟩ := examined_rest ((withTransaction s x).startUp cause)
  have initial := (initial_calm (s := examined ((withTransaction s x).startUp cause)) recv).1
  have steps : (examined ((withTransaction s x).startUp cause)).steps = [] := rfl
  rw [finish]
  obtain ⟨-, received, signals, timeouts, noRules, rules⟩ := loaded
  simp only [initial, bytes, recv] at received signals noRules rules
  generalize examined ((withTransaction s x).startUp cause) = v at part link recv fmm mem pacer layers chime selfTest op bytes sector steps ⊢
  exact
    { part := part
      steps := steps
      link := by
        show { v.link with notices := startedNotices (loadedSettings (v.validBytes 1)) v.link.notices } = _
        rw [link, bytes]
        rfl
      recv := received
      signals := signals
      timeouts := timeouts
      noRules := noRules
      rules := rules
      fmm := fmm
      mem := mem.trans mem'
      pacer := pacer
      layers := layers
      comp := congrArg loadedCompositor (bytes 3)
      cam := congrArg (fun x => startedCamera (loadedSettings x)) (bytes 1)
      guide := congrArg loadedGuide (bytes 1)
      mixer := congrArg loadedMixer (bytes 4)
      chime := by
        show { v.chime with cadence := (v.validBytes 4).elim .builtIn cadenceOf } = _
        rw [chime, bytes]
        rfl
      selfTest := selfTest
      storeOp := op.trans op'
      sectors := sector }

/-! ## The obligation -/

theorem StartedUp.mem_read {s t : State} {x : Option Transaction} {cause : ResetCause} (h : StartedUp s x cause t) (a : Nat) :
    t.mem.read a = if a < 190 * 65536 then 0#8 else s.mem.read a := by
  rw [h.mem, zeroPages_read]
  by_cases low : a < 190 * 65536
  · rw [if_pos low, if_pos (by omega)]
  · rw [if_neg low, if_neg (by omega)]

/-- The camera and the Generator of a start-up, whatever sector 1 is (R134, R151). -/
theorem StartedUp.camera {s t : State} {x : Option Transaction} {cause : ResetCause} (h : StartedUp s x cause t) :
    t.cam.settings = loadedSettings (validContent 1 (s.sector 1)) ∧
    t.cam = startedCamera t.cam.settings ∧
    t.guide = { Guide.initial t.guide.geometry (decide (sectorStateOf 1 (s.sector 1).bytes (s.sector 1).mark = .valid)) t.guide.style
      t.cam.settings.width t.cam.settings.height with camStatus := t.cam.status } := by
  have settings : t.cam.settings = loadedSettings (validContent 1 (s.sector 1)) := by rw [h.cam]; rfl
  refine ⟨settings, ?_, ?_⟩
  · rw [settings]
    exact h.cam
  · rw [settings, ← validContent_isSome, h.cam, h.guide]
    rfl

/-- Settles O3: a start-up puts every block at its reset values, and its steps give each block what its sector holds. -/
theorem startUpInitialisesEveryBlock : Obligations.StartUpInitialisesEveryBlock := by
  intro s c cause idle command
  obtain ⟨x, same, under_way⟩ := exec_startUp command
  have op : (withTransaction s x).store.op = none := idle
  have ended := finishStartUp_startedUp idle x cause
  refine ⟨_, same, startPieces_changes (startUp_queue (withTransaction s x) cause), rfl,
    fun n => by rw [(startUp_store op cause).1], rfl, fun o => by rw [startUp_out]; exact ⟨rfl, rfl⟩, rfl, rfl, rfl, ?_⟩
  generalize (State.startUp (withTransaction s x) cause).finishStartUp = t at ended
  obtain ⟨settings, cam, guide⟩ := ended.camera
  have mixer := ended.mixer
  have chime := ended.chime
  dsimp only
  refine ⟨ended.part, ended.steps, by rw [ended.link]; rfl, by rw [ended.link]; rfl, by rw [ended.link]; rfl, fun none => ?_,
    fun y open_one => ?_, fun e he => ?_, fun i => ?_, ended.fmm, ended.mem_read, fun i => ?_, by rw [ended.pacer]; rfl,
    by rw [ended.pacer]; rfl, fun k => ?_, fun n => ?_, fun k => ?_, by rw [ended.layers]; rfl, ?_, ?_, fun i => ?_, fun n => ?_,
    by rw [chime]; rfl, by rw [chime]; rfl, ended.selfTest, ended.storeOp, fun n => by rw [ended.sectors]; exact ⟨rfl, rfl, rfl⟩,
    ⟨?_, ended.timeouts, fun other => ended.noRules (validContent_none other),
      fun valid n => ended.rules _ (validContent_some valid) n⟩,
    ⟨fun other => loadedCompositor_none other ended.comp, fun valid => ?_⟩, ⟨cam, guide, fun other => ?_, fun valid => ?_⟩, ?_⟩
  · rw [ended.link]
    have absent : x = Option.none := Option.not_isSome_iff_eq_none.1 (by rw [under_way, none]; exact Bool.false_ne_true)
    rw [absent]
    rfl
  · rw [open_one] at under_way
    obtain ⟨z, rfl⟩ := Option.isSome_iff_exists.1 under_way
    exact ⟨z.deafened, by rw [ended.link]; rfl, rfl, rfl⟩
  · rw [ended.link] at he
    exact .inr (startedNotices_key he)
  · rw [ended.signals i]
    exact ⟨rfl, rfl, rfl⟩
  · unfold State.stream State.vin
    rw [ended.pacer]
    exact ⟨Table.sel_fill _ _, Table.sel_fill _ _⟩
  · rw [ended.pacer]
    exact Table.sel_fill _ _
  · unfold State.layer
    rw [ended.layers]
    exact Table.sel_fill _ _
  · rw [ended.layers]
    exact Table.sel_fill _ _
  · rw [ended.comp]
    cases validContent 3 _ <;> rfl
  · rw [ended.comp]
    cases validContent 3 _ <;> rfl
  · unfold State.entry
    rw [chime]
    exact Table.sel_fill _ _
  · unfold State.sample
    rw [chime]
    exact Table.sel_fill _ _
  · refine ended.recv.trans ?_
    rw [loadedReceiver_eq (.initial s.recv.rawLine) (s.sector 2) ⟨rfl, rfl, rfl⟩]
  · obtain ⟨outs, time, speed, limit, fills⟩ := loadedCompositor_some valid ended.comp
    exact ⟨fun o => (outs o).trans (outputAt_eq _ o), time, speed, limit, fills⟩
  · rw [settings, ended.guide, validContent_none other]
    exact ⟨rfl, rfl, rfl⟩
  · have some_bytes : validContent 1 (s.sector 1) = some (s.sector 1).bytes := validContent_some valid
    rw [settings, ended.guide, some_bytes]
    obtain ⟨ratio, wheelbase, overhang, track, reach⟩ := geometryOf_ranges (s.sector 1).bytes
    obtain ⟨rise, other⟩ := geometryOf_markers (s.sector 1).bytes
    exact ⟨cameraSettingsOf_eq _, ratio, wheelbase, overhang, track, reach, geometryOf_homography _, rise, other, rfl, rfl⟩
  · obtain ⟨clear, silent, samples⟩ := loadedMixer_rest (validContent 4 (s.sector 4))
    refine ⟨by rw [mixer]; exact clear, by rw [mixer]; exact silent, fun k => by rw [mixer]; exact samples k, fun other => ?_,
      fun valid => ?_⟩
    · have absent : validContent 4 (s.sector 4) = none := validContent_none other
      rw [mixer, chime, absent]
      exact ⟨rfl, rfl, rfl, rfl, rfl, rfl⟩
    · have some_bytes : validContent 4 (s.sector 4) = some (s.sector 4).bytes := validContent_some valid
      rw [mixer, chime, some_bytes]
      obtain ⟨duck, rev, outs⟩ := loadedMixer_some (s.sector 4).bytes
      exact ⟨duck, rev, cadenceOf_eq _, fun k => (outs k).trans (mixOutAt_eq _ k)⟩

end Sys2Proof.Machine
end

section
/-! SUPPORT. What a change of views makes of the output records (R97 to R103), and what it leaves of them. -/

namespace Sys2Proof.Machine

set_option Elab.async false

open Sys2Proof

/-! ### Records that a frame leaves alone -/

/-- A change that names no piece of the output records keeps them. -/
theorem out_of_changes {ps : List Piece} {s t : State} (c : Changes ps s t) (o : Output)
    (owners : ps.contains .owners = false := by decide) (settings : ps.contains .outSettings = false := by decide)
    (run : ps.contains .outRun = false := by decide) : t.out o = s.out o := by
  obtain ⟨enabled, owner, reason, wasOff⟩ := c.at .owners owners o
  obtain ⟨host, background, source, mirror⟩ := c.at .outSettings settings o
  obtain ⟨active, linger, frame, card, fit⟩ := c.at .outRun run o
  revert enabled owner reason wasOff host background source mirror active linger frame card fit
  generalize t.out o = x
  generalize s.out o = y
  cases x
  cases y
  intros
  simp_all

/-- The linger speed's test reads SPEED and the view policy alone (R103). -/
theorem speedEnds_of_changes {ps : List Piece} {s t : State} (c : Changes ps s t) (signals : ps.contains .signals = false := by decide)
    (policy : ps.contains .policy = false := by decide) : t.speedEnds = s.speedEnds := by
  have tables : t.recv.signals = s.recv.signals := c.at .signals signals
  have same : t.comp.policy = s.comp.policy := c.at .policy policy
  unfold State.speedEnds State.signal
  rw [tables, same]

/-! ### One output's record -/

@[simp] theorem ownerChanged_out (s : State) (o : Output) (why : OwnerReason) (q : Output) : (s.ownerChanged o why).out q = s.out q :=
  out_of_changes (ownerChanged_changes s o why) q

theorem setOwner_out (s : State) (o : Output) (r : OutputRec) (why : OwnerReason) (q : Output) :
    (s.setOwner o r why).out q = if o = q then r else s.out q := by
  unfold State.setOwner
  rw [ownerChanged_out, putOut_out]

theorem handDue_out (s : State) (r : Reader) (q : Output) : (s.handDue r).out q = s.out q := out_of_changes (handDue_changes s r) q

/-- What releasing an output's holds leaves of the records (R67, R130, R144). -/
theorem released_out (s : State) (o : Output) (q : Output) :
    (((s.releaseScan o).releaseCapture o).releaseGuide o).out q = s.out q := by
  rw [out_of_changes (releaseGuide_changes _ o) q, out_of_changes (releaseCapture_changes _ o) q,
    out_of_changes (releaseScan_changes s o) q]

/-- A record switched off (R100, R104). -/
def OutputRec.switchedOff (r : OutputRec) : OutputRec :=
  { r with owner := .off, enabled := false, wasOff := false, linger := none, frame := none }

/-- A record given back to the film (R100). -/
def OutputRec.givenBack (r : OutputRec) : OutputRec := { r with owner := .normal, linger := none, activeTiming := r.hostTiming }

theorem left_eq (r : OutputRec) : r.left = if r.wasOff then r.switchedOff else r.givenBack := rfl

theorem turnOff_out (s : State) (o : Output) (why : OwnerReason) (q : Output) :
    (s.turnOff o why).out q = if o = q then (s.out o).switchedOff else s.out q := by
  have any : ∀ u : State, (if o = .centre then u.flipByAnyView else u).out q = u.out q := by
    intro u
    split
    · exact out_of_changes (flipByAnyView_changes u) q
    · rfl
  unfold State.turnOff
  dsimp only
  rw [ownerChanged_out, released_out, any, putOut_out, handDue_out, handDue_out]
  rfl

theorem toNormal_out (s : State) (o : Output) (why : OwnerReason) (q : Output) :
    (s.toNormal o why).out q = if o = q then (s.out o).givenBack else s.out q := setOwner_out s o _ why q

theorem afterView_out (s : State) (o : Output) (why : OwnerReason) (q : Output) :
    (s.afterView o why).out q = if o = q then (s.out o).left else s.out q := by
  unfold State.afterView
  rw [left_eq]
  split
  · exact turnOff_out s o why q
  · exact toNormal_out s o why q

/-- A record kept, said output by output. -/
theorem out_same (s : State) (o q : Output) : s.out q = if o = q then s.out o else s.out q := by
  split
  · subst_vars; rfl
  · rfl

/-- A record after the speed test (R103), where SPEED ends views. -/
def OutputRec.sped (r : OutputRec) : OutputRec :=
  match r.owner with
  | .linger => r.left
  | .camera => if r.reason = .request then r.givenBack else r
  | .off => r
  | .normal => r

theorem speedTestOf_out (s : State) (o q : Output) :
    (s.speedTestOf o).out q = if o = q ∧ s.speedEnds = true then (s.out o).sped else s.out q := by
  unfold State.speedTestOf OutputRec.sped
  by_cases ends : s.speedEnds = true
  · cases owner : (s.out o).owner with
    | linger => simp [ends, owner, afterView_out]
    | camera =>
      by_cases reason : (s.out o).reason = .request
      · simp [ends, owner, reason, toNormal_out]
      · simpa [ends, owner, reason] using out_same s o q
    | off => simpa [ends, owner] using out_same s o q
    | normal => simpa [ends, owner] using out_same s o q
  · simp [ends]

/-- A linger timer that has run out, of an output's record (R96, R100). -/
def OutputRec.lingered (r : OutputRec) (time : Nat) : OutputRec :=
  if r.owner = .linger ∧ reached r.linger time = true then r.left else r

theorem lingerDue_out (s : State) (o q : Output) :
    (s.lingerDue o).out q = if o = q then (s.out o).lingered s.comp.policy.lingerTime else s.out q := by
  unfold State.lingerDue OutputRec.lingered
  split
  · rw [afterView_out]
  · exact out_same s o q

/-! ### The reverse takeover and its end -/

/-- A frame that an output of a picture begins (R107). -/
theorem beginFrame_out (s : State) (o q : Output) : (s.beginFrame o).out q = if o = q then { s.out o with
    frame := some ⟨(s.out o).activeTiming, s.baseOf o, s.layersOf o⟩, lastFit := (s.baseOf o).fit } else s.out q := by
  unfold State.beginFrame
  dsimp only
  split
  · exact putOut_out s o _ q
  · exact putOut_out s o _ q

/-- A frame that begins is under way at the active timing (R107). -/
theorem beginFrame_shows (s : State) (o : Output) :
    ((s.beginFrame o).out o).activeTiming = (s.out o).activeTiming ∧ ((s.beginFrame o).out o).frame.isSome = true := by
  rw [beginFrame_out, if_pos rfl]
  exact ⟨rfl, rfl⟩

/-- A refresh event of one output leaves the records of the others. -/
theorem refresh_out_ne (s : State) {o q : Output} (other : o ≠ q) : (s.refresh o).out q = s.out q := by
  have ended : (s.endFrame o).out q = s.out q := by
    unfold State.endFrame
    dsimp only
    rw [out_of_changes (releaseScan_changes _ o) q, putOut_out_ne _ _ _ other]
  have paced : ∀ t : State, (t.handAndPace o).out q = t.out q := fun t => out_of_changes (handAndPace_changes t o) q
  have shown : ∀ t : State, (t.refreshLayers o).out q = t.out q := by
    intro t
    unfold State.refreshLayers
    dsimp only
    rw [out_of_changes (settleFlips_changes _) q, out_of_changes (flipWhere_changes _ _) q, putOut_out_ne _ _ _ other]
  have flipped : ∀ u : State, (if u.flipsGuide o then u.flipGuide else u).out q = u.out q := by
    intro u
    split
    · exact out_of_changes (flipGuide_changes u) q
    · rfl
  unfold State.refresh
  split
  · rfl
  · dsimp only
    rw [beginFrame_out, if_neg other, out_of_changes (refreshCamera_changes _ o) q, flipped, shown,
      out_of_changes (releaseGuide_changes _ o) q, out_of_changes (releaseCapture_changes _ o) q, paced, ended]

/-- A refresh event keeps who owns an output (R107). -/
theorem refresh_owner (s : State) (o q : Output) : ((s.refresh o).out q).enabled = (s.out q).enabled ∧
    ((s.refresh o).out q).owner = (s.out q).owner ∧ ((s.refresh o).out q).reason = (s.out q).reason ∧
    ((s.refresh o).out q).wasOff = (s.out q).wasOff := (refresh_changes s o).at .owners (by decide) q

/-- What a rise of REV_EFF makes of a record that was not OFF (R98). -/
def OutputRec.risen (r : OutputRec) (o : Output) : OutputRec :=
  match r.owner with
  | .off => r
  | .normal => if o = .centre ∨ r.mirror = true then { r with owner := .camera, reason := .reverse } else r
  | .linger => { r with owner := .camera, reason := .reverse, linger := none }
  | .camera => { r with reason := .reverse }

theorem riseOf_out_ne (s : State) {o q : Output} (other : o ≠ q) : (s.riseOf o).out q = s.out q := by
  have set : ∀ r, (s.setOwner o r .reverse).out q = s.out q := fun r => by rw [setOwner_out, if_neg other]
  unfold State.riseOf
  dsimp only
  split
  · split
    · unfold State.forceOn
      dsimp only
      rw [refresh_out_ne _ other, set]
    · rfl
  · split
    · exact set _
    · rfl
  · exact set _
  · split
    · rw [report_out, putOut_out_ne _ _ _ other]
    · rfl

/-- A rise of REV_EFF at an output that is ON, or at a headrest (R98). -/
theorem riseOf_out (s : State) (o : Output) (on : (s.out o).owner ≠ .off ∨ o ≠ .centre) : (s.riseOf o).out o = (s.out o).risen o := by
  unfold State.riseOf OutputRec.risen
  cases owner : (s.out o).owner with
  | off => simp [owner, on.resolve_left fun not => not owner]
  | normal =>
    by_cases taken : o = .centre ∨ (s.out o).mirror = true
    · simp [owner, taken, setOwner_out]
    · simp [owner, taken]
  | linger => simp [owner, setOwner_out]
  | camera =>
    by_cases reason : (s.out o).reason = .request
    · simp [reason, owner]
    · have reverse : (s.out o).reason = .reverse := by
        revert reason
        cases (s.out o).reason <;> simp
      simp only [owner, reason, if_false]
      rw [← owner, ← reverse]

/-- CENTRE forced on (R98): in CAMERA with reason REVERSE, was-off set, at its host timing with a frame under way. -/
theorem forceOn_out (s : State) (o : Output) : let r := (s.forceOn o).out o
    r.owner = .camera ∧ r.reason = .reverse ∧ r.enabled = true ∧ r.wasOff = true ∧ r.activeTiming = (s.out o).hostTiming ∧
      r.frame.isSome = true := by
  unfold State.forceOn
  dsimp only
  generalize e : s.setOwner o { s.out o with
    owner := .camera, reason := .reverse, enabled := true, wasOff := true, activeTiming := (s.out o).hostTiming } .reverse = t
  have record : t.out o = { s.out o with
      owner := .camera, reason := .reverse, enabled := true, wasOff := true, activeTiming := (s.out o).hostTiming } := by
    rw [← e, setOwner_out, if_pos rfl]
  obtain ⟨enabled, owner, reason, wasOff⟩ := refresh_owner t o o
  refine ⟨owner.trans (by rw [record]), reason.trans (by rw [record]), enabled.trans (by rw [record]),
    wasOff.trans (by rw [record]), ?_⟩
  have ended : ((t.endFrame o).out o).activeTiming = (s.out o).hostTiming := by
    unfold State.endFrame
    dsimp only
    rw [out_of_changes (releaseScan_changes _ o) o, putOut_out_same, record]
    rfl
  have shown : ∀ u : State, ((u.refreshLayers o).out o).activeTiming = (u.out o).activeTiming := by
    intro u
    unfold State.refreshLayers
    dsimp only
    rw [out_of_changes (settleFlips_changes _) o, out_of_changes (flipWhere_changes _ _) o, putOut_out_same]
  have flipped : ∀ u : State, (if u.flipsGuide o then u.flipGuide else u).out o = u.out o := by
    intro u
    split
    · exact out_of_changes (flipGuide_changes u) o
    · rfl
  unfold State.refresh
  rw [if_neg (by rw [record]; exact nofun)]
  dsimp only
  obtain ⟨timing, frame⟩ := beginFrame_shows (State.refreshCamera (if State.flipsGuide _ o then State.flipGuide _ else _) o) o
  refine ⟨timing.trans ?_, frame⟩
  rw [out_of_changes (refreshCamera_changes _ o) o, flipped, shown, out_of_changes (releaseGuide_changes _ o) o,
    out_of_changes (releaseCapture_changes _ o) o, out_of_changes (handAndPace_changes _ o) o, ended]

/-- What a fall of REV_EFF makes of a record (R99, R100): `still` when the linger time is 0, `fast` when SPEED ends views. -/
def OutputRec.fallen (r : OutputRec) (still fast : Bool) : OutputRec :=
  if r.owner = .camera ∧ r.reason = .reverse then
    if still || fast then r.left else { r with owner := .linger, linger := some 0 }
  else r

theorem left_lingering (r : OutputRec) : OutputRec.left { r with owner := .linger, linger := some 0 } = r.left := by
  unfold OutputRec.left
  rfl

theorem fallOf_out_ne (s : State) {o q : Output} (other : o ≠ q) : (s.fallOf o).out q = s.out q := by
  unfold State.fallOf
  dsimp only
  split
  · split
    · rw [afterView_out, if_neg other]
    · rw [speedTestOf_out, if_neg fun both => other both.1, setOwner_out, if_neg other]
  · rfl

theorem fallOf_out (s : State) (o : Output) :
    (s.fallOf o).out o = (s.out o).fallen (decide (s.comp.policy.lingerTime = 0)) s.speedEnds := by
  unfold State.fallOf OutputRec.fallen
  dsimp only
  split
  · rename_i view
    by_cases still : s.comp.policy.lingerTime = 0
    · simp only [still, ↓reduceIte, decide_true, Bool.true_or]
      rw [afterView_out, if_pos rfl]
    · simp only [still, ↓reduceIte, decide_false, Bool.false_or]
      have changed := setOwner_changes s o { s.out o with owner := .linger, linger := some 0 } .reverseEnd ⟨rfl, rfl, rfl, rfl⟩
      rw [speedTestOf_out, speedEnds_of_changes changed, setOwner_out, if_pos rfl]
      by_cases fast : s.speedEnds = true
      · rw [if_pos ⟨rfl, fast⟩, if_pos fast]
        exact left_lingering _
      · rw [if_neg fun both => fast both.2, if_neg fast]
  · rfl

end Sys2Proof.Machine
end

section
/-! SUPPORT. REV_EFF: what evaluates it, what leaves it, and what shows it (R44 to R46, R97, R98). -/

namespace Sys2Proof.Machine

set_option Elab.async false

open Sys2Proof

/-! ### The receiver that a frame leaves alone -/

/-- A change that names no piece of the receiver keeps it. -/
theorem recv_of_changes {ps : List Piece} {s t : State} (c : Changes ps s t)
    (out : ([Piece.rules, .signals, .reverse, .lostLatch, .revEff, .busCounts].all fun p => !ps.contains p) = true := by decide) :
    t.recv = s.recv := by
  have absent : ∀ p ∈ [Piece.rules, .signals, .reverse, .lostLatch, .revEff, .busCounts], Piece.same s t p := by
    intro p listed
    exact c.at p (by simpa using List.all_eq_true.1 out p listed)
  have rules : t.recv.rules = s.recv.rules := absent .rules (by decide)
  have signals : t.recv.signals = s.recv.signals := absent .signals (by decide)
  obtain ⟨raw, line, debounce, time, source⟩ := absent .reverse (by decide)
  have latch : t.recv.lostLatch = s.recv.lostLatch := absent .lostLatch (by decide)
  have rev : t.recv.revEff = s.recv.revEff := absent .revEff (by decide)
  obtain ⟨rate, good, errors⟩ := absent .busCounts (by decide)
  revert rules signals raw line debounce time source latch rev rate good errors
  generalize t.recv = x
  generalize s.recv = y
  cases x
  cases y
  intros
  simp_all

theorem handRevEff_recv (s : State) (rev : Bool) : (s.handRevEff rev).recv = s.recv := recv_of_changes (handRevEff_changes s rev)

/-- The bus term reads the receiver alone (R44). -/
theorem busTerm_of_recv {s t : State} (same : t.recv = s.recv) : t.busTerm = s.busTerm := by
  unfold State.busTerm State.signal
  rw [same]

/-! ### The evaluation of REV_EFF and the test of the latch (R44, R45) -/

/-- REV_EFF after it has been evaluated is what the source and the terms give; nothing else of the receiver changes (R45). -/
theorem evalRev_recv (s : State) (fall : RevContribution) :
    (s.evalRev fall).recv = { s.recv with revEff := revOf s.recv.source s.recv.line s.busTerm } := by
  unfold State.evalRev
  dsimp only
  split
  · rename_i same
    rw [same]
  · rw [handRevEff_recv, report_recv]

theorem latchTest_recv (s : State) : s.latchTest.recv = { s.recv with
    lostLatch := s.recv.lostLatch && !(decide ((s.signal .reverse).state = .lost) && s.speedEnds) } := by
  unfold State.latchTest
  by_cases lost : (s.signal .reverse).state = .lost
  · by_cases ends : s.speedEnds = true
    · rw [if_pos ⟨lost, ends⟩]
      simp [lost, ends]
    · rw [if_neg fun both => ends both.2]
      simp [ends]
  · rw [if_neg fun both => lost both.1]
    simp [lost]

/-- The LOST latch is clear where SPEED ends it (R44). -/
def LatchTested (s : State) : Prop := (s.signal .reverse).state = .lost → s.speedEnds = true → s.recv.lostLatch = false

theorem latchTested_of_same {s t : State} (recv : t.recv = s.recv) (speed : t.comp.policy.lingerSpeed = s.comp.policy.lingerSpeed)
    (h : LatchTested s) : LatchTested t := by
  unfold LatchTested State.speedEnds State.signal at h ⊢
  rw [recv, speed]
  exact h

theorem LatchTested.of_changes {ps : List Piece} {s t : State} (h : LatchTested s) (c : Changes ps s t)
    (signals : ps.contains .signals = false := by decide) (latch : ps.contains .lostLatch = false := by decide)
    (policy : ps.contains .policy = false := by decide) : LatchTested t := by
  have tables : t.recv.signals = s.recv.signals := c.at .signals signals
  have latched : t.recv.lostLatch = s.recv.lostLatch := c.at .lostLatch latch
  unfold LatchTested
  rw [speedEnds_of_changes c signals policy, latched]
  unfold State.signal
  rw [tables]
  exact h

/-- The latch stays tested while every signal keeps its value and state, or leaves FRESH and LOST alone. -/
theorem LatchTested.of_signals {s t : State} (h : LatchTested s) (latch : t.recv.lostLatch = s.recv.lostLatch)
    (policy : t.comp.policy = s.comp.policy)
    (signals : ∀ j, ((t.signal j).state = (s.signal j).state ∧ (t.signal j).value = (s.signal j).value) ∨
      ((t.signal j).state ≠ .lost ∧ (t.signal j).state ≠ .fresh)) : LatchTested t := by
  intro lost ends
  rw [latch]
  have wasLost : (s.signal .reverse).state = .lost := by
    rcases signals .reverse with ⟨state, -⟩ | ⟨not, -⟩
    · rw [← state]; exact lost
    · exact absurd lost not
  refine h wasLost ?_
  unfold State.speedEnds at ends ⊢
  rw [policy] at ends
  simp only [Bool.and_eq_true, decide_eq_true_eq] at ends ⊢
  rcases signals .speed with ⟨state, value⟩ | ⟨-, not⟩
  · rw [← state, ← value]; exact ends
  · exact absurd ends.1 not

theorem latchTest_tested (s : State) : LatchTested s.latchTest := by
  intro lost ends
  have same := latchTest_changes s
  have tables : s.latchTest.recv.signals = s.recv.signals := same.at .signals
  have wasLost : (s.signal .reverse).state = .lost := by
    unfold State.signal at lost ⊢
    rw [← tables]; exact lost
  rw [speedEnds_of_changes same] at ends
  rw [latchTest_recv]
  simp [wasLost, ends]

theorem latchTest_of_tested {s : State} (h : LatchTested s) : s.latchTest = s := by
  unfold State.latchTest
  split
  · rename_i both
    rw [← h both.1 both.2]
  · rfl

/-- After an evaluation REV_EFF is settled, when the latch was tested before it (R44, R45). -/
theorem evalRev_settled {s : State} (h : LatchTested s) (fall : RevContribution) : ReverseSettled (s.evalRev fall) := by
  have recv := evalRev_recv s fall
  have bus : (s.evalRev fall).busTerm = s.busTerm := by
    unfold State.busTerm State.signal
    rw [recv]
  refine ⟨?_, h.of_changes (evalRev_changes s fall)⟩
  rw [bus, recv]

/-- An evaluation of a settled REV_EFF changes nothing. -/
theorem evalRev_of_settled {s : State} (h : ReverseSettled s) (fall : RevContribution) : s.evalRev fall = s := by
  unfold State.evalRev
  dsimp only
  rw [if_pos h.1.symm]

/-- REV_EFF is settled as the receiver and the linger speed have it. -/
theorem settled_of_same {s t : State} (recv : t.recv = s.recv) (speed : t.comp.policy.lingerSpeed = s.comp.policy.lingerSpeed)
    (h : ReverseSettled s) : ReverseSettled t :=
  ⟨by rw [busTerm_of_recv recv, recv]; exact h.1, latchTested_of_same recv speed h.2⟩

theorem settled_of_changes {ps : List Piece} {s t : State} (c : Changes ps s t) (h : ReverseSettled s)
    (signals : ps.contains .signals = false := by decide) (reverse : ps.contains .reverse = false := by decide)
    (latch : ps.contains .lostLatch = false := by decide) (rev : ps.contains .revEff = false := by decide)
    (policy : ps.contains .policy = false := by decide) : ReverseSettled t := by
  refine ⟨?_, LatchTested.of_changes h.2 c signals latch policy⟩
  have tables : t.recv.signals = s.recv.signals := c.at .signals signals
  have latched : t.recv.lostLatch = s.recv.lostLatch := c.at .lostLatch latch
  have eff : t.recv.revEff = s.recv.revEff := c.at .revEff rev
  obtain ⟨-, line, -, -, source⟩ := c.at .reverse reverse
  unfold State.busTerm State.signal
  rw [tables, latched, eff, line, source]
  exact h.1

/-! ### CENTRE in its REVERSE view (R97, R98) -/

/-- CENTRE is in CAMERA with reason REVERSE. -/
def CentreShown (s : State) : Prop := (s.out .centre).owner = .camera ∧ (s.out .centre).reason = .reverse

theorem CentreShown.of_changes {ps : List Piece} {s t : State} (h : CentreShown s) (c : Changes ps s t)
    (owners : ps.contains .owners = false := by decide) : CentreShown t := by
  obtain ⟨-, owner, reason, -⟩ := c.at .owners owners .centre
  exact ⟨owner.trans h.1, reason.trans h.2⟩

/-- Outputs are dealt with one after another, in their order. -/
theorem outputs_foldl (f : State → Output → State) (s : State) : outputs.foldl f s = f (f (f s .centre) .rearL) .rearR := rfl

theorem risen_shows {r : OutputRec} (on : r.owner ≠ .off) : (r.risen .centre).owner = .camera ∧ (r.risen .centre).reason = .reverse := by
  unfold OutputRec.risen
  cases owner : r.owner with
  | off => exact absurd owner on
  | normal => exact ⟨rfl, rfl⟩
  | linger => exact ⟨rfl, rfl⟩
  | camera => exact ⟨rfl, rfl⟩

/-- A rise of REV_EFF shows CENTRE's REVERSE view, from any owner state (R98). -/
theorem viewRise_shows (s : State) : CentreShown s.viewRise := by
  have centre : (s.viewRise).out .centre = (s.riseOf .centre).out .centre := by
    unfold State.viewRise
    rw [outputs_foldl, riseOf_out_ne _ (by decide), riseOf_out_ne _ (by decide)]
  unfold CentreShown
  rw [centre]
  by_cases off : (s.out .centre).owner = .off
  · have forced : s.riseOf .centre = s.forceOn .centre := by
      unfold State.riseOf
      simp [off]
    obtain ⟨owner, reason, -⟩ := forceOn_out s .centre
    rw [forced]
    exact ⟨owner, reason⟩
  · rw [riseOf_out s .centre (.inl off)]
    exact risen_shows off

theorem handRevEff_shows {s : State} (running : s.part.phase = .running) : CentreShown (s.handRevEff true) := by
  have starting : s.isStarting = false := by simp [State.isStarting, running]
  have still : s.viewRise.isStarting = false := by
    have : s.viewRise.part = s.part := (viewRise_changes s).at .part
    unfold State.isStarting
    rw [this]
    exact starting
  unfold State.handRevEff
  simp only [starting, still, Bool.false_eq_true, if_false, if_true]
  exact ((viewRise_shows s).of_changes (chimeRise_changes _)).of_changes (handMixerRev_changes _ _)

theorem reverseShown_of_changes {ps : List Piece} {s t : State} (h : ReverseShown s) (c : Changes ps s t)
    (centre : CentreShown s → CentreShown t) (part : ps.contains .part = false := by decide)
    (rev : ps.contains .revEff = false := by decide) : ReverseShown t := by
  have phase : t.part = s.part := c.at .part part
  have eff : t.recv.revEff = s.recv.revEff := c.at .revEff rev
  intro running set
  rw [phase] at running
  rw [eff] at set
  exact centre (h running set)

/-- An evaluation of REV_EFF keeps CENTRE's view where REV_EFF stays set, and takes it where REV_EFF rises (R46, R97, R98). -/
theorem evalRev_shown {s : State} (h : ReverseShown s) (fall : RevContribution) : ReverseShown (s.evalRev fall) := by
  unfold State.evalRev
  dsimp only
  generalize revOf s.recv.source s.recv.line s.busTerm = rev
  generalize (if rev = true then riseSource s.recv.line s.busTerm else fall) = source
  split
  · exact h
  · intro running set
    have part : (State.handRevEff (State.report { s with recv := { s.recv with revEff := rev } } (.reverseChanged rev source)) rev).part =
        s.part := (handRevEff_changes _ _).at .part
    rw [part] at running
    rw [handRevEff_recv, report_recv] at set
    have risen : rev = true := set
    subst risen
    exact handRevEff_shows (s := State.report _ _) running

end Sys2Proof.Machine
end

section
/-! PROOFS. Every step keeps REV_EFF settled, CENTRE's REVERSE view while it is set, and one rule per target (R39, R44, R45, R97). -/

namespace Sys2Proof.Machine

set_option Elab.async false

open Sys2Proof

/-- REV_EFF is settled and shown, and no two enabled rules name one target (R39, R44, R45, R97). -/
structure ReverseLawful (s : State) : Prop where
  settled : ReverseSettled s
  shown : ReverseShown s
  unique : TargetsUnique s

/-! ### What keeps the law -/

theorem targetsUnique_of_rules {s t : State} (h : TargetsUnique s)
    (rules : ∀ n, (t.rule n).enabled = (s.rule n).enabled ∧ (t.rule n).target = (s.rule n).target) : TargetsUnique t := by
  intro m n on on' same
  rw [(rules m).1] at on
  rw [(rules n).1] at on'
  rw [(rules m).2, (rules n).2] at same
  exact h m n on on' same

theorem targetsUnique_of_changes {ps : List Piece} {s t : State} (h : TargetsUnique s) (c : Changes ps s t)
    (rules : ps.contains .rules = false := by decide) : TargetsUnique t := by
  have tables : t.recv.rules = s.recv.rules := c.at .rules rules
  refine targetsUnique_of_rules h fun n => ?_
  unfold State.rule
  rw [tables]
  exact ⟨rfl, rfl⟩

/-- A rule stored in the place of another, of a target that no other enabled rule names, keeps one rule per target (R39). -/
theorem stored_unique {s : State} (h : TargetsUnique s) (n : Fin 16) (r : Rule)
    (free : r.enabled = true → ∀ m, m ≠ n → (s.rule m).enabled = true → (s.rule m).target ≠ r.target) : TargetsUnique (stored s n r) := by
  intro a b on on' same
  simp only [stored_rule] at on on' same
  by_cases ha : n = a
  · by_cases hb : n = b
    · exact ha.symm.trans hb
    · rw [if_pos ha] at on same
      rw [if_neg hb] at on' same
      exact absurd same.symm (free on b (Ne.symm hb) on')
  · rw [if_neg ha] at on same
    by_cases hb : n = b
    · rw [if_pos hb] at on' same
      exact absurd same (free on' a (Ne.symm ha) on)
    · rw [if_neg hb] at on' same
      exact h a b on on' same

/-- A target that is not taken is named by no other enabled rule (R39). -/
theorem targetTaken_false {s : State} {n : Fin 16} {i : SignalId} : targetTaken s.recv.rules n i = false ↔
    ∀ m, m ≠ n → (s.rule m).enabled = true → (s.rule m).target ≠ i := by
  unfold targetTaken State.rule
  simp only [List.any_eq_false, List.mem_finRange, true_implies, Bool.and_eq_true, decide_eq_true_eq, not_and, ne_eq]
  exact ⟨fun h m other on => h m ⟨other, on⟩, fun h m both => h m both.1 both.2⟩

section
variable {ps : List Piece} {s t : State} (h : ReverseLawful s) (c : Changes ps s t)
include h c

/-- A change of no piece of REV_EFF and the rules keeps the law, when it keeps CENTRE's REVERSE view. -/
theorem ReverseLawful.of_views (centre : CentreShown s → CentreShown t)
    (out : ([Piece.part, .rules, .signals, .reverse, .lostLatch, .revEff, .policy].all fun p => !ps.contains p) = true := by decide) :
    ReverseLawful t := by
  have absent : ∀ p ∈ [Piece.part, .rules, .signals, .reverse, .lostLatch, .revEff, .policy], ps.contains p = false :=
    fun p listed => by simpa using List.all_eq_true.1 out p listed
  exact ⟨settled_of_changes c h.settled (absent _ (by decide)) (absent _ (by decide)) (absent _ (by decide)) (absent _ (by decide))
      (absent _ (by decide)),
    reverseShown_of_changes h.shown c centre (absent _ (by decide)) (absent _ (by decide)),
    targetsUnique_of_changes h.unique c (absent _ (by decide))⟩

/-- A change that leaves the owners alone too keeps the law. -/
theorem ReverseLawful.of_changes (owners : ps.contains .owners = false := by decide)
    (out : ([Piece.part, .rules, .signals, .reverse, .lostLatch, .revEff, .policy].all fun p => !ps.contains p) = true := by decide) :
    ReverseLawful t := h.of_views c (fun shown => shown.of_changes c owners) out

end

/-- An evaluation of REV_EFF makes the law, once the latch is tested (R44, R45). -/
theorem evalRev_lawful {s : State} (tested : LatchTested s) (shown : ReverseShown s) (unique : TargetsUnique s)
    (fall : RevContribution) : ReverseLawful (s.evalRev fall) :=
  ⟨evalRev_settled tested fall, evalRev_shown shown fall, targetsUnique_of_changes unique (evalRev_changes s fall)⟩

theorem latchEval_lawful {s : State} (shown : ReverseShown s) (unique : TargetsUnique s) (fall : RevContribution) :
    ReverseLawful ((s.latchTest).evalRev fall) := by
  have changed := latchTest_changes s
  exact evalRev_lawful (latchTest_tested s) (reverseShown_of_changes shown changed fun h => h.of_changes changed)
    (targetsUnique_of_changes unique changed) fall

/-- A request keeps what its block keeps and a change of the request list keeps. -/
theorem request_keeps {P : State → Prop} {code : Byte} {block : State → State × Reply}
    (quiet : ∀ {s t : State}, Changes [.requests] s t → P s → P t) (acts : ∀ t, P t → P (block t).1) {s : State} (h : P s) :
    P (request code block s) := by
  have taken := quiet (taking_changes s code) h
  have acted := acts _ taken
  unfold request
  dsimp only
  split
  · split
    · rename_i e
      rw [e] at acted
      exact quiet (answer_changes _ _ _ _) acted
    · rename_i e
      rwa [e] at acted
  · exact taken

theorem requestWith_keeps {α : Type} {P : State → Prop} {code : Byte} {block : α → State → State × Reply}
    (quiet : ∀ {s t : State}, Changes [.requests] s t → P s → P t) (acts : ∀ f t, P t → P (block f t).1) (b : Body α) {s : State}
    (h : P s) : P (requestWith code b block s) := by
  refine request_keeps quiet (fun t ht => ?_) h
  cases b with
  | whole f => exact acts f t ht
  | short => exact ht

theorem frameEnds_keeps {P : State → Prop} {take : State → State} (quiet : ∀ {s t : State}, Changes [.requests] s t → P s → P t)
    (takes : ∀ t, P t → P (take t)) {s : State} (h : P s) : P (s.frameEnds take) := by
  unfold State.frameEnds
  split
  · split
    · exact h
    · exact takes _ (quiet (setTransaction_changes s _) h)
  · exact takes s h

theorem reverseLawful_quiet {s t : State} (c : Changes [.requests] s t) (h : ReverseLawful s) : ReverseLawful t := h.of_changes c

/-! ### The views (R96, R99 to R105) -/

theorem speedTestOf_centre {s : State} (o : Output) (h : CentreShown s) : CentreShown (s.speedTestOf o) := by
  obtain ⟨owner, reason⟩ := h
  have same : (s.speedTestOf o).out .centre = s.out .centre := by
    rw [speedTestOf_out]
    split
    · rename_i both
      rw [both.1]
      unfold OutputRec.sped
      simp [owner, reason]
    · rfl
  unfold CentreShown
  rw [same]
  exact ⟨owner, reason⟩

theorem speedTest_centre {s : State} (h : CentreShown s) : CentreShown s.speedTest :=
  foldl_keeps (P := CentreShown) (fun _ o h => speedTestOf_centre o h) _ h

theorem handSpeed_centre {s : State} (h : CentreShown s) : CentreShown s.handSpeed :=
  speedTest_centre (h.of_changes (suppressionTest_changes s))

theorem lingerDue_centre {s : State} (o : Output) (h : CentreShown s) : CentreShown (s.lingerDue o) := by
  obtain ⟨owner, reason⟩ := h
  have same : (s.lingerDue o).out .centre = s.out .centre := by
    rw [lingerDue_out]
    split
    · subst_vars
      unfold OutputRec.lingered
      simp [owner]
    · rfl
  unfold CentreShown
  rw [same]
  exact ⟨owner, reason⟩

theorem handUpdates_centre {s : State} (updated : List SignalId) (mask : BitVec 7) (h : CentreShown s) :
    CentreShown (s.handUpdates updated mask) := by
  unfold State.handUpdates
  have steered : CentreShown (if updated.contains .steerAngle then s.steerUpdated (decide (mask &&& signalBit .steerAngle ≠ 0)) else s) := by
    split
    · exact h.of_changes (steerUpdated_changes s _)
    · exact h
  dsimp only
  generalize (if updated.contains .steerAngle then s.steerUpdated (decide (mask &&& signalBit .steerAngle ≠ 0)) else s) = a at steered ⊢
  have sped : CentreShown (if updated.contains .speed then a.handSpeed else a) := by
    split
    · exact handSpeed_centre steered
    · exact steered
  split
  · exact sped.of_changes (parkEvent_changes _)
  · exact sped

theorem handStateChange_centre {s : State} (i : SignalId) (h : CentreShown s) : CentreShown (s.handStateChange i) := by
  cases i with
  | reverse => exact h
  | steerAngle =>
    unfold State.handStateChange
    dsimp only
    split
    · exact h.of_changes (steerLost_changes s)
    · exact h.of_changes (steerLost_changes s)
    · exact h
    · exact h
  | speed => exact handSpeed_centre h
  | distOuterL | distInnerL | distInnerR | distOuterR => exact h.of_changes (parkEvent_changes s)

theorem handUpdates_lawful {s : State} (h : ReverseLawful s) (updated : List SignalId) (mask : BitVec 7) :
    ReverseLawful (s.handUpdates updated mask) := h.of_views (handUpdates_changes s updated mask) (handUpdates_centre updated mask)

theorem handStateChange_lawful {s : State} (h : ReverseLawful s) (i : SignalId) : ReverseLawful (s.handStateChange i) :=
  h.of_views (handStateChange_changes s i) (handStateChange_centre i)

theorem lingerDue_lawful {s : State} (h : ReverseLawful s) (o : Output) : ReverseLawful (s.lingerDue o) :=
  h.of_views (lingerDue_changes s o) (lingerDue_centre o)

/-- SET OUTPUT never takes CENTRE out of a REVERSE view (R104, R105). -/
theorem setOutput_centre {s : State} (o : Output) (f : SetOutput) (x : Option StreamId) (h : CentreShown s) :
    CentreShown (s.setOutput o f x) := by
  obtain ⟨owner, reason⟩ := h
  by_cases centre : o = .centre
  · subst centre
    have kept : ∀ r : OutputRec, r.owner = .camera → r.reason = .reverse → CentreShown (s.putOut .centre r) := by
      intro r camera reverse
      unfold CentreShown
      rw [putOut_out_same]
      exact ⟨camera, reverse⟩
    have stored : (SetOutput.store f x (s.out .centre)).owner = .camera := owner
    unfold State.setOutput
    simp only [stored]
    split
    · rename_i off _
      cases off
    · rename_i normal _
      cases normal
    · exact kept _ rfl reason
    · rename_i linger _
      cases linger
    · exact kept _ owner reason
  · have same : (s.setOutput o f x).out .centre = s.out .centre := by
      unfold State.setOutput
      dsimp only
      split
      · rw [refresh_out_ne _ centre, setOwner_out, if_neg centre]
      · rw [turnOff_out, if_neg centre, putOut_out_ne _ _ _ centre]
      · rw [putOut_out_ne _ _ _ centre]
      · rw [putOut_out_ne _ _ _ centre]
      · rw [putOut_out_ne _ _ _ centre]
    unfold CentreShown
    rw [same]
    exact ⟨owner, reason⟩

theorem showOn_centre {s : State} (set : OutputSet) (o : Output) (h : CentreShown s) : CentreShown (s.showOn set o) := by
  obtain ⟨owner, reason⟩ := h
  unfold State.showOn CentreShown
  dsimp only
  split
  · rename_i normal
    have other : o ≠ .centre := by
      rintro rfl
      rw [owner] at normal
      exact nomatch normal.2
    rw [setOwner_out, if_neg other]
    exact ⟨owner, reason⟩
  · exact ⟨owner, reason⟩

theorem releaseOn_centre {s : State} (set : OutputSet) (o : Output) (h : CentreShown s) : CentreShown (s.releaseOn set o) := by
  obtain ⟨owner, reason⟩ := h
  by_cases centre : o = .centre
  · subst centre
    have kept : s.releaseOn set .centre = s := by
      unfold State.releaseOn
      simp [owner, reason]
    rw [kept]
    exact ⟨owner, reason⟩
  · have same : (s.releaseOn set o).out .centre = s.out .centre := by
      unfold State.releaseOn
      dsimp only
      split
      · split
        · rw [afterView_out, if_neg centre]
        · split
          · rw [toNormal_out, if_neg centre]
          · rfl
        · rfl
        · rfl
      · rfl
    unfold CentreShown
    rw [same]
    exact ⟨owner, reason⟩

theorem execSetOutput_lawful (b : Body SetOutput) {s t : State} (h : ReverseLawful s) (e : execSetOutput b s = .next t) :
    ReverseLawful t := by
  cases e
  refine requestWith_keeps reverseLawful_quiet (fun f t ht => ?_) b h
  unfold withOutput
  split
  · exact ht
  · dsimp only
    split
    · exact ht
    · split
      · exact ht
      · split
        · exact ht
        · exact ht.of_views (setOutput_changes t _ f _) (setOutput_centre _ f _)

theorem execShowCamera_lawful (b : Body Members) {s t : State} (h : ReverseLawful s) (e : execShowCamera b s = .next t) :
    ReverseLawful t := by
  cases e
  refine requestWith_keeps reverseLawful_quiet (fun f t ht => ?_) b h
  split
  · exact ht
  · split
    · exact ht
    · exact foldl_keeps (P := ReverseLawful) (fun u o hu => hu.of_views (showOn_changes f.set u o) (showOn_centre f.set o)) outputs ht

theorem execReleaseView_lawful (b : Body Members) {s t : State} (h : ReverseLawful s) (e : execReleaseView b s = .next t) :
    ReverseLawful t := by
  cases e
  refine requestWith_keeps reverseLawful_quiet (fun f t ht => ?_) b h
  split
  · exact ht
  · exact foldl_keeps (P := ReverseLawful) (fun u o hu => hu.of_views (releaseOn_changes f.set u o) (releaseOn_centre f.set o)) outputs ht

/-- SET VIEW POLICY tests the latch and evaluates REV_EFF where the linger speed changes (R44, R45, R96). -/
theorem setPolicy_lawful {s : State} (h : ReverseLawful s) (f : SetViewPolicy) : ReverseLawful (s.setPolicy f) := by
  have stored := policy_changes s (SetViewPolicy.store f s.comp.policy)
  have shown := reverseShown_of_changes h.shown stored fun c => c.of_changes stored
  have unique := targetsUnique_of_changes h.unique stored
  unfold State.setPolicy
  dsimp only
  generalize limit : (SetViewPolicy.store f s.comp.policy).filmSpeedLimit = n
  generalize e : ({ s with comp := { s.comp with policy := SetViewPolicy.store f s.comp.policy } } : State) = t at stored shown unique
  have lingered : ReverseShown (if f.lingerTime.isSome then outputs.foldl State.lingerDue t else t) ∧
      TargetsUnique (if f.lingerTime.isSome then outputs.foldl State.lingerDue t else t) := by
    split
    · exact foldl_keeps (P := fun u => ReverseShown u ∧ TargetsUnique u) (fun u o hu =>
        ⟨reverseShown_of_changes hu.1 (lingerDue_changes u o) (lingerDue_centre o), targetsUnique_of_changes hu.2 (lingerDue_changes u o)⟩)
        outputs ⟨shown, unique⟩
    · exact ⟨shown, unique⟩
  have tested : ∀ u : State, ReverseLawful u → ReverseLawful (if n = s.comp.policy.filmSpeedLimit then u else u.suppressionTest) := by
    intro u hu
    split
    · exact hu
    · exact hu.of_changes (suppressionTest_changes u)
  apply tested
  split
  · rename_i speed
    have settled : ReverseSettled t := settled_of_same (by rw [← e]) (by rw [← e]; exact speed) h.settled
    have lawful : ReverseLawful t := ⟨settled, shown, unique⟩
    split
    · exact foldl_keeps (P := ReverseLawful) (fun u o hu => lingerDue_lawful hu o) outputs lawful
    · exact lawful
  · have evaluated := latchEval_lawful lingered.1 lingered.2 .bus
    exact evaluated.of_views (speedTest_changes _) speedTest_centre

theorem execSetViewPolicy_lawful (b : Body SetViewPolicy) {s t : State} (h : ReverseLawful s) (e : execSetViewPolicy b s = .next t) :
    ReverseLawful t := by
  cases e
  refine requestWith_keeps reverseLawful_quiet (fun f t ht => ?_) b h
  split
  · exact ht
  · exact setPolicy_lawful ht f

/-! ### The vehicle's signals and the reverse line (chapter 2) -/

/-- A rule offered a frame keeps its target and stays enabled as it was (R27, R30 to R34). -/
theorem apply_kept (r : Rule) (data : List Byte) : (r.apply data).1.enabled = r.enabled ∧ (r.apply data).1.target = r.target := by
  unfold Rule.apply
  split
  · exact ⟨rfl, rfl⟩
  · dsimp only
    split
    · exact ⟨rfl, rfl⟩
    · split <;> exact ⟨rfl, rfl⟩

theorem applyRules_unique {s : State} (h : TargetsUnique s) (extended : Bool) (identifier : Nat) (data : List Byte) :
    TargetsUnique (s.applyRules extended identifier data).state := by
  refine foldl_keeps (P := fun a => TargetsUnique (Applied.state a)) (fun a n ha => ?_) (List.finRange 16)
    (a := { state := s, updated := [], mask := 0 }) h
  have put : TargetsUnique (a.state.putRule n ((a.state.rule n).apply data).1) := by
    refine targetsUnique_of_rules ha fun m => ?_
    rw [putRule_rule]
    split
    · subst_vars; exact apply_kept _ _
    · exact ⟨rfl, rfl⟩
  unfold Applied.offer
  dsimp only
  split
  · split
    · exact put
    · exact targetsUnique_of_changes put (putSignal_changes _ _ _)
  · exact ha

theorem receive_lawful {s : State} (h : ReverseLawful s) (x : Reception) : ReverseLawful (s.receive x) := by
  cases x with
  | faulty => exact ⟨h.settled, h.shown, h.unique⟩
  | remote => exact ⟨h.settled, h.shown, h.unique⟩
  | data extended identifier dlc bytes =>
    unfold State.receive
    dsimp only
    have counted : ReverseLawful { s with recv := { s.recv with goodFrames := satInc s.recv.goodFrames } } :=
      ⟨h.settled, h.shown, h.unique⟩
    generalize ({ s with recv := { s.recv with goodFrames := satInc s.recv.goodFrames } } : State) = t at counted ⊢
    split
    · have changed := (((applyRules_changes t extended identifier bytes).mono (qs := [.rules, .signals, .notices])).trans
        ((reportSignals_changes _ (t.applyRules extended identifier bytes).mask).mono))
      have shown := reverseShown_of_changes counted.shown changed fun c => c.of_changes changed
      have unique := targetsUnique_of_changes (applyRules_unique counted.unique extended identifier bytes)
        (reportSignals_changes _ (t.applyRules extended identifier bytes).mask)
      exact handUpdates_lawful (latchEval_lawful shown unique .bus) _ _
    · exact counted

/-- The signals of a state with one replaced keep the latch tested, unless the new one is FRESH or LOST. -/
theorem putSignal_tested {s : State} (h : LatchTested s) (i : SignalId) (x : Signal) (aged : x.state ≠ .lost ∧ x.state ≠ .fresh) :
    LatchTested (s.putSignal i x) := by
  refine h.of_signals rfl rfl fun j => ?_
  rw [putSignal_signal]
  split
  · exact .inr aged
  · exact .inl ⟨rfl, rfl⟩

theorem signalHeld_lawful {s : State} (h : ReverseLawful s) (i : SignalId) : ReverseLawful (s.signalHeld i) := by
  unfold State.signalHeld
  dsimp only
  split
  · have changed := ((putSignal_changes s i { s.signal i with state := .held }).mono (qs := [.signals, .notices])).trans
      ((reportSignals_changes _ (signalBit i)).mono)
    have tested := (putSignal_tested h.settled.2 i { s.signal i with state := .held } ⟨nofun, nofun⟩).of_changes
      (reportSignals_changes _ (signalBit i))
    exact handStateChange_lawful (evalRev_lawful tested (reverseShown_of_changes h.shown changed fun c => c.of_changes changed)
      (targetsUnique_of_changes h.unique changed) .bus) i
  · exact h

theorem signalLost_lawful {s : State} (h : ReverseLawful s) (i : SignalId) : ReverseLawful (s.signalLost i) := by
  unfold State.signalLost
  dsimp only
  split
  · have lost := (putSignal_changes s i { s.signal i with state := .lost, value := safeValue i }).mono
      (qs := [.signals, .lostLatch, .notices])
    have latched := lost.trans (Changes.ite (c := i = .reverse) ((setLatch_changes _ (decide ((s.signal i).value = 1))).mono) (.refl _ _))
    have changed := latched.trans ((reportSignals_changes _ (signalBit i)).mono)
    exact handStateChange_lawful (latchEval_lawful (reverseShown_of_changes h.shown changed fun c => c.of_changes changed)
      (targetsUnique_of_changes h.unique changed) .bus) i
  · exact h

/-- Signals made NONE leave the latch tested (R39, R40). -/
theorem clearSignals_lawful {s : State} (tested : LatchTested s) (shown : ReverseShown s) (unique : TargetsUnique s)
    (is : List SignalId) : ReverseLawful (s.clearSignals is) := by
  unfold State.clearSignals
  dsimp only
  have cleared : Changes [.signals] s (is.foldl (fun u i => u.putSignal i ((u.signal i).toNone i)) s) :=
    Changes.foldl (fun t i => putSignal_changes t i _) is s
  have still : LatchTested (is.foldl (fun u i => u.putSignal i ((u.signal i).toNone i)) s) :=
    foldl_keeps (P := LatchTested) (fun u i hu => putSignal_tested hu i _ (by simp [Signal.toNone])) is tested
  generalize is.foldl (fun u i => u.putSignal i ((u.signal i).toNone i)) s = t at cleared still ⊢
  generalize is.foldl (fun m i => m ||| s.noneBit i) 0 = mask
  have changed := (cleared.mono (qs := [.signals, .notices])).trans ((reportSignals_changes t mask).mono)
  exact foldl_keeps (P := ReverseLawful) (fun u i hu => handStateChange_lawful hu i) _
    (evalRev_lawful (still.of_changes (reportSignals_changes t mask)) (reverseShown_of_changes shown changed fun c => c.of_changes changed)
      (targetsUnique_of_changes unique changed) .bus)

/-- Storing a rule leaves the latch tested: no signal's value or state changes. -/
theorem stored_tested {s : State} (h : LatchTested s) (n : Fin 16) (r : Rule) : LatchTested (stored s n r) := by
  have rest := stored_rest s n r
  refine h.of_signals (by rw [rest]) (by rw [rest]) fun j => .inl ?_
  rw [stored_signal]
  split <;> exact ⟨rfl, rfl⟩

theorem stored_shown {s : State} (h : ReverseShown s) (n : Fin 16) (r : Rule) : ReverseShown (stored s n r) := by
  rw [stored_rest]
  exact h

theorem execSetRule_lawful (b : Body SetRule) {s t : State} (h : ReverseLawful s) (e : execSetRule b s = .next t) : ReverseLawful t := by
  cases e
  refine requestWith_keeps reverseLawful_quiet (fun f t ht => ?_) b h
  split
  · exact ht
  · rename_i n i order _
    split
    · exact ht
    · rename_i free
      have free := targetTaken_false.1 (Bool.eq_false_iff.2 free)
      exact clearSignals_lawful (stored_tested ht.settled.2 n _) (stored_shown ht.shown n _)
        (stored_unique ht.unique n (SetRule.toRule f i order) fun _ => free) _

theorem execClearRule_lawful (b : Body Nat) {s t : State} (h : ReverseLawful s) (e : execClearRule b s = .next t) : ReverseLawful t := by
  cases e
  refine requestWith_keeps reverseLawful_quiet (fun k t ht => ?_) b h
  split
  · exact ht
  · rename_i n _
    exact clearSignals_lawful (stored_tested ht.settled.2 n .cleared) (stored_shown ht.shown n .cleared)
      (stored_unique ht.unique n .cleared nofun) _

/-- The reverse line and source settled and REV_EFF evaluated: nothing that the latch test reads has changed (R43, R47). -/
theorem evalLine_lawful {s t : State} (h : ReverseLawful s) (c : Changes [.reverse] s t) (fall : RevContribution) :
    ReverseLawful (t.evalRev fall) :=
  evalRev_lawful (LatchTested.of_changes h.settled.2 c) (reverseShown_of_changes h.shown c fun k => k.of_changes c)
    (targetsUnique_of_changes h.unique c) fall

theorem lineSettles_changes (s : State) : Changes [.reverse] s s.lineSettles := by
  intro p hp
  have same := same_refl s p
  cases p <;> first | exact absurd (by decide) hp | exact same

theorem source_changes (s : State) (x : ReverseSource) (n : Nat) :
    Changes [.reverse] s (State.debounceProceeds { s with recv := { s.recv with source := x, debounceTime := n } }) := by
  have first : Changes [.reverse] s { s with recv := { s.recv with source := x, debounceTime := n } } := by
    intro p hp
    have same := same_refl s p
    cases p <;> first | exact absurd (by decide) hp | exact same
  unfold State.debounceProceeds
  exact .ite (first.trans (lineSettles_changes _)) first

theorem debounced_lawful {s : State} (h : ReverseLawful s) : ReverseLawful s.debounced := by
  unfold State.debounced
  split
  · exact evalLine_lawful h (lineSettles_changes s) .line
  · exact h

theorem execSetReverseSource_lawful (b : Body SetReverseSource) {s t : State} (h : ReverseLawful s)
    (e : execSetReverseSource b s = .next t) : ReverseLawful t := by
  cases e
  refine requestWith_keeps reverseLawful_quiet (fun f t ht => ?_) b h
  split
  · exact ht
  · exact evalLine_lawful ht (source_changes t _ _) .setting

/-! ### Start-up (section 10.1) -/

/-- A start-up begins with no signal, no rule and REV_EFF clear (R48, R182). -/
theorem startUp_lawful (s : State) (cause : ResetCause) : ReverseLawful (s.startUp cause) := by
  obtain ⟨-, ⟨raw, recv⟩, -, -, -⟩ := startUp_fresh s cause
  obtain ⟨-, rules, calm⟩ := initial_calm recv
  obtain ⟨signals, line, rev⟩ := calm
  refine ⟨⟨?_, fun lost => ?_⟩, nofun, ?_⟩
  · unfold State.busTerm
    rw [signals, line, rev]
    cases (s.startUp cause).recv.source <;> rfl
  · rw [signals] at lost
    exact nomatch lost
  · intro m n on
    rw [rules] at on
    exact nomatch on

theorem enlist_lawful {s : State} (h : ReverseLawful s) (tag code : Byte) (r : Option Result) : ReverseLawful (s.enlist tag code r) :=
  h.of_changes (enlist_changes s tag code r)

theorem takeGood_lawful {s : State} (h : ReverseLawful s) (tag code : Byte) (body : List Byte) :
    ReverseLawful (s.takeGood tag code body) := by
  unfold State.takeGood
  split
  · split
    · exact enlist_lawful h _ _ _
    · split
      · exact enlist_lawful h _ _ _
      · exact startUp_lawful s _
  · exact enlist_lawful h _ _ _

theorem takeFrame_lawful {s : State} (h : ReverseLawful s) (frame : List Byte) : ReverseLawful (s.takeFrame frame) := by
  unfold State.takeFrame
  split
  · exact h
  · exact enlist_lawful h _ _ _
  · exact takeGood_lawful h _ _ _

/-- What a start-up step keeps: REV_EFF is settled, and there is one rule per target. -/
def LoadLawful (s : State) : Prop := ReverseSettled s ∧ TargetsUnique s

theorem loadRule_unique (b : List Byte) {s : State} (h : TargetsUnique s) (n : Fin 16) : TargetsUnique (s.loadRule b n) := by
  rw [loadRule_eq]
  cases SetRule.legal (ruleRequest b n.1) with
  | none => exact stored_unique h n .cleared nofun
  | some x =>
    obtain ⟨-, i, order⟩ := x
    dsimp only
    split
    · exact stored_unique h n .cleared nofun
    · rename_i free
      exact stored_unique h n _ fun _ => targetTaken_false.1 (Bool.eq_false_iff.2 free)

theorem loadReceiver_lawful {s : State} (h : LoadLawful s) : LoadLawful s.loadReceiver := by
  unfold State.loadReceiver
  split
  · exact ⟨evalRev_settled h.1.2 _, targetsUnique_of_changes h.2 (evalRev_changes s _)⟩
  · rename_i b _
    dsimp only
    have rate : ∀ n, LatchTested { s with recv := { s.recv with bitRate := n } } ∧ TargetsUnique { s with recv := { s.recv with bitRate := n } } :=
      fun n => ⟨LatchTested.of_signals h.1.2 rfl rfl fun _ => .inl ⟨rfl, rfl⟩, targetsUnique_of_rules h.2 fun _ => ⟨rfl, rfl⟩⟩
    have rate := rate (bitRateOf (byteAt b 0).toNat)
    generalize ({ s with recv := { s.recv with bitRate := bitRateOf (byteAt b 0).toNat } } : State) = u at rate ⊢
    have loaded : LatchTested ((List.finRange 16).foldl (State.loadRule b) u) ∧ TargetsUnique ((List.finRange 16).foldl (State.loadRule b) u) :=
      foldl_keeps (P := fun u => LatchTested u ∧ TargetsUnique u)
        (fun u n hu => ⟨by rw [loadRule_eq]; exact stored_tested hu.1 n _, loadRule_unique b hu.2 n⟩) _ rate
    generalize (List.finRange 16).foldl (State.loadRule b) u = t at loaded ⊢
    have changed := source_changes t (reverseSourceOf (byteAt b 1).toNat) (clampNat 10 200 (byteAt b 2).toNat)
    exact ⟨evalRev_settled (loaded.1.of_changes changed) _,
      targetsUnique_of_changes (targetsUnique_of_changes loaded.2 changed) (evalRev_changes _ _)⟩

/-- The step that loads sector 3 tests the LOST latch with the linger speed it loads and evaluates REV_EFF: the model's own
choice (log 59; R44 names SET VIEW POLICY alone). -/
theorem loadOutputs_lawful {s : State} (h : LoadLawful s) : LoadLawful s.loadOutputs := by
  have loaded : ∀ x : Compositor, TargetsUnique { s with comp := { x with demand := s.comp.demand } } := fun _ =>
    targetsUnique_of_rules h.2 fun _ => ⟨rfl, rfl⟩
  have evaluated : ∀ t : State, TargetsUnique t → LoadLawful (((t.recomputeDemand).latchTest).evalRev .bus) := fun t unique =>
    ⟨evalRev_settled (latchTest_tested _) _, targetsUnique_of_changes (targetsUnique_of_changes (targetsUnique_of_changes unique
      (recomputeDemand_changes _)) (latchTest_changes _)) (evalRev_changes _ _)⟩
  exact evaluated _ (loaded _)

theorem loadLawful_of_same {s t : State} (recv : t.recv = s.recv) (policy : t.comp.policy = s.comp.policy) (h : LoadLawful s) :
    LoadLawful t := by
  refine ⟨settled_of_same recv (by rw [policy]) h.1, targetsUnique_of_rules h.2 fun n => ?_⟩
  unfold State.rule
  rw [recv]
  exact ⟨rfl, rfl⟩

theorem doStep_lawful {s : State} (h : LoadLawful s) (x : StartUpStep) : LoadLawful (s.doStep x) := by
  cases x with
  | examine => exact loadLawful_of_same (s := s) rfl rfl h
  | receiver => exact loadReceiver_lawful h
  | outputs => exact loadOutputs_lawful h
  | camera =>
    show LoadLawful s.loadCamera
    unfold State.loadCamera
    split
    all_goals
      refine loadLawful_of_same (s := s) ?_ ?_ h
      · rw [recv_of_changes (followCamera_changes _)]
      · exact ((followCamera_changes _).at .policy).trans rfl
  | mixer =>
    show LoadLawful s.loadMixer
    unfold State.loadMixer
    split <;> exact loadLawful_of_same (s := s) rfl rfl h

/-- The part as it enters RUNNING, PART_STARTED at the front of the notice queue (R184). -/
def entered (u : State) : State :=
  { u with
    part := { u.part with phase := .running }
    pacer := { u.pacer with paceTimer := true }
    link := { u.link with notices := ⟨u.partStarted, 0⟩ :: u.link.notices } }

theorem enterRunning_eq {s : State} (starting : ¬ s.isRunning = true) : s.enterRunning =
    if (entered s.finishStartUp).recv.revEff then (entered s.finishStartUp).viewRise.chimeRise else entered s.finishStartUp := by
  unfold State.enterRunning
  rw [if_neg starting]
  rfl

/-- Entering RUNNING with REV_EFF set shows CENTRE's REVERSE view (R97, R184). -/
theorem enterRunning_lawful {s : State} (h : ReverseLawful s) : ReverseLawful s.enterRunning := by
  by_cases running : s.isRunning = true
  · unfold State.enterRunning
    rw [if_pos running]
    exact h
  · rw [enterRunning_eq running]
    have loaded : LoadLawful s.finishStartUp :=
      foldl_keeps (P := LoadLawful) (fun u x hu => doStep_lawful hu x) _ ⟨h.settled, h.unique⟩
    have now : LoadLawful (entered s.finishStartUp) := loadLawful_of_same (s := s.finishStartUp) rfl rfl loaded
    generalize entered s.finishStartUp = t at now ⊢
    split
    · have changed := (viewRise_changes t).trans ((chimeRise_changes _).mono)
      exact ⟨settled_of_changes changed now.1,
        fun _ _ => (viewRise_shows t).of_changes (chimeRise_changes _), targetsUnique_of_changes now.2 changed⟩
    · rename_i clear
      exact ⟨now.1, fun _ set => absurd set clear, now.2⟩

/-! ### Every step -/

/-- Every command keeps the law: those whose footprint leaves REV_EFF, the rules, the owners and the linger speed out, by their
frames; the others by what they evaluate and show. -/
theorem exec_reverseLawful (c : Instr) {s t : State} (h : ReverseLawful s) (e : exec c s = .next t) : ReverseLawful t := by
  have quiet : (footprint c).contains .owners = false →
      ([Piece.part, .rules, .signals, .reverse, .lostLatch, .revEff, .policy].all fun p => !(footprint c).contains p) = true →
      ReverseLawful t := by
    obtain ⟨u, eu, frame⟩ := exec_changes c s
    obtain rfl : u = t := Host.Outcome.next.inj (eu.symm.trans e)
    exact fun owners out => h.of_changes frame owners out
  cases c with
  | powerOn => cases e; exact startUp_lawful s _
  | resetLine => cases e; exact startUp_lawful s _
  | enterRunning => cases e; exact enterRunning_lawful h
  | resetPart b => cases e; exact frameEnds_keeps reverseLawful_quiet (fun t ht => takeGood_lawful ht _ _ _) h
  | requestTaken f => cases e; exact frameEnds_keeps reverseLawful_quiet (fun t ht => takeFrame_lawful ht _) h
  | transactionEnd r =>
    change execTransactionEnd r s = _ at e
    unfold execTransactionEnd at e
    split at e <;> cases e
    · split
      · exact h.of_changes (setTransaction_changes _ _)
      · exact takeFrame_lawful (h.of_changes (setTransaction_changes _ _)) _
    · exact takeFrame_lawful h _
  | setRule b => exact execSetRule_lawful b h e
  | clearRule b => exact execClearRule_lawful b h e
  | setReverseSource b => exact execSetReverseSource_lawful b h e
  | setOutput b => exact execSetOutput_lawful b h e
  | showCamera b => exact execShowCamera_lawful b h e
  | releaseView b => exact execReleaseView_lawful b h e
  | setViewPolicy b => exact execSetViewPolicy_lawful b h e
  | busFrame r => cases e; exact receive_lawful h r
  | signalHeld i => cases e; exact signalHeld_lawful h i
  | signalLost i => cases e; exact signalLost_lawful h i
  | revInChange b =>
    cases e
    exact ⟨h.settled, h.shown, h.unique⟩
  | debounceExpiry => cases e; exact debounced_lawful h
  | lingerTimerExpiry o => cases e; exact lingerDue_lawful h o
  | _ => exact quiet rfl rfl

/-- Every signal keeps its value and state while time passes (log 1). -/
theorem tick_signal (s : State) (i : SignalId) : s.tick.signal i = Signal.tick (s.signal i) :=
  sel_updAll s.recv.signals (fun _ => Signal.tick) (signalNo i)

theorem tick_out (s : State) (o : Output) : s.tick.out o = OutputRec.tick (s.out o) := by
  cases o <;> simp [State.tick, State.out, Table.sel_upd, outputNo]

/-- Time that passes changes no value, state, owner or rule (log 1). -/
theorem tick_lawful {s : State} (h : ReverseLawful s) : ReverseLawful s.tick := by
  have tested : LatchTested s.tick := LatchTested.of_signals h.settled.2 rfl rfl fun j => .inl (by rw [tick_signal]; exact ⟨rfl, rfl⟩)
  have bus : s.tick.busTerm = s.busTerm := by
    unfold State.busTerm
    rw [tick_signal]
    rfl
  refine ⟨⟨by rw [bus]; exact h.settled.1, tested⟩, fun running set => ?_, h.unique⟩
  rw [tick_out]
  exact h.shown running set

/-- An idle step lets time pass, and may end a step of a start-up (log 58). -/
theorem idle_reverseLawful {s : State} (h : ReverseLawful s) : ReverseLawful s.idle := by
  have ticked := tick_lawful h
  unfold State.idle
  split
  · exact ticked
  · dsimp only
    split
    · unfold State.endStep
      split
      · rename_i x under
        have starting : s.tick.part.phase ≠ .running := by
          intro running
          unfold State.stepUnderWay State.isRunning at under
          simp [running] at under
        have loaded := doStep_lawful (s := { s.tick with free := s.free + 1, steps := s.tick.steps.tail }) ⟨ticked.settled, ticked.unique⟩ x
        have part := (doStep_changes { s.tick with free := s.free + 1, steps := s.tick.steps.tail } x).at .part
        refine ⟨loaded.1, fun running => absurd ?_ starting, loaded.2⟩
        exact (congrArg Part.phase part).symm.trans running
      · exact ⟨ticked.settled, ticked.shown, ticked.unique⟩
    · exact ⟨ticked.settled, ticked.shown, ticked.unique⟩

/-- Settles O56: the law is kept by every command and by idle time. At the start-up step that loads sector 3 the LOST latch is
tested with the loaded linger speed: the model's own choice (log 59), see `loadOutputs_lawful`. -/
theorem reverseStaysSettledAndShown : Obligations.ReverseStaysSettledAndShown := by
  intro s t ⟨settled, shown, unique⟩ e
  have h : ReverseLawful s := ⟨settled, shown, unique⟩
  have kept : ReverseLawful t := by
    unfold step at e
    split at e
    · cases e; exact idle_reverseLawful h
    · rename_i c rest _
      exact exec_reverseLawful c (s := { s with pending := rest }) ⟨settled, shown, unique⟩ e
  exact ⟨kept.settled, kept.shown, kept.unique⟩

end Sys2Proof.Machine
end

section
/-! PROOFS. Fields of bus frames as numbers, and their conversion (R28 to R30, R33). -/

namespace Sys2Proof.Machine

set_option Elab.async false

open Sys2Proof

/-! ### Bits of a number given by its bytes -/

/-- Data read as a little-endian number. -/
def littleEndian (data : List Byte) : Nat := data.foldr (fun b n => b.toNat + 256 * n) 0

/-- Data read as a big-endian number. -/
def bigEndian (data : List Byte) : Nat := data.foldl (fun n b => 256 * n + b.toNat) 0

theorem bigEndian_eq (data : List Byte) : bigEndian data = littleEndian data.reverse := by
  unfold bigEndian littleEndian
  rw [List.foldr_reverse]
  congr 1
  funext n b
  exact Nat.add_comm _ _

theorem byteAt_cons (b : Byte) (bs : List Byte) (k : Nat) : byteAt (b :: bs) (k + 1) = byteAt bs k := by
  unfold byteAt
  simp

/-- A byte of a little-endian number is the byte of the data at its place; beyond the data it is 0. -/
theorem littleEndian_byte (data : List Byte) (k : Nat) : littleEndian data / 256 ^ k % 256 = (byteAt data k).toNat := by
  induction data generalizing k with
  | nil => simp [littleEndian, byteAt]
  | cons b bs ih =>
    have split : littleEndian (b :: bs) = b.toNat + 256 * littleEndian bs := rfl
    have small : b.toNat < 256 := b.isLt
    cases k with
    | zero =>
      rw [split]
      simp only [byteAt, List.getD_cons_zero]
      omega
    | succ k =>
      rw [byteAt_cons, ← ih, split, Nat.pow_succ', ← Nat.div_div_eq_div_mul]
      congr 2
      omega

/-- A bit of data at a position in the numbering of R28 is the bit of its little-endian number there. -/
theorem bitAt_eq (data : List Byte) (p : Nat) : bitAt data p = littleEndian data / 2 ^ p % 2 := by
  have place : littleEndian data / 2 ^ p = littleEndian data / 256 ^ (p / 8) / 2 ^ (p % 8) := by
    rw [Nat.div_div_eq_div_mul, show (256 : Nat) = 2 ^ 8 from rfl, ← Nat.pow_mul, ← Nat.pow_add, Nat.div_add_mod]
  have byte : 2 ^ (p % 8) * (2 * 2 ^ (7 - p % 8)) = 256 := by
    rw [← Nat.pow_succ', ← Nat.pow_add, show p % 8 + (7 - p % 8 + 1) = 8 by omega]
  unfold bitAt
  rw [place, ← littleEndian_byte]
  generalize littleEndian data / 256 ^ (p / 8) = n
  rw [← byte, Nat.mod_mul_right_div_self, Nat.mod_mul_right_mod]

/-- The low bits of a number, weighted, make its remainder. -/
theorem sum_bits (n length : Nat) : ((List.range length).map fun i => n / 2 ^ i % 2 * 2 ^ i).sum = n % 2 ^ length := by
  induction length with
  | zero => simp [Nat.mod_one]
  | succ length ih =>
    rw [List.range_succ, List.map_append, List.sum_append, ih, Nat.mod_pow_succ]
    simp [Nat.mul_comm]

/-- A raw field whose bits are those of a number is the number cut to the length. -/
theorem rawField_of_bits {order : ByteOrder} {start length n : Nat} {data : List Byte}
    (bits : ∀ i, i < length → bitAt data (bitPosition order start i) = n / 2 ^ i % 2) : rawField order start data length = n % 2 ^ length := by
  unfold rawField
  rw [← sum_bits]
  congr 1
  refine List.map_congr_left fun i listed => ?_
  rw [bits i (List.mem_range.1 listed)]

theorem rawField_lt (order : ByteOrder) (start length : Nat) (data : List Byte) : rawField order start data length < 2 ^ length := by
  unfold rawField
  induction length with
  | zero => simp
  | succ length ih =>
    have bit : bitAt data (bitPosition order start length) < 2 := Nat.mod_lt _ (by decide)
    have weighted := Nat.mul_le_mul_right (2 ^ length) (Nat.le_of_lt_succ bit)
    rw [List.range_succ, List.map_append, List.sum_append, Nat.pow_succ]
    simp only [List.map_cons, List.map_nil, List.sum_cons, List.sum_nil, Nat.add_zero]
    omega

/-! ### The two byte orders -/

theorem rawField_lsbFirst (start length : Nat) (data : List Byte) :
    rawField .lsbFirst start data length = littleEndian data / 2 ^ start % 2 ^ length := by
  refine rawField_of_bits fun i _ => ?_
  rw [bitAt_eq, Nat.div_div_eq_div_mul, ← Nat.pow_add]
  rfl

/-- A byte of the leading bytes of data, counted from their last. -/
theorem byteAt_leading {data : List Byte} {last back : Nat} (covered : last < data.length) (inside : back ≤ last) :
    byteAt (data.take (last + 1)).reverse back = byteAt data (last - back) := by
  unfold byteAt
  have size : (data.take (last + 1)).length = last + 1 := by rw [List.length_take]; omega
  rw [List.getD_eq_getElem?_getD, List.getD_eq_getElem?_getD, List.getElem?_reverse (by omega), size, List.getElem?_take_of_lt (by omega)]
  congr 2

theorem rawField_msbFirst {start length : Nat} {data : List Byte} (fits : fieldFits .msbFirst start length = true)
    (covered : fieldCovered .msbFirst start length data.length = true) :
    rawField .msbFirst start data length = bigEndian (data.take (start / 8 + 1)) / 2 ^ (start % 8) % 2 ^ length := by
  have fits : (start % 8 + length - 1) / 8 ≤ start / 8 := by simpa [fieldFits] using fits
  have covered : start / 8 < data.length := by simpa [fieldCovered] using covered
  refine rawField_of_bits fun i low => ?_
  rw [bigEndian_eq, Nat.div_div_eq_div_mul, ← Nat.pow_add, ← bitAt_eq]
  have back : (start % 8 + i) / 8 ≤ start / 8 := Nat.le_trans (Nat.div_le_div_right (by omega)) fits
  unfold bitAt
  rw [byteAt_leading covered back]
  have byte : bitPosition .msbFirst start i / 8 = start / 8 - (start % 8 + i) / 8 := by unfold bitPosition; dsimp only; omega
  have bit : bitPosition .msbFirst start i % 8 = (start % 8 + i) % 8 := by unfold bitPosition; dsimp only; omega
  rw [byte, bit]

/-- Settles O19: bit by bit, a raw field is a stretch of the number its bytes give in its byte order. -/
theorem fieldsAreReadAsTheirByteOrderSays : Obligations.FieldsAreReadAsTheirByteOrderSays :=
  ⟨rawField_lsbFirst, fun _ _ _ _ fits covered => rawField_msbFirst fits covered, rawField_lt⟩

/-! ### The conversion (R33) -/

/-- Clamping is a maximum of a minimum. -/
theorem clampInt_eq {lo hi : Int} (ordered : lo ≤ hi) (n : Int) : clampInt lo hi n = max lo (min hi n) := by
  unfold clampInt
  split
  · omega
  · split <;> omega

theorem range_ordered (i : SignalId) : rangeLow i ≤ rangeHigh i := by cases i <;> decide

/-- An unsigned field is its own value. -/
theorem rawValue_unsigned (length raw : Nat) : rawValue false length raw = raw := by simp [rawValue]

theorem rawValue_cases (signed : Bool) (length raw : Nat) :
    rawValue signed length raw = raw ∨ rawValue signed length raw = (raw : Int) - 2 ^ length := by
  unfold rawValue
  split
  · exact .inr rfl
  · exact .inl rfl

/-- A signed field of a length lies in the range of its two's complement. -/
theorem rawValue_signed {length raw : Nat} (some : 1 ≤ length) (small : raw < 2 ^ length) :
    -(2 ^ (length - 1) : Int) ≤ rawValue true length raw ∧ rawValue true length raw < 2 ^ (length - 1) := by
  obtain ⟨k, rfl⟩ : ∃ k, length = k + 1 := ⟨length - 1, by omega⟩
  rw [Nat.pow_succ] at small
  unfold rawValue
  have power : ((2 ^ k : Nat) : Int) = 2 ^ k := by push_cast; rfl
  simp only [Nat.add_sub_cancel, true_and, pow_succ]
  rw [← power]
  split <;> omega

/-- The quotient toward zero takes no sign that its dividend has not. -/
theorem tdiv_sign (x : Int) {d : Int} (positive : 0 < d) : (0 < x.tdiv d → 0 < x) ∧ (x.tdiv d < 0 → x < 0) := by
  constructor
  · intro above
    by_contra low
    have flipped := Int.tdiv_nonneg (a := -x) (by omega) (Int.le_of_lt positive)
    rw [Int.neg_tdiv] at flipped
    omega
  · intro below
    by_contra high
    exact absurd (Int.tdiv_nonneg (Int.not_lt.1 high) (Int.le_of_lt positive)) (Int.not_le.2 below)

theorem convert_eq (r : Rule) (raw : Nat) : r.convert raw = max (rangeLow r.target) (min (rangeHigh r.target)
    (Int.tdiv (rawValue r.signed r.length raw * r.factor) (2 ^ r.shift) + r.offset)) := clampInt_eq (range_ordered r.target) _

/-- Settles O20: the value of R33's steps one by one. -/
theorem ruleConversionRoundsTowardZeroAndClamps : Obligations.RuleConversionRoundsTowardZeroAndClamps := by
  intro r raw some small
  have positive : (0 : Int) < 2 ^ r.shift := Int.pow_pos (by decide)
  have ordered := range_ordered r.target
  obtain ⟨above, below⟩ := tdiv_sign (rawValue r.signed r.length raw * r.factor) positive
  refine ⟨rawValue r.signed r.length raw, Int.tdiv (rawValue r.signed r.length raw * r.factor) (2 ^ r.shift),
    rawValue_cases _ _ _, fun unsigned => ?_, fun signed => ?_, ?_, above, below, convert_eq r raw, ?_, ?_⟩
  · rw [unsigned, rawValue_unsigned]
  · rw [signed]
    exact rawValue_signed some small
  · rw [Int.natAbs_tdiv, Int.natAbs_pow]
    rfl
  · rw [convert_eq]
    omega
  · rw [convert_eq]
    omega

end Sys2Proof.Machine
end

section
/-! PROOFS. What the queries report (R41, R42, R71, R93, R116, R133, R150, R168, R179, R180). -/

namespace Sys2Proof.Machine

set_option Elab.async false

open Sys2Proof

/-! ### Numbers that requests carry -/

theorem index_some {n k : Nat} (x : Fin n) (h : x.1 = k) : index n k = some x := by
  subst h
  exact dif_pos x.2

theorem index_none {n k : Nat} (h : n ≤ k) : index n k = none := dif_neg (Nat.not_lt.2 h)

theorem withLayer_some (n : Fin 24) (s : State) (act : Fin 24 → State × Reply) : withLayer n.1 s act = act n := by
  unfold withLayer
  rw [index_some n rfl]

theorem withLayer_none {k : Nat} (h : 24 ≤ k) (s : State) (act : Fin 24 → State × Reply) : withLayer k s act = (s, .plain .badValue) := by
  unfold withLayer
  rw [index_none h]

theorem withOutput_some (o : Output) (s : State) (act : Output → State × Reply) : withOutput (outputNo o).1 s act = act o := by
  cases o <;> rfl

theorem withOutput_none {k : Nat} (h : 3 ≤ k) (s : State) (act : Output → State × Reply) : withOutput k s act = (s, .plain .badValue) := by
  match k, h with
  | k + 3, _ => rfl

/-! ### A query's reply -/

/-- What does not read the link is the same when the request has been taken. -/
theorem taking_reads {α : Type} (f : State → α) (s : State) (code : Byte) (link : ∀ l, f { s with link := l } = f s) :
    f (s.taking code) = f s := by
  obtain ⟨l, e, -⟩ := taking_eq s code
  rw [e, link]

/-- A query without a body is answered with what its block reads. -/
theorem reports_of_query {c : Instr} {code : Byte} {body : State → ReplyBody} {s : State} {b : ReplyBody}
    (he : exec c s = .next (request code (fun t => (t, .now .done (body t))) s)) (hc : codeOf c = code)
    (reads : body (s.taking code) = b) : Reports c s b := by
  subst reads
  exact answers_of_refusal he hc rfl

/-- A query with a whole body is answered with what its block reads. -/
theorem reports_of_whole {α : Type} {c : Instr} {code : Byte} {f : α} {block : α → State → State × Reply} {s : State} {b : ReplyBody}
    (he : exec c s = .next (requestWith code (.whole f) block s)) (hc : codeOf c = code)
    (hb : block f (s.taking code) = (s.taking code, .now .done b)) : Reports c s b := answers_of_whole_refusal he hc hb

/-- A request with a whole body that its block refuses. -/
theorem turnsAway_of_whole {α : Type} {c : Instr} {code : Byte} {f : α} {block : α → State → State × Reply} {s : State} {r : Result}
    (he : exec c s = .next (requestWith code (.whole f) block s)) (hc : codeOf c = code)
    (hb : block f (s.taking code) = (s.taking code, .plain r)) : TurnsAway c s r := answers_of_whole_refusal he hc hb

/-! ### GET STATE (R180) -/

theorem advance_length (phase : Phase) (rs : List Outstanding) : (advance phase rs).length = rs.length := by
  induction rs with
  | nil => rfl
  | cons r rs ih =>
    unfold advance
    split
    · simp [ih]
    · rfl
    · split
      · simp [ih]
      · rfl

/-- A request that comes to its block finds another count only where its own row took it in (log 3). -/
theorem taking_counts {c : Instr} {s : State} (comes : Comes c s) :
    (s.taking (codeOf c)).link.requests.length = s.link.requests.length + (if s.link.requests.any Outstanding.isExecuting then 0 else 1) ∧
    (s.taking (codeOf c)).link.notTaken = s.link.notTaken := by
  unfold Comes State.handsOver at comes
  simp only [Bool.and_eq_true] at comes
  obtain ⟨⟨runs, -⟩, -⟩ := comes
  unfold State.taking at runs ⊢
  by_cases executing : s.link.requests.any Outstanding.isExecuting = true
  · simp [executing]
  · have idle : ∀ t : State, t.link.requests = s.link.requests →
        ¬ (t.link.requests.any fun r => r.isExecuting && decide (r.code = codeOf c)) = true := by
      intro t same any
      rw [same] at any
      obtain ⟨r, listed, this⟩ := List.any_eq_true.1 any
      exact executing (List.any_eq_true.2 ⟨r, listed, (Bool.and_eq_true_iff.1 this).1⟩)
    have enlisted : ∀ t : State, t.link.requests = s.link.requests → t.link.notTaken = s.link.notTaken →
        ((t.enlist 0#8 (codeOf c) none).link.requests.any fun r => r.isExecuting && decide (r.code = codeOf c)) = true →
        (t.enlist 0#8 (codeOf c) none).link.requests.length = s.link.requests.length + 1 ∧
        (t.enlist 0#8 (codeOf c) none).link.notTaken = s.link.notTaken := by
      intro t requests refused any
      unfold State.enlist at any ⊢
      split at any
      · exact absurd any (idle _ requests)
      · rename_i room
        rw [if_neg room]
        refine ⟨?_, refused⟩
        show (advance _ _).length = _
        rw [advance_length, List.length_append, requests]
        rfl
    rw [if_neg executing] at runs ⊢
    rw [if_neg executing]
    unfold State.frameEnds at runs ⊢
    split at runs
    · split at runs
      · exact absurd runs (idle s rfl)
      · rename_i heard
        rw [if_neg heard]
        exact enlisted _ rfl rfl runs
    · exact enlisted s rfl rfl runs

/-! ### READ RULES and READ SIGNALS (R41, R42) -/

theorem rulesFrom_eq : ∀ k : Fin 16, ((List.finRange 16).filter fun n => decide (k.1 ≤ n.1)) = (List.finRange 16).drop k.1 := by decide

/-- The rules of READ RULES: from the first upward, at most eight (R41). -/
theorem rulesFrom {k : Nat} (low : k < 16) (s : State) :
    let rs := (((List.finRange 16).filter fun n => decide (k ≤ n.1)).take 8).map fun n => (n.1, s.rule n)
    rs.length = min 8 (16 - k) ∧ ∀ j n : Nat, ∀ h : n < 16, n = k + j → j < 8 → rs[j]? = some (n, s.rule ⟨n, h⟩) := by
  dsimp only
  rw [rulesFrom_eq ⟨k, low⟩]
  refine ⟨by simp, ?_⟩
  rintro j n inside rfl few
  rw [List.getElem?_map, List.getElem?_take_of_lt few, List.getElem?_drop, List.getElem?_eq_getElem (by simpa using inside)]
  simp

theorem ruleFor_some {s : State} {i : SignalId} {n : Fin 16} (h : s.ruleFor i = some n) :
    (s.rule n).enabled = true ∧ (s.rule n).target = i := by
  have := List.find?_some h
  simpa using this

theorem ruleFor_none {s : State} {i : SignalId} (h : s.ruleFor i = none) (n : Fin 16) (on : (s.rule n).enabled = true) :
    (s.rule n).target ≠ i := by
  have := List.find?_eq_none.1 h n (List.mem_finRange n)
  simpa [on] using this

theorem age_eq (x : Signal) : x.age = (match x.timer with
    | some e => min 65535 (e / 10)
    | none => 65535) := rfl

/-! ### GET LAYER (R93, log 46) -/

/-- The parts of a GET LAYER body after its six fixed bytes. -/
theorem layerBytes_parts (r : LayerReport) : r.bytes.drop 6 = (match r.size with
      | some (w, h) => bytes16 w ++ bytes16 h
      | none => []) ++ (match r.run with
      | some (base, count) => bytes16 base ++ bytes16 count
      | none => []) ++ (match r.mark with
      | some k => bytes24 k
      | none => []) ++ outputs.flatMap (fun o => match r.placements.sel (outputNo o) with
      | some p => bytes16 (BitVec.ofInt 16 p.x).toNat ++ bytes16 (BitVec.ofInt 16 p.y).toNat ++
          [BitVec.ofNat 8 p.z, BitVec.ofNat 8 p.alpha, BitVec.ofNat 8 p.visible.toNat]
      | none => []) := by
  have placement : ∀ x : Option Placement, partBytes x Placement.bytes = match x with
      | some p => bytes16 (BitVec.ofInt 16 p.x).toNat ++ bytes16 (BitVec.ofInt 16 p.y).toNat ++
          [BitVec.ofNat 8 p.z, BitVec.ofNat 8 p.alpha, BitVec.ofNat 8 p.visible.toNat]
      | none => [] := fun x => by cases x <;> rfl
  have pair : ∀ x : Option (Nat × Nat), partBytes x (fun x => bytes16 x.1 ++ bytes16 x.2) = match x with
      | some (w, h) => bytes16 w ++ bytes16 h
      | none => [] := fun x => by cases x <;> rfl
  have mark : ∀ x : Option Nat, partBytes x bytes24 = match x with
      | some k => bytes24 k
      | none => [] := fun x => by cases x <;> rfl
  unfold LayerReport.bytes outputs
  simp only [pair, mark, placement, List.flatMap_cons, List.flatMap_nil, List.append_nil, List.append_assoc, List.cons_append,
    List.nil_append, List.drop_succ_cons, List.drop_zero]
  rfl

theorem partBytes_length {α : Type} {x : Option α} {f : α → List Byte} {n : Nat} (h : ∀ y, (f y).length = n) :
    (partBytes x f).length = if x.isSome then n else 0 := by
  cases x with
  | none => rfl
  | some y => exact h y

/-- How long a GET LAYER body is, by the parts it has. -/
theorem layerBytes_length (r : LayerReport) : r.bytes.length = 6 + (if r.size.isSome then 4 else 0) + (if r.run.isSome then 4 else 0) +
    (if r.mark.isSome then 3 else 0) + (if (r.placements.sel 0).isSome then 7 else 0) + (if (r.placements.sel 1).isSome then 7 else 0) +
    (if (r.placements.sel 2).isSome then 7 else 0) := by
  have placement : ∀ p : Placement, p.bytes.length = 7 := fun _ => rfl
  have pair : ∀ x : Nat × Nat, (bytes16 x.1 ++ bytes16 x.2).length = 4 := fun _ => rfl
  have mark : ∀ k, (bytes24 k).length = 3 := fun _ => rfl
  unfold LayerReport.bytes
  simp only [List.length_append, partBytes_length placement, partBytes_length pair, partBytes_length mark]
  rfl

theorem layerBytes_bounds (r : LayerReport) : 6 ≤ r.bytes.length ∧ r.bytes.length ≤ 38 := by
  rw [layerBytes_length]
  have upTo : ∀ (b : Bool) (n : Nat), (if b = true then n else 0) ≤ n := fun b n => by cases b <;> simp
  have size := upTo r.size.isSome 4
  have run := upTo r.run.isSome 4
  have mark := upTo r.mark.isSome 3
  have centre := upTo (r.placements.sel 0).isSome 7
  have left := upTo (r.placements.sel 1).isSome 7
  have right := upTo (r.placements.sel 2).isSome 7
  omega

/-- An UNUSED layer gives the fixed part alone (R93). -/
theorem layerReport_unused {s : State} {n : Fin 24} (unused : (s.layer n).state = .unused) :
    let r := s.layerReport n
    r.size = none ∧ r.run = none ∧ r.mark = none ∧ r.bytes.length = 6 := by
  have size : (s.layerReport n).size = none := by simp [State.layerReport, unused]
  have run : (s.layerReport n).run = none := by simp [State.layerReport, unused]
  have mark : (s.layerReport n).mark = none := by simp [State.layerReport, unused]
  have placements : (s.layerReport n).placements = Table.fill 3 none := by simp [State.layerReport, unused]
  refine ⟨size, run, mark, ?_⟩
  rw [layerBytes_length, size, run, mark, placements]
  simp

theorem layerReport_designations (s : State) (n : Fin 24) (c : Fin 3) :
    (s.layerReport n).designations.sel c = decide (s.layers.designations.sel c = some n) := by
  match c with
  | 0 => rfl
  | 1 => rfl
  | 2 => rfl

/-! ### GET CAMERA (R133) -/

/-- The reports of the three capture slots, each with its state, its holds and its place in the order of capture. -/
theorem cameraReport_slots (s : State) (k : Fin 3) : ∃ x, (s.cameraReport).slots[k.1]? = some x ∧ x.state = (s.cam.slots.sel k).state ∧
    x.holds = (s.cam.slots.sel k).holds ∧ (∀ p, x.place = some p → s.cam.order[p]? = some k) ∧ (x.place = none → k ∉ s.cam.order) := by
  refine ⟨s.cam.slotReport k, ?_, rfl, rfl, fun p place => ?_, fun place listed => ?_⟩
  · match k with
    | 0 => rfl
    | 1 => rfl
    | 2 => rfl
  · unfold Camera.slotReport at place
    by_cases listed : k ∈ s.cam.order
    · simp only [List.contains_iff_mem, listed, if_true, Option.some.injEq] at place
      rw [← place]
      exact List.getElem?_idxOf listed
    · simp [listed] at place
  · simp [Camera.slotReport, listed] at place

/-! ### Each query -/

theorem getState_reports (s : State) : ∃ r, Reports .getState s (.state r) ∧ r.cause = s.part.cause ∧
    (Comes .getState s → r.outstanding = s.link.requests.length + (if s.link.requests.any Outstanding.isExecuting then 0 else 1) ∧
      r.notTaken = s.link.notTaken ∧ r.badFrames = (s.taking 0x04#8).link.badFrames) ∧ r.notices = s.noticeKeys ∧
    r.revEff = s.recv.revEff ∧ (∀ o, r.owners.sel (outputNo o) = (s.out o).owner) ∧ r.camera = s.cam.status ∧
    (∀ i, r.streams.sel (streamNo i) = (s.stream i).state) ∧ r.storeOp = s.store.op.isSome ∧ r.selfTest = s.selfTest.isSome := by
  refine ⟨(s.taking 0x04#8).stateReport, reports_of_query rfl rfl rfl, ?_, fun comes => ?_, ?_, ?_, fun o => ?_, ?_, fun i => ?_, ?_, ?_⟩
  · exact congrArg Part.cause (taking_part s 0x04#8)
  · exact ⟨(taking_counts comes).1, (taking_counts comes).2, rfl⟩
  · exact congrArg (List.map fun e => Report.key e.report) (taking_notices s 0x04#8)
  · exact congrArg Receiver.revEff (taking_recv s 0x04#8)
  · rw [← taking_out s 0x04#8 o]
    cases o <;> rfl
  · exact congrArg Camera.status (taking_cam s 0x04#8)
  · rw [← taking_stream s 0x04#8 i]
    cases i <;> rfl
  · exact congrArg (fun x : Store => x.op.isSome) (taking_store s 0x04#8)
  · exact congrArg Option.isSome (taking_selfTest s 0x04#8)

theorem readRules_reports (s : State) {k : Nat} (low : k < 16) : ∃ rs, Reports (.readRules (.whole k)) s (.rules rs) ∧
    rs.length = min 8 (16 - k) ∧ ∀ j n : Nat, ∀ h : n < 16, n = k + j → j < 8 → rs[j]? = some (n, s.rule ⟨n, h⟩) := by
  obtain ⟨count, rules⟩ := rulesFrom low s
  refine ⟨_, reports_of_whole rfl rfl ?_, count, rules⟩
  simp only [index_some (⟨k, low⟩ : Fin 16) rfl, taking_rule]

theorem readSignals_reports (s : State) : ∃ r, Reports .readSignals s (.signals r) ∧ r.signals.length = 7 ∧
    (∀ i, ∃ x, r.signals[(signalNo i).1]? = some x ∧ x.value = (s.signal i).value ∧ x.state = (s.signal i).state ∧
      x.age = (match (s.signal i).timer with
        | some e => min 65535 (e / 10)
        | none => 65535) ∧
      (∀ n, x.rule = some n → (s.rule n).enabled = true ∧ (s.rule n).target = i) ∧
      (x.rule = none → ∀ n, (s.rule n).enabled = true → (s.rule n).target ≠ i)) ∧
    r.rawLine = s.recv.rawLine ∧ r.line = s.recv.line ∧ r.lostLatch = s.recv.lostLatch ∧ r.revEff = s.recv.revEff ∧
    r.source = s.recv.source ∧ r.debounceTime = s.recv.debounceTime ∧ r.goodFrames = s.recv.goodFrames ∧
    r.busErrors = s.recv.busErrors ∧ r.busTerm = s.busTerm := by
  refine ⟨s.signalsReport, reports_of_query rfl rfl (congrArg ReplyBody.signals (taking_reads State.signalsReport s _ fun _ => rfl)), rfl,
    fun i => ?_, rfl, rfl, rfl, rfl, rfl, rfl, rfl, rfl, rfl⟩
  refine ⟨⟨(s.signal i).value, (s.signal i).state, (s.signal i).age, s.ruleFor i⟩, ?_, rfl, rfl, age_eq _, fun _ => ruleFor_some,
    fun none => ruleFor_none none⟩
  cases i <;> rfl

theorem getStream_reports (s : State) (i : StreamId) : Reports (.getStream (.whole (streamNo i).1)) s (.stream (s.streamReport i)) := by
  refine reports_of_whole rfl rfl ?_
  rw [withStream_some rfl, taking_reads (State.streamReport · i) s _ fun _ => rfl]

theorem getLayer_reports (s : State) (n : Fin 24) : Reports (.getLayer (.whole n.1)) s (.layer (s.layerReport n)) := by
  refine reports_of_whole rfl rfl ?_
  rw [withLayer_some, taking_reads (State.layerReport · n) s _ fun _ => rfl]

theorem getOutput_reports (s : State) (o : Output) : Reports (.getOutput (.whole (outputNo o).1)) s (.output (s.outputReport o)) := by
  refine reports_of_whole rfl rfl ?_
  rw [withOutput_some, taking_reads (State.outputReport · o) s _ fun _ => rfl]

/-- What a layer in use reports of itself (R93). -/
theorem layerReport_used {s : State} {n : Fin 24} (used : (s.layer n).state ≠ .unused) :
    let l := s.layer n
    let r := s.layerReport n
    r.size = (if l.width = 0 ∧ l.height = 0 then none else some (l.width, l.height)) ∧
      r.mark = (if l.mark = 0 then none else some l.mark) ∧ r.placements = l.placements ∧
      r.run = (s.fmm.runOf (.layer n)).map (fun x => (x.base, x.count)) := by
  refine ⟨?_, ?_, ?_, ?_⟩
  · by_cases none : (s.layer n).width = 0 ∧ (s.layer n).height = 0
    · simp [State.layerReport, none]
    · simp only [State.layerReport, used, ne_eq, not_false_eq_true, decide_true, none, and_self, if_true, if_false]
  · by_cases none : (s.layer n).mark = 0
    · simp [State.layerReport, none]
    · simp [State.layerReport, used, none]
  · simp [State.layerReport, used]
  · simp [State.layerReport, used]

/-- Settles O53: each query's block reads the registers and changes nothing. -/
theorem queriesReportTheState : Obligations.QueriesReportTheState := by
  refine ⟨fun s => ⟨s.sectorStates, fun n => ?_, reports_of_query rfl rfl ?_⟩, fun s _ => ⟨getState_reports s, fun k high => ?_,
    fun k low => readRules_reports s low, readSignals_reports s, fun k high => ?_, fun i => ?_, fun k high => ?_, fun n => ?_,
    fun k high => ?_, fun o => ?_, ?_, ?_, ?_, ?_⟩⟩
  · match n with
    | 0 | 1 | 2 | 3 | 4 | 5 | 6 | 7 => rfl
  · show ReplyBody.identity _ _ (s.taking codeGetIdentity).part.phase (s.taking codeGetIdentity).sectorStates = _
    rw [taking_part, taking_reads State.sectorStates s _ fun _ => rfl]
    rfl
  · exact turnsAway_of_whole rfl rfl (by simp only [index_none high])
  · exact turnsAway_of_whole rfl rfl (withStream_none high _ _)
  · exact ⟨s.streamReport i, getStream_reports s i, rfl, rfl, rfl, rfl, rfl, rfl, rfl, rfl, rfl, rfl, rfl, rfl, rfl, rfl, rfl, rfl, rfl⟩
  · exact turnsAway_of_whole rfl rfl (withLayer_none high _ _)
  · obtain ⟨least, most⟩ := layerBytes_bounds (s.layerReport n)
    refine ⟨s.layerReport n, getLayer_reports s n, rfl, rfl, layerReport_unused, ?_, least, most, layerBytes_parts _, fun used => ?_⟩
    · have small := n.2
      simp [LayerReport.bytes, State.layerReport]
      omega
    · obtain ⟨size, mark, placements, run⟩ := layerReport_used used
      exact ⟨rfl, rfl, rfl, rfl, rfl, rfl, rfl, rfl, size, mark, placements, run, layerReport_designations s n⟩
  · exact turnsAway_of_whole rfl rfl (withOutput_none high _ _)
  · exact ⟨s.outputReport o, getOutput_reports s o, rfl, rfl, rfl, rfl, rfl, rfl, rfl, rfl, rfl, rfl, rfl, rfl, rfl, rfl, rfl, rfl⟩
  · exact ⟨s.cameraReport, reports_of_query rfl rfl (congrArg ReplyBody.camera (taking_reads State.cameraReport s _ fun _ => rfl)),
      rfl, rfl, rfl, rfl, rfl, rfl, rfl, rfl, rfl, rfl, rfl, rfl, rfl, rfl, rfl, cameraReport_slots s⟩
  · exact ⟨s.geometryReport, reports_of_query rfl rfl (congrArg ReplyBody.geometry (taking_reads State.geometryReport s _ fun _ => rfl)),
      rfl, rfl, rfl, rfl, rfl, rfl, rfl, rfl, rfl, rfl, rfl, rfl⟩
  · exact ⟨s.chimesReport, reports_of_query rfl rfl (congrArg ReplyBody.chimes (taking_reads State.chimesReport s _ fun _ => rfl)),
      rfl, rfl, rfl, rfl, rfl, rfl⟩
  · refine ⟨⟨s.mixer.outs, s.mixer.duck, s.mixer.rev, s.mixer.revEff, s.mixer.playing⟩, reports_of_query rfl rfl ?_, rfl, rfl, rfl, rfl, rfl⟩
    rw [taking_mixer]

end Sys2Proof.Machine
end

section
/-! PROOFS. SET RULE and CLEAR RULE (R26, R37, R39, R40). -/

namespace Sys2Proof.Machine

set_option Elab.async false

open Sys2Proof

/-- ADJUSTED where something was clamped. -/
theorem doneOr_ite {c : Prop} [Decidable c] {b : Bool} (h : b = false ↔ c) : doneOr b = if c then .done else .adjusted := by
  unfold doneOr
  cases b with
  | true => rw [if_neg fun k => nomatch h.2 k]; rfl
  | false => rw [if_pos (h.1 rfl)]; rfl

theorem doneOr_clamp {lo hi : Nat} (ordered : lo ≤ hi) (n : Nat) :
    doneOr (decide (clampNat lo hi n ≠ n)) = if lo ≤ n ∧ n ≤ hi then .done else .adjusted := by
  refine doneOr_ite ?_
  rw [← clampNat_same ordered]
  simp

/-! ### The checks of SET RULE -/

theorem signalOf_some {k : Nat} {i : SignalId} (h : signalOf k = some i) : (signalNo i).1 = k := by
  match k, h with
  | 0, h | 1, h | 2, h | 3, h | 4, h | 5, h | 6, h => obtain rfl := Option.some.inj h; rfl

/-- What SET RULE's checks have passed (R26, R39; log 13). -/
theorem setRule_legal {f : SetRule} {n : Fin 16} {i : SignalId} {order : ByteOrder} (h : SetRule.legal f = some (n, i, order)) :
    (n.1 = f.number ∧ (signalNo i).1 = f.target ∧ f.order = .legal order) ∧ identifierFits f.extended f.identifier = true ∧
    f.startBit ≤ 63 ∧ 1 ≤ f.length ∧ f.length ≤ 16 ∧ f.shift ≤ 15 := by
  unfold SetRule.legal at h
  split at h
  · rename_i m k x number target code
    split at h
    · rename_i checks
      obtain ⟨identifier, start, some, length, shift, -⟩ := checks
      obtain ⟨rfl, rfl, rfl⟩ : m = n ∧ k = i ∧ x = order := by simpa using h
      have here : m.1 = f.number := by
        unfold index at number
        split at number
        · obtain rfl := Option.some.inj number
          rfl
        · cases number
      exact ⟨⟨here, signalOf_some target, code⟩, identifier, start, some, length, shift⟩
    · cases h
  · cases h

/-- SET RULE's BAD_VALUE (R26, R39). -/
theorem setRule_illegal {f : SetRule} (bad : 16 ≤ f.number ∨ 7 ≤ f.target ∨ f.order = .undefined ∨ 64 ≤ f.startBit ∨ f.length = 0 ∨
    16 < f.length ∨ 16 ≤ f.shift ∨ (f.extended = false ∧ 2048 ≤ f.identifier) ∨ 536870912 ≤ f.identifier) : SetRule.legal f = none := by
  cases legal : SetRule.legal f with
  | none => rfl
  | some x =>
    obtain ⟨n, i, order⟩ := x
    obtain ⟨⟨number, target, code⟩, identifier, start, some, length, shift⟩ := setRule_legal legal
    have inside := n.2
    have known := (signalNo i).2
    have fits : f.identifier < if f.extended = true then 536870912 else 2048 := by simpa [identifierFits] using identifier
    rw [code] at bad
    split at fits
    · rename_i extended
      simp only [extended, reduceCtorEq, false_and, false_or] at bad
      omega
    · rename_i standard
      simp only [Bool.eq_false_iff.2 standard, reduceCtorEq, true_and, false_or] at bad
      omega

/-- A change that leaves the signal table, or the rules, leaves each entry. -/
theorem signal_of_changes {ps : List Piece} {s t : State} (c : Changes ps s t) (j : SignalId)
    (signals : ps.contains .signals = false := by decide) : t.signal j = s.signal j :=
  congrArg (fun x : Table Signal 7 => x.sel (signalNo j)) (c.at .signals signals)

theorem rule_of_changes {ps : List Piece} {s t : State} (c : Changes ps s t) (m : Fin 16)
    (rules : ps.contains .rules = false := by decide) : t.rule m = s.rule m :=
  congrArg (fun x : Table Rule 16 => x.sel m) (c.at .rules rules)

/-! ### What storing a rule and clearing signals make of the tables -/

/-- Signals made NONE one after another: each of the list, and no other. -/
theorem toNone_foldl (is : List SignalId) (s : State) (j : SignalId) :
    (is.foldl (fun u i => u.putSignal i ((u.signal i).toNone i)) s).signal j = if j ∈ is then (s.signal j).toNone j else s.signal j := by
  induction is generalizing s with
  | nil => simp
  | cons i is ih =>
    rw [List.foldl_cons, ih, putSignal_signal]
    by_cases here : i = j
    · subst here
      simp [Signal.toNone]
    · simp [here, Ne.symm here]

theorem clearSignals_signal (s : State) (is : List SignalId) (j : SignalId) :
    (s.clearSignals is).signal j = if j ∈ is then (s.signal j).toNone j else s.signal j := by
  rw [← toNone_foldl]
  unfold State.clearSignals
  dsimp only
  generalize is.foldl (fun u i => u.putSignal i ((u.signal i).toNone i)) s = t
  have after : Changes (.suppression :: .notices :: reversePieces) t (((signals.filter fun i =>
      decide (is.foldl (fun m i => m ||| s.noneBit i) 0 &&& signalBit i ≠ 0)).foldl State.handStateChange
      ((t.reportSignals (is.foldl (fun m i => m ||| s.noneBit i) 0)).evalRev .bus))) :=
    (((reportSignals_changes t _).mono).trans ((evalRev_changes _ _).mono)).trans
      (Changes.foldl (fun u i => (handStateChange_changes u i).mono) _ _)
  exact signal_of_changes after j

/-- Clearing signals leaves the rules. -/
theorem clearSignals_rule (s : State) (is : List SignalId) (m : Fin 16) : (s.clearSignals is).rule m = s.rule m :=
  rule_of_changes (clearSignals_changes s is) m

/-- The signals that a stored rule touches: its target, and that of the enabled rule before it (R39). -/
def touchedBy (old r : Rule) : List SignalId := if old.enabled ∧ old.target ≠ r.target then [old.target, r.target] else [r.target]

theorem mem_touchedBy {old r : Rule} {j : SignalId} :
    j ∈ touchedBy old r ↔ j = r.target ∨ old.enabled = true ∧ j = old.target := by
  unfold touchedBy
  split
  · rename_i both
    simp only [List.mem_cons, List.not_mem_nil, or_false, both.1, true_and]
    exact or_comm
  · rename_i not
    simp only [List.mem_singleton]
    refine ⟨.inl, fun h => h.elim id fun ⟨on, here⟩ => ?_⟩
    rw [here]
    by_contra other
    exact not ⟨on, other⟩

theorem storeRule_rule (s : State) (n : Fin 16) (r : Rule) (m : Fin 16) : (s.storeRule n r).rule m = if n = m then r else s.rule m := by
  show (State.clearSignals (stored s n r) _).rule m = _
  rw [clearSignals_rule, stored_rule]

theorem storeRule_signal (s : State) (n : Fin 16) (r : Rule) (j : SignalId) : (s.storeRule n r).signal j =
    if j = r.target ∨ (s.rule n).enabled = true ∧ j = (s.rule n).target then ((stored s n r).signal j).toNone j else s.signal j := by
  have cleared : (s.storeRule n r).signal j = if j ∈ touchedBy (s.rule n) r then ((stored s n r).signal j).toNone j
      else (stored s n r).signal j := clearSignals_signal (stored s n r) _ j
  rw [cleared]
  simp only [mem_touchedBy]
  split
  · rfl
  · rename_i other
    rw [stored_signal, if_neg fun both => other (.inl both.2.symm)]

theorem emptyRule_rule (s : State) (n : Fin 16) (m : Fin 16) : (s.emptyRule n).rule m = if n = m then .cleared else s.rule m := by
  unfold State.emptyRule
  dsimp only
  rw [clearSignals_rule, putRule_rule]

theorem emptyRule_signal (s : State) (n : Fin 16) (j : SignalId) : (s.emptyRule n).signal j =
    if (s.rule n).enabled = true ∧ j = (s.rule n).target then (s.signal j).toNone j else s.signal j := by
  unfold State.emptyRule
  dsimp only
  rw [clearSignals_signal, putRule_signal]
  by_cases on : (s.rule n).enabled = true
  · simp [on]
  · simp [on]

/-! ### The two requests -/

theorem setRule_turnsAway {s : State} {f : SetRule} (bad : SetRule.legal f = none) : TurnsAway (.setRule (.whole f)) s .badValue :=
  turnsAway_of_whole rfl rfl (by rw [bad])

theorem setRule_conflicts {s : State} {f : SetRule} {n : Fin 16} {i : SignalId} {order : ByteOrder}
    (legal : SetRule.legal f = some (n, i, order)) (taken : ∃ m, m ≠ n ∧ (s.rule m).enabled = true ∧ (s.rule m).target = i) :
    TurnsAway (.setRule (.whole f)) s .conflict := by
  have taken : targetTaken (s.taking 0x20#8).recv.rules n i = true := by
    by_contra free
    obtain ⟨m, other, on, here⟩ := taken
    rw [taking_recv] at free
    exact targetTaken_false.1 (Bool.eq_false_iff.2 free) m other on here
  exact turnsAway_of_whole rfl rfl (by simp only [legal, taken, if_true])

/-- A legal SET RULE whose target is free stores its rule (R39). -/
theorem setRule_stores {s : State} {f : SetRule} {n : Fin 16} {i : SignalId} {order : ByteOrder}
    (legal : SetRule.legal f = some (n, i, order)) (free : ∀ m, m ≠ n → (s.rule m).enabled = true → (s.rule m).target ≠ i) :
    Answers (.setRule (.whole f)) s (if 20 ≤ f.timeout ∧ f.timeout ≤ 2000 then .done else .adjusted) .empty (.rules :: signalPieces)
      fun t => (∀ m, t.rule m = if n = m then SetRule.toRule f i order else s.rule m) ∧
        ∀ j, t.signal j = if j = i ∨ (s.rule n).enabled = true ∧ j = (s.rule n).target then
          ((stored s n (SetRule.toRule f i order)).signal j).toNone j else s.signal j := by
  have free : targetTaken (s.taking 0x20#8).recv.rules n i = false := by
    rw [taking_recv]
    exact targetTaken_false.2 free
  have same : ∀ j, (stored (s.taking 0x20#8) n (SetRule.toRule f i order)).signal j = (stored s n (SetRule.toRule f i order)).signal j := by
    intro j
    rw [stored_signal, stored_signal, taking_signal]
  rw [← doneOr_clamp (by decide)]
  refine answers_of_whole rfl rfl (by simp only [legal, free]; rfl) (storeRule_changes (s.taking 0x20#8) n (SetRule.toRule f i order))
    ⟨fun m => ?_, fun j => ?_⟩
  · rw [answer_rule, storeRule_rule, taking_rule]
  · rw [answer_signal, storeRule_signal, taking_rule, taking_signal, same]
    rfl

/-- Settles O24: the two requests, by their checks. -/
theorem rulesAreSetAndCleared : Obligations.RulesAreSetAndCleared := by
  refine ⟨fun s f _ => ⟨fun bad => setRule_turnsAway (setRule_illegal bad), fun n i order legal => ?_⟩, fun s k _ => ⟨fun high => ?_, fun n here => ?_⟩⟩
  · obtain ⟨⟨number, target, code⟩, -⟩ := setRule_legal legal
    refine ⟨number, target, code, setRule_conflicts legal, fun free comes => ?_⟩
    obtain ⟨t, runs, frame, requests, rules, signals⟩ := setRule_stores legal free comes
    have kept : ∀ j, (stored s n (SetRule.toRule f i order)).signal j = if f.enabled = true ∧ i = j then
        { s.signal j with timeout := max 20 (min 2000 f.timeout) } else s.signal j := by
      intro j
      rw [← clampNat_eq (by decide)]
      exact stored_signal s n (SetRule.toRule f i order) j
    refine ⟨t, runs, frame, requests, ?_, fun m other => ?_, fun j => ?_, fun j => ?_⟩
    · rw [rules, if_pos rfl, ← clampNat_eq (by decide)]
      rfl
    · rw [rules, if_neg (Ne.symm other)]
    · rw [signals]
      by_cases here : j = i
      · subst here
        rw [if_pos (.inl rfl), kept]
        by_cases on : f.enabled = true
        · simp [on, Signal.toNone]
        · simp [on, Signal.toNone]
      · rw [if_neg fun both : f.enabled = true ∧ j = i => here both.2, kept, if_neg fun both : f.enabled = true ∧ i = j => here both.2.symm]
        split <;> rfl
    · rw [signals]
      split
      · exact ⟨rfl, rfl, rfl⟩
      · rfl
  · exact turnsAway_of_whole rfl rfl (by rw [index_none high])
  · refine answers_of_whole rfl rfl (by simp only [index_some n here]; rfl) (emptyRule_changes (s.taking 0x21#8) n)
      ⟨?_, fun m other => ?_, fun j => ?_⟩
    · rw [answer_rule, emptyRule_rule, if_pos rfl]
    · rw [answer_rule, emptyRule_rule, if_neg (Ne.symm other), taking_rule]
    · rw [answer_signal, emptyRule_signal, taking_rule, taking_signal]
      split <;> rfl

end Sys2Proof.Machine
end

section
/-! SUPPORT. Which notices each operation may report (R176), and that none but the handing on of REV_EFF changes the Mixer's copy of
it (R46, R166). -/

namespace Sys2Proof.Machine

set_option Elab.async false

open Sys2Proof

/-- A fold keeps what its step keeps for each element of the list. -/
theorem foldl_keeps_of_mem {α β : Type} {P : α → Prop} {f : α → β → α} : ∀ {bs : List β} {a : α},
    (∀ a b, b ∈ bs → P a → P (f a b)) → P a → P (bs.foldl f a)
  | [], _, _, h => h
  | b :: bs, a, keeps, h =>
    foldl_keeps_of_mem (bs := bs) (fun a' b' listed => keeps a' b' (.tail _ listed)) (keeps a b (.head _) h)

/-! ### From one state to another by reports -/

/-- From one state to another only notices of the kinds and sources that `p` admits are reported, and the Mixer's REV_EFF stays. -/
structure Tells (p : Nat × Nat → Prop) (s t : State) : Prop where
  notices : ∃ rs : List Report, (∀ r ∈ rs, p (Report.key r)) ∧ t.link.notices = rs.foldl (fun q r => queueReport r q) s.link.notices
  rev : t.mixer.revEff = s.mixer.revEff

/-- Kinds that are reported in the background of a change of views: of the camera, the streams, the layers and the chimes. -/
def background (k : Nat × Nat) : Prop := 4 ≤ k.1 ∧ k.1 ≠ 9

/-- The background, and the owner changes of one output. -/
def ownerOf (o : Output) (k : Nat × Nat) : Prop := background k ∨ k = (9, (outputNo o).1)

/-- What a change of views may report: everything but the part's start, REV_EFF and the signals. -/
def viewKinds (k : Nat × Nat) : Prop := 4 ≤ k.1

theorem ownerOf_of_background {o : Output} {k : Nat × Nat} (h : background k) : ownerOf o k := .inl h
theorem viewKinds_of_background {k : Nat × Nat} (h : background k) : viewKinds k := h.1
theorem viewKinds_of_ownerOf {o : Output} {k : Nat × Nat} (h : ownerOf o k) : viewKinds k := by
  rcases h with h | rfl
  · exact h.1
  · exact (by decide : 4 ≤ 9)

section
variable {p q : Nat × Nat → Prop} {s t u : State}

theorem Tells.of_same (notices : t.link.notices = s.link.notices) (rev : t.mixer.revEff = s.mixer.revEff) : Tells p s t :=
  ⟨⟨[], nofun, notices⟩, rev⟩

theorem Tells.refl (s : State) : Tells p s s := .of_same rfl rfl

theorem Tells.trans (h : Tells p s t) (k : Tells p t u) : Tells p s u := by
  obtain ⟨rs, first, e⟩ := h.notices
  obtain ⟨rs', then', e'⟩ := k.notices
  refine ⟨⟨rs ++ rs', fun r listed => ?_, ?_⟩, k.rev.trans h.rev⟩
  · exact (List.mem_append.1 listed).elim (first r) (then' r)
  · rw [e', e, List.foldl_append]

/-- What follows a change of neither the queue nor the Mixer. -/
theorem Tells.after (h : Tells p t u) (notices : t.link.notices = s.link.notices) (rev : t.mixer.revEff = s.mixer.revEff) : Tells p s u :=
  (of_same notices rev).trans h

theorem Tells.mono (h : Tells p s t) (sub : ∀ {k}, p k → q k) : Tells q s t := by
  obtain ⟨rs, first, e⟩ := h.notices
  exact ⟨⟨rs, fun r listed => sub (first r listed), e⟩, h.rev⟩

theorem Tells.of_changes {ps : List Piece} (c : Changes ps s t) (notices : ps.contains .notices = false := by decide)
    (mixer : ps.contains .mixer = false := by decide) : Tells p s t :=
  .of_same (c.at .notices notices) (by rw [show t.mixer = s.mixer from c.at .mixer mixer])

theorem Tells.report (s : State) {r : Report} (h : p (Report.key r)) : Tells p s (s.report r) :=
  ⟨⟨[r], by simpa using h, rfl⟩, rfl⟩

theorem Tells.ite {c : Prop} [Decidable c] (h : Tells p s t) (k : Tells p s u) : Tells p s (if c then t else u) := by
  split
  · exact h
  · exact k

theorem Tells.foldl {α : Type} {f : State → α → State} (h : ∀ t x, Tells p t (f t x)) : ∀ (xs : List α) (s : State),
    Tells p s (xs.foldl f s)
  | [], s => .refl s
  | x :: xs, s => (h s x).trans (Tells.foldl h xs (f s x))

/-- An entry of a kind that is not reported stays as it is. -/
theorem Tells.keeps (h : Tells p s t) {x : NoticeEntry} (listed : x ∈ s.link.notices) (other : ¬ p (Report.key x.report)) :
    x ∈ t.link.notices := by
  obtain ⟨rs, admitted, e⟩ := h.notices
  rw [e]
  exact foldl_keeps_of_mem (P := fun q : List NoticeEntry => x ∈ q)
    (fun q r listed' kept => mem_queueReport (fun same => other (by rw [same]; exact admitted r listed')) kept) listed

/-- The queue loses no kind and source, and gains only those reported. -/
theorem Tells.keys (h : Tells p s t) (k : Nat × Nat) : (k ∈ s.noticeKeys → k ∈ t.noticeKeys) ∧
    (k ∈ t.noticeKeys → k ∈ s.noticeKeys ∨ p k) := by
  obtain ⟨rs, admitted, e⟩ := h.notices
  have queue : ∀ (rs : List Report) (q : List NoticeEntry), (∀ r ∈ rs, p (Report.key r)) →
      let after := (rs.foldl (fun q r => queueReport r q) q).map fun e => Report.key e.report
      (k ∈ q.map (fun e => Report.key e.report) → k ∈ after) ∧ (k ∈ after → k ∈ q.map (fun e => Report.key e.report) ∨ p k) := by
    intro rs
    induction rs with
    | nil => exact fun q _ => ⟨id, .inl⟩
    | cons r rs ih =>
      intro q admitted
      obtain ⟨grows, new⟩ := ih (queueReport r q) fun r' listed => admitted r' (.tail _ listed)
      refine ⟨fun old => grows ((mem_keys_queueReport q).2 (.inl old)), fun now => ?_⟩
      rcases new now with before | admits
      · rcases (mem_keys_queueReport q).1 before with old | rfl
        · exact .inl old
        · exact .inr (admitted r (.head _))
      · exact .inr admits
  unfold State.noticeKeys
  rw [e]
  exact queue rs _ admitted

end

theorem Tells.has {p : Nat × Nat → Prop} {s t : State} (h : Tells p s t) {k : Nat × Nat} (queued : k ∈ s.noticeKeys) : k ∈ t.noticeKeys :=
  (h.keys k).1 queued

theorem Tells.hasNot {p : Nat × Nat → Prop} {s t : State} (h : Tells p s t) {k : Nat × Nat} (other : ¬ p k) (queued : k ∈ t.noticeKeys) :
    k ∈ s.noticeKeys := ((h.keys k).2 queued).resolve_right other

/-! ### Streams, layers and the camera -/

theorem setStreamState_tells (s : State) (i : StreamId) (x : StreamState) : Tells background s (s.setStreamState i x) :=
  (Tells.of_changes (putStream_changes s i _)).trans (.report _ (by simp [background, Report.key]))

theorem pace_tells (s : State) (i : StreamId) (e : Nat) : Tells background s (s.pace i e) := by
  unfold State.pace
  refine .ite ?_ (.refl s)
  dsimp only
  generalize choose _ _ _ _ _ _ = x
  generalize e : s.putStream i _ = u
  have put : Tells background s u := e ▸ .of_changes (putStream_changes s i _)
  have late : Tells background s (if x.late = 0 then u else u.report (.streamTrouble i { lateDrop := true })) :=
    .ite put (put.trans (.report u (by simp [background, Report.key])))
  exact .ite (late.trans (setStreamState_tells _ i _)) late

theorem dropSlot_tells (s : State) (i : StreamId) (k : Nat) (stamp : Option Nat) : Tells background s (s.dropSlot i k stamp) :=
  (Tells.ite (.of_changes (putStream_changes s i _)) (.refl s)).trans (.report _ (by simp [background, Report.key]))

theorem flip_tells (s : State) (n : Fin 24) : Tells background s (s.flip n) := by
  have event : ∀ (u : State) (c : Bool) (a b d : BitVec 24), Tells background u (if c = true then u.report (.layerEvent a b d) else u) :=
    fun u c a b d => .ite (.report u (by simp [background, Report.key])) (.refl u)
  unfold State.flip
  dsimp only
  generalize e : s.putLayer n _ = u
  have put : Tells background s u := e ▸ .of_changes (putLayer_changes s n _)
  exact (put.trans (event u _ _ _ _)).trans (event _ _ _ _ _)

theorem flipWhere_tells (s : State) (p : State → Fin 24 → Bool) : Tells background s (s.flipWhere p) :=
  .foldl (fun t n => .ite (flip_tells t n) (.refl t)) _ s

theorem settleFlips_tells (s : State) : Tells background s s.settleFlips := flipWhere_tells s _

theorem damageLayer_tells (s : State) (n : Fin 24) (i : Nat) : Tells background s (s.damageLayer n i) :=
  ((Tells.of_changes (putLayer_changes s n _)).trans (.report _ (by simp [background, Report.key, damagedEvent]))).trans
    (settleFlips_tells _)

theorem handGuide_tells {p : Nat × Nat → Prop} (s : State) (f : Guide → Guide)
    (h : (f s.guide).geometry = s.guide.geometry ∧ (f s.guide).valid = s.guide.valid ∧ (f s.guide).style = s.guide.style) :
    Tells p s (s.handGuide f) := .of_changes (handGuide_changes s f h)

theorem setCameraStatus_tells (s : State) (x : CameraStatus) : Tells background s (s.setCameraStatus x) :=
  ((Tells.of_same rfl rfl : Tells background s { s with cam := { s.cam with status := x } }).trans
    (.report _ (by simp [background, Report.key]))).trans (handGuide_tells _ _ ⟨rfl, rfl, rfl⟩)

theorem wakeCamera_tells (s : State) : Tells background s s.wakeCamera :=
  (setCameraStatus_tells _ _).after rfl rfl

theorem stopCamera_tells (s : State) : Tells background s s.stopCamera :=
  (setCameraStatus_tells _ _).after rfl rfl

theorem followCamera_tells (s : State) : Tells background s s.followCamera :=
  .ite (.ite (wakeCamera_tells s) (.refl s)) (.ite (.refl s) (stopCamera_tells s))

theorem recomputeDemand_tells (s : State) : Tells background s s.recomputeDemand :=
  .ite (.refl s) (((followCamera_tells _).trans (handGuide_tells _ _ ⟨rfl, rfl, rfl⟩)).after rfl rfl)

/-! ### Chimes -/

theorem syncPlaying_tells {p : Nat × Nat → Prop} (s : State) : Tells p s s.syncPlaying := .ite (.refl s) (.of_same rfl rfl)

theorem chooseChime_tells {p : Nat × Nat → Prop} (s : State) : Tells p s s.chooseChime := .of_changes (chooseChime_changes s)

theorem endEntry_tells (s : State) (i : Fin 8) (why : ChimeEnd) : Tells background s (s.endEntry i why) := by
  unfold State.endEntry
  split
  · exact .refl s
  · rename_i e _
    have ended : Tells background s ((s.putEntry i none).report (.chimeEnded i e.tag why)) :=
      (Tells.of_changes (putEntry_changes s i none)).trans (.report _ (by simp [background, Report.key]))
    exact .ite (ended.trans (.of_same rfl rfl)) ended

theorem makeEntry_tells {p : Nat × Nat → Prop} (s : State) (i : Fin 8) (c : ChimeClass) (o : ChimeOrigin) (x : Sound) (n : Nat) (tag : Byte) :
    Tells p s (s.makeEntry i c o x n tag) := .of_changes (makeEntry_changes s i c o x n tag)

theorem admitPark_tells (s : State) (x : Sound) (n : Nat) : Tells background s (s.admitPark x n).1 := by
  unfold State.admitPark
  split
  · exact (makeEntry_tells s _ _ _ _ _ _).trans (chooseChime_tells _)
  · split
    · split
      · exact .refl s
      · exact ((endEntry_tells s _ _).trans (makeEntry_tells _ _ _ _ _ _ _)).trans (chooseChime_tells _)
    · exact .refl s

theorem cancelPark_tells (s : State) : Tells background s s.cancelPark := by
  unfold State.cancelPark
  split
  · exact (endEntry_tells s _ _).trans (chooseChime_tells _)
  · exact .refl s

theorem makeSensorChime_tells (s : State) : Tells background s s.makeSensorChime :=
  .ite ((admitPark_tells s _ _).trans (.of_same rfl rfl)) (admitPark_tells s _ _)

theorem makeBeat_tells (s : State) (m : ParkMode) (x : Sound) : Tells background s (s.makeBeat m x) :=
  .ite ((admitPark_tells s _ _).trans (.of_same rfl rfl)) (admitPark_tells s _ _)

theorem changeBeat_tells {p : Nat × Nat → Prop} (s : State) (m : ParkMode) (x : Sound) : Tells p s (s.changeBeat m x) := by
  unfold State.changeBeat
  dsimp only
  split <;> exact .of_same rfl rfl

theorem applyWish_tells (s : State) (w : ParkWish) (b : Bool) : Tells background s (s.applyWish w b) := by
  unfold State.applyWish
  split
  · exact .refl s
  · exact makeSensorChime_tells s
  · exact makeBeat_tells s _ _
  · exact .ite (.refl s) (cancelPark_tells s)
  · exact .refl s
  · exact (cancelPark_tells s).trans (makeBeat_tells _ _ _)
  · exact cancelPark_tells s
  · exact (cancelPark_tells s).trans (makeSensorChime_tells _)
  · exact changeBeat_tells s _ _

theorem decidePark_tells (s : State) : Tells background s s.decidePark := .ite (applyWish_tells s _ _) (.refl s)

theorem afterEnd_tells (s : State) : Tells background s s.afterEnd :=
  (chooseChime_tells s).trans (.ite (decidePark_tells _) (.refl _))

theorem parkEvent_tells (s : State) : Tells background s s.parkEvent := (decidePark_tells s).trans (syncPlaying_tells _)

theorem chimeRise_tells (s : State) : Tells background s s.chimeRise :=
  ((decidePark_tells _).trans (syncPlaying_tells _)).after rfl rfl

theorem chimeFall_tells (s : State) : Tells background s s.chimeFall :=
  (cancelPark_tells s).trans ((syncPlaying_tells _).after rfl rfl)

theorem damageSample_tells (s : State) (n : Fin 16) : Tells background s (s.damageSample n) := by
  unfold State.damageSample
  dsimp only
  generalize e : s.putSample n _ = u
  have put : Tells background s u := e ▸ .of_changes (putSample_changes s n _)
  refine .ite (put.trans (Tells.trans (Tells.trans ?_ (afterEnd_tells _)) (syncPlaying_tells _))) put
  exact .foldl (fun t i => .ite (endEntry_tells t i _) (.refl t)) _ u

/-! ### Consequences and refresh events -/

theorem handConsequence_tells (s : State) (c : Consequence) : Tells background s (s.handConsequence c) := by
  unfold State.handConsequence
  split
  · exact dropSlot_tells s _ _ _
  · exact damageLayer_tells s _ _
  · exact .of_changes (discardCapture_changes s _)
  · exact .of_changes (requestRecompute_changes s)
  · exact damageSample_tells s _

theorem handDue_tells (s : State) (r : Reader) : Tells background s (s.handDue r) :=
  (Tells.foldl handConsequence_tells _ _).after rfl rfl

theorem handAndPace_tells (s : State) (o : Output) : Tells background s (s.handAndPace o) := by
  have free : ∀ n, Tells background s { s with free := n } := fun _ => .of_same rfl rfl
  unfold State.handAndPace
  split
  · exact handDue_tells s _
  · dsimp only
    refine .ite (.ite ?_ ?_) ((handDue_tells s _).trans (pace_tells _ _ _))
    · exact ((free _).trans (pace_tells _ _ _)).trans (handDue_tells _ _)
    · exact ((free _).trans (handDue_tells _ _)).trans (pace_tells _ _ _)

theorem refreshLayers_tells (s : State) (o : Output) : Tells background s (s.refreshLayers o) :=
  ((flipWhere_tells (s.putOut o { s.out o with shownCard := s.cardOf o }) _).trans (settleFlips_tells _)).after rfl rfl

theorem refresh_tells (s : State) (o : Output) : Tells background s (s.refresh o) := by
  unfold State.refresh
  refine .ite (.refl s) ?_
  dsimp only
  have ended := ((Tells.of_changes (endFrame_changes s o)).trans (handAndPace_tells _ o)).trans (.of_changes (released_changes _ o))
  have shown := ended.trans (refreshLayers_tells _ o)
  clear ended
  generalize State.refreshLayers _ o = u at shown ⊢
  exact shown.trans (.of_changes (beginNext_changes u o))

/-! ### Views, and the handing on of signals and REV_EFF -/

section
variable (s : State) (o : Output) (why : OwnerReason)

theorem ownerChanged_tells : Tells (ownerOf o) s (s.ownerChanged o why) :=
  (Tells.report s (r := .outputOwner o (s.out o).owner why) (.inr rfl)).trans
    (((settleFlips_tells _).trans (recomputeDemand_tells _)).mono ownerOf_of_background)

theorem setOwner_tells (r : OutputRec) : Tells (ownerOf o) s (s.setOwner o r why) :=
  (Tells.of_changes (putOut_changes s o r)).trans (ownerChanged_tells _ o why)

theorem turnOff_tells : Tells (ownerOf o) s (s.turnOff o why) := by
  unfold State.turnOff
  dsimp only
  have handed := (handDue_tells s (.scan o)).mono (q := ownerOf o) ownerOf_of_background
  generalize s.handDue (.scan o) = t at handed ⊢
  have off := handed.trans (.of_changes (putOut_changes t o { t.out o with
    owner := .off, enabled := false, wasOff := false, linger := none, frame := none }))
  generalize t.putOut o _ = u at off ⊢
  have any : Tells (ownerOf o) u (if o = .centre then u.flipByAnyView else u) := .ite (.of_changes (flipByAnyView_changes u)) (.refl u)
  have released := (((off.trans any).trans (.of_changes (releaseScan_changes _ o))).trans (.of_changes (releaseCapture_changes _ o))).trans
    (.of_changes (releaseGuide_changes _ o))
  exact released.trans (ownerChanged_tells _ o why)

theorem toNormal_tells : Tells (ownerOf o) s (s.toNormal o why) := setOwner_tells s o why _

theorem afterView_tells : Tells (ownerOf o) s (s.afterView o why) := .ite (turnOff_tells s o why) (toNormal_tells s o why)

theorem speedTestOf_tells : Tells (ownerOf o) s (s.speedTestOf o) := by
  unfold State.speedTestOf
  dsimp only
  refine .ite ?_ (.refl s)
  split
  · exact afterView_tells s o _
  · exact .ite (toNormal_tells s o _) (.refl s)
  · exact .refl s
  · exact .refl s

theorem forceOn_tells : Tells (ownerOf o) s (s.forceOn o) :=
  (setOwner_tells s o _ _).trans ((refresh_tells _ o).mono ownerOf_of_background)

theorem riseOf_tells : Tells (ownerOf o) s (s.riseOf o) := by
  unfold State.riseOf
  dsimp only
  split
  · exact .ite (forceOn_tells s o) (.refl s)
  · exact .ite (setOwner_tells s o _ _) (.refl s)
  · exact setOwner_tells s o _ _
  · exact .ite ((Tells.of_changes (putOut_changes s o _)).trans (.report _ (.inr rfl))) (.refl s)

theorem fallOf_tells : Tells (ownerOf o) s (s.fallOf o) := by
  unfold State.fallOf
  dsimp only
  exact .ite (.ite (afterView_tells s o _) ((setOwner_tells s o _ _).trans (speedTestOf_tells _ o))) (.refl s)

end

theorem outputs_tells {f : State → Output → State} (h : ∀ t o, Tells (ownerOf o) t (f t o)) (s : State) :
    Tells viewKinds s (outputs.foldl f s) := .foldl (fun t o => (h t o).mono viewKinds_of_ownerOf) _ s

theorem viewRise_tells (s : State) : Tells viewKinds s s.viewRise := outputs_tells riseOf_tells s

theorem viewFall_tells (s : State) : Tells viewKinds s s.viewFall := outputs_tells fallOf_tells s

theorem handSpeed_tells (s : State) : Tells viewKinds s s.handSpeed :=
  (Tells.of_changes (suppressionTest_changes s)).trans (outputs_tells speedTestOf_tells _)

theorem handUpdates_tells (s : State) (updated : List SignalId) (mask : BitVec 7) : Tells viewKinds s (s.handUpdates updated mask) := by
  unfold State.handUpdates
  dsimp only
  have steered : Tells viewKinds s (if updated.contains .steerAngle then s.steerUpdated (decide (mask &&& signalBit .steerAngle ≠ 0)) else s) :=
    .ite (.of_changes (steerUpdated_changes s _)) (.refl s)
  generalize (if updated.contains .steerAngle then s.steerUpdated (decide (mask &&& signalBit .steerAngle ≠ 0)) else s) = a at steered ⊢
  have sped : Tells viewKinds s (if updated.contains .speed then a.handSpeed else a) := steered.trans (.ite (handSpeed_tells a) (.refl a))
  generalize (if updated.contains .speed then a.handSpeed else a) = b at sped ⊢
  exact sped.trans (.ite ((parkEvent_tells b).mono viewKinds_of_background) (.refl b))

theorem handStateChange_tells (s : State) (i : SignalId) : Tells viewKinds s (s.handStateChange i) := by
  cases i with
  | reverse => exact .refl s
  | steerAngle =>
    unfold State.handStateChange
    dsimp only
    split
    · exact .of_changes (steerLost_changes s)
    · exact .of_changes (steerLost_changes s)
    · exact .refl s
    · exact .refl s
  | speed => exact handSpeed_tells s
  | distOuterL | distInnerL | distInnerR | distOuterR => exact (parkEvent_tells s).mono viewKinds_of_background

/-- A change of REV_EFF is handed on: what it reports of views and chimes, and the Mixer's copy (R46, R166). -/
theorem handRevEff_tells (s : State) (rev : Bool) : (∃ u, Tells viewKinds s u ∧ s.handRevEff rev = u.handMixerRev rev) ∧
    (s.handRevEff rev).mixer.revEff = rev := by
  refine ⟨⟨_, ?_, rfl⟩, rfl⟩
  have views : Tells viewKinds s (if s.isStarting then s else if rev then s.viewRise else s.viewFall) :=
    .ite (.refl s) (.ite (viewRise_tells s) (viewFall_tells s))
  generalize (if s.isStarting then s else if rev then s.viewRise else s.viewFall) = t at views ⊢
  exact views.trans (.ite (.refl t) (.ite ((chimeRise_tells t).mono viewKinds_of_background) ((chimeFall_tells t).mono viewKinds_of_background)))

/-- An evaluation of REV_EFF loses no kind and source from the queue; where it changes REV_EFF it queues REVERSE_CHANGED, and the
Mixer holds the new one (R46). -/
theorem evalRev_notices (s : State) (fall : RevContribution) :
    (∀ k, k ∈ s.noticeKeys → k ∈ (s.evalRev fall).noticeKeys) ∧
    (∀ k, ¬ viewKinds k → k ≠ (2, 0) → k ∈ (s.evalRev fall).noticeKeys → k ∈ s.noticeKeys) ∧
    ((s.evalRev fall).recv.revEff ≠ s.recv.revEff →
      (2, 0) ∈ (s.evalRev fall).noticeKeys ∧ (s.evalRev fall).mixer.revEff = (s.evalRev fall).recv.revEff) := by
  unfold State.evalRev
  dsimp only
  generalize revOf s.recv.source s.recv.line s.busTerm = rev
  split
  · exact ⟨fun _ => id, fun _ _ _ => id, fun changed => absurd rfl changed⟩
  · generalize (if rev = true then riseSource s.recv.line s.busTerm else fall) = source
    obtain ⟨⟨u, tells, e⟩, mixer⟩ := handRevEff_tells
      (State.report { s with recv := { s.recv with revEff := rev } } (.reverseChanged rev source)) rev
    have keys : (State.handRevEff (State.report { s with recv := { s.recv with revEff := rev } } (.reverseChanged rev source)) rev).noticeKeys =
        u.noticeKeys := by rw [e]; rfl
    have reported : ∀ k, k ∈ (State.report { s with recv := { s.recv with revEff := rev } } (.reverseChanged rev source)).noticeKeys ↔
        k ∈ s.noticeKeys ∨ k = (2, 0) := fun k => mem_noticeKeys_report
    rw [keys, mixer, handRevEff_recv]
    refine ⟨fun k queued => tells.has ((reported k).2 (.inl queued)), fun k other not queued => ?_,
      fun _ => ⟨tells.has ((reported _).2 (.inr rfl)), rfl⟩⟩
    exact ((reported k).1 (tells.hasNot other queued)).resolve_right not

end Sys2Proof.Machine
end

section
/-! PROOFS. The reverse line, the reverse source and REV_EFF (R43 to R47). -/

namespace Sys2Proof.Machine

set_option Elab.async false

open Sys2Proof

/-- The bus term reads REVERSE and the LOST latch alone (R44). -/
theorem busTerm_of_changes {ps : List Piece} {s t : State} (c : Changes ps s t) (signals : ps.contains .signals = false := by decide)
    (latch : ps.contains .lostLatch = false := by decide) : t.busTerm = s.busTerm := by
  have latched : t.recv.lostLatch = s.recv.lostLatch := c.at .lostLatch latch
  unfold State.busTerm
  rw [signal_of_changes c .reverse signals, latched]

/-- The bus term, case by case (R44). -/
theorem busTerm_eq (s : State) : s.busTerm = (match (s.signal .reverse).state with
    | .none => false
    | .fresh => decide ((s.signal .reverse).value = 1)
    | .held => decide ((s.signal .reverse).value = 1)
    | .lost => s.recv.lostLatch) := by
  unfold State.busTerm
  cases (s.signal .reverse).state <;> rfl

/-- REV_EFF's source, case by case (R45). -/
theorem revOf_eq (x : ReverseSource) (line bus : Bool) : revOf x line bus = (match x with
    | .line => line
    | .bus => bus
    | .either => line || bus) := by cases x <;> rfl

theorem reached_eq (timer : Option Nat) (ms : Nat) : reached timer ms = timer.any fun e => decide (ms * 10 ≤ e) := by
  cases timer <;> rfl

theorem reached_some {timer : Option Nat} {e ms : Nat} (runs : timer = some e) (there : ms * 10 ≤ e) : reached timer ms = true := by
  rw [reached_eq, runs]
  simpa using there

theorem reached_none {timer : Option Nat} {ms : Nat} (before : ∀ e, timer = some e → e < ms * 10) : reached timer ms = false := by
  rw [reached_eq]
  cases timer with
  | none => rfl
  | some e => simpa using before e rfl

/-! ### The debouncer (R43) -/

theorem debounced_due {s : State} (due : reached s.recv.debounce s.recv.debounceTime = true) :
    s.debounced = s.lineSettles.evalRev .line := if_pos due

theorem debounced_early {s : State} (early : reached s.recv.debounce s.recv.debounceTime = false) : s.debounced = s := by
  unfold State.debounced
  rw [if_neg (by rw [early]; exact nofun)]

theorem lineSettles_busTerm (s : State) : s.lineSettles.busTerm = s.busTerm := busTerm_of_changes (lineSettles_changes s)

/-- The receiver after the debounce timer has expired. -/
theorem debounced_recv {s : State} (due : reached s.recv.debounce s.recv.debounceTime = true) : s.debounced.recv = { s.recv with
    line := s.recv.rawLine, debounce := none, revEff := revOf s.recv.source s.recv.rawLine s.busTerm } := by
  rw [debounced_due due, evalRev_recv, lineSettles_busTerm]
  rfl

/-- The receiver after the source and the debounce time have been taken. -/
theorem source_recv (s : State) (x : ReverseSource) (n : Nat) :
    (State.debounceProceeds { s with recv := { s.recv with source := x, debounceTime := n } }).recv = { s.recv with
      source := x, debounceTime := n, line := if reached s.recv.debounce n then s.recv.rawLine else s.recv.line
      debounce := if reached s.recv.debounce n then none else s.recv.debounce } := by
  unfold State.debounceProceeds
  dsimp only
  split
  · rename_i due
    rfl
  · rfl

theorem takeReverseSource_recv (s : State) (x : ReverseSource) (n : Nat) : (s.takeReverseSource x n).recv = { s.recv with
    source := x, debounceTime := n, line := if reached s.recv.debounce n then s.recv.rawLine else s.recv.line
    debounce := if reached s.recv.debounce n then none else s.recv.debounce
    revEff := revOf x (if reached s.recv.debounce n then s.recv.rawLine else s.recv.line) s.busTerm } := by
  unfold State.takeReverseSource
  rw [evalRev_recv, busTerm_of_changes (source_changes s x n), source_recv]

theorem takeReverseSource_notices (s : State) (x : ReverseSource) (n : Nat) : (s.takeReverseSource x n).recv.revEff ≠ s.recv.revEff →
    (2, 0) ∈ (s.takeReverseSource x n).noticeKeys ∧ (s.takeReverseSource x n).mixer.revEff = (s.takeReverseSource x n).recv.revEff := by
  obtain ⟨-, -, changed⟩ := evalRev_notices (State.debounceProceeds { s with recv := { s.recv with source := x, debounceTime := n } }) .setting
  rw [source_recv] at changed
  exact changed

/-- SET REVERSE SOURCE with a defined source (R47). -/
theorem setReverseSource_answers (s : State) (x : ReverseSource) (time : Nat) :
    Answers (.setReverseSource (.whole ⟨.legal x, time⟩)) s (if 10 ≤ time ∧ time ≤ 200 then .done else .adjusted) .empty
      (.reverse :: reversePieces) fun t => t.recv = (s.takeReverseSource x (clampNat 10 200 time)).recv ∧
        (t.recv.revEff ≠ s.recv.revEff → (2, 0) ∈ t.noticeKeys ∧ t.mixer.revEff = t.recv.revEff) := by
  rw [← doneOr_clamp (by decide)]
  refine answers_of_whole rfl rfl rfl (takeReverseSource_changes (s.taking 0x24#8) x (clampNat 10 200 time)) ⟨?_, ?_⟩
  · rw [answer_recv, takeReverseSource_recv, takeReverseSource_recv, taking_recv, busTerm_of_recv (taking_recv s _)]
  · have changed := takeReverseSource_notices (s.taking 0x24#8) x (clampNat 10 200 time)
    rw [taking_recv] at changed
    exact changed

/-- Settles O23: the debouncer, its timer and the source, each by what it makes of the receiver. -/
theorem reverseLineAndSource : Obligations.ReverseLineAndSource := by
  unfold Obligations.ReverseLineAndSource
  intro term given
  have term_eq : ∀ s, term s = s.busTerm := fun s => (busTerm_eq s).symm
  have given_eq : ∀ x line bus, given x line bus = revOf x line bus := fun x line bus => (revOf_eq x line bus).symm
  refine ⟨fun s level => ⟨_, rfl, lineChange_changes s level, rfl⟩, fun s e runs there => ?_, fun s before => ?_, fun s time _ => ⟨?_, fun src => ?_⟩⟩
  · have due := reached_some runs there
    have recv := debounced_recv due
    obtain ⟨-, -, changed⟩ := evalRev_notices s.lineSettles .line
    rw [← debounced_due due] at changed
    refine ⟨_, rfl, debounced_changes s, ?_, ?_, ?_, ?_, ?_, ?_, changed⟩
    all_goals rw [recv]
    rw [given_eq, term_eq]
  · show Host.Outcome.next s.debounced = _
    rw [debounced_early (reached_none before)]
  · exact turnsAway_of_whole rfl rfl rfl
  · intro comes
    obtain ⟨t, runs, frame, requests, recv, changed⟩ := setReverseSource_answers s src time comes
    rw [takeReverseSource_recv, clampNat_eq (by decide), reached_eq] at recv
    refine ⟨t, runs, frame, requests, ?_, ?_, ?_, ?_, ?_, changed⟩
    all_goals rw [recv]
    rw [given_eq, term_eq]

end Sys2Proof.Machine
end

section
/-! PROOFS. Signals age to HELD and LOST (R35 to R37, R44, R145, R148). -/

namespace Sys2Proof.Machine

set_option Elab.async false

open Sys2Proof

/-! ### What one signal's change reports, and what evaluates of it -/

theorem signalBit_ne (i : SignalId) : signalBit i ≠ 0 := by cases i <;> decide

/-- SIGNAL_STATE is in the queue where a signal has changed state (R37). -/
theorem reportSignals_has (s : State) {mask : BitVec 7} (some : mask ≠ 0) : (3, 0) ∈ (s.reportSignals mask).noticeKeys := by
  unfold State.reportSignals
  rw [if_neg some]
  exact mem_noticeKeys_report.2 (.inr rfl)

/-- A signal that the bus term and the latch test do not read leaves REV_EFF settled (R44). -/
theorem putSignal_settled {s : State} (h : ReverseSettled s) {i : SignalId} (x : Signal) (reverse : i ≠ .reverse) (speed : i ≠ .speed) :
    ReverseSettled (s.putSignal i x) := by
  have rev : (s.putSignal i x).signal .reverse = s.signal .reverse := putSignal_signal_ne s i x reverse
  have fast : (s.putSignal i x).signal .speed = s.signal .speed := putSignal_signal_ne s i x speed
  obtain ⟨settled, tested⟩ := h
  refine ⟨?_, ?_⟩
  · unfold State.busTerm
    rw [rev]
    exact settled
  · unfold LatchTested State.speedEnds at *
    rw [rev, fast]
    exact tested

theorem evalRev_signal (s : State) (fall : RevContribution) (j : SignalId) : (s.evalRev fall).signal j = s.signal j :=
  signal_of_changes (evalRev_changes s fall) j

/-- What handing on a state change of a signal leaves of the signals and the queue (R37, R38). -/
theorem handStateChange_rest (s : State) (i : SignalId) : (∀ j, (s.handStateChange i).signal j = s.signal j) ∧
    ∀ k, k ∈ s.noticeKeys → k ∈ (s.handStateChange i).noticeKeys :=
  ⟨signal_of_changes (handStateChange_changes s i), fun _ => (handStateChange_tells s i).has⟩

/-! ### FRESH to HELD (R36) -/

/-- A signal's record in HELD. -/
def Signal.toHeld (x : Signal) : Signal := { x with state := .held }

theorem signalHeld_eq {s : State} {i : SignalId} (fresh : (s.signal i).state = .fresh)
    (due : reached (s.signal i).timer (s.signal i).timeout = true) : s.signalHeld i =
    ((((s.putSignal i (s.signal i).toHeld).reportSignals (signalBit i)).evalRev .bus).handStateChange i) := if_pos ⟨fresh, due⟩

theorem signalHeld_rest {s : State} {i : SignalId} (fresh : (s.signal i).state = .fresh)
    (due : reached (s.signal i).timer (s.signal i).timeout = true) :
    (∀ j, (s.signalHeld i).signal j = if i = j then (s.signal i).toHeld else s.signal j) ∧ (3, 0) ∈ (s.signalHeld i).noticeKeys := by
  rw [signalHeld_eq fresh due]
  obtain ⟨signals, keys⟩ := handStateChange_rest (((s.putSignal i (s.signal i).toHeld).reportSignals (signalBit i)).evalRev .bus) i
  refine ⟨fun j => ?_, keys _ ((evalRev_notices _ .bus).1 _ (reportSignals_has _ (signalBit_ne i)))⟩
  rw [signals, evalRev_signal, signal_of_changes (reportSignals_changes _ _), putSignal_signal]

/-- STEER_ANGLE in HELD leaves the Generator as it is (R145). -/
theorem signalHeld_steer {s : State} (settled : ReverseSettled s) (fresh : (s.signal .steerAngle).state = .fresh)
    (due : reached (s.signal .steerAngle).timer (s.signal .steerAngle).timeout = true) : (s.signalHeld .steerAngle).guide = s.guide := by
  have still := settled_of_changes (reportSignals_changes (s.putSignal .steerAngle (s.signal .steerAngle).toHeld) (signalBit .steerAngle))
    (putSignal_settled settled (s.signal .steerAngle).toHeld nofun nofun)
  have held : (((s.putSignal .steerAngle (s.signal .steerAngle).toHeld).reportSignals (signalBit .steerAngle)).signal .steerAngle).state =
      .held := by
    rw [signal_of_changes (reportSignals_changes _ _), putSignal_signal_same]
    rfl
  rw [signalHeld_eq fresh due, evalRev_of_settled still]
  unfold State.handStateChange
  simp only [held]
  rfl

/-! ### HELD to LOST (R36, R44) -/

/-- A signal's record in LOST, at its safe value. -/
def Signal.toLost (x : Signal) (i : SignalId) : Signal := { x with state := .lost, value := safeValue i }

/-- A HELD signal becomes LOST, and REVERSE leaves its value in the latch (R36, R44). -/
def State.loseSignal (s : State) (i : SignalId) : State :=
  if i = .reverse then
    { s.putSignal i ((s.signal i).toLost i) with recv := { (s.putSignal i ((s.signal i).toLost i)).recv with
      lostLatch := decide ((s.signal i).value = 1) } }
  else s.putSignal i ((s.signal i).toLost i)

theorem loseSignal_other (s : State) {i : SignalId} (other : i ≠ .reverse) : s.loseSignal i = s.putSignal i ((s.signal i).toLost i) :=
  if_neg other

theorem loseSignal_signal (s : State) (i j : SignalId) : (s.loseSignal i).signal j = if i = j then (s.signal i).toLost i else s.signal j := by
  rw [← putSignal_signal]
  unfold State.loseSignal
  split <;> rfl

theorem loseSignal_changes (s : State) (i : SignalId) : Changes [.signals, .lostLatch] s (s.loseSignal i) := by
  unfold State.loseSignal
  have lost := (putSignal_changes s i ((s.signal i).toLost i)).mono (qs := [.signals, .lostLatch])
  exact .ite (lost.trans ((setLatch_changes _ _).mono)) lost

theorem signalLost_eq {s : State} {i : SignalId} (held : (s.signal i).state = .held)
    (due : reached (s.signal i).timer (3 * (s.signal i).timeout) = true) : s.signalLost i =
    ((((s.loseSignal i).reportSignals (signalBit i)).latchTest).evalRev .bus).handStateChange i := if_pos ⟨held, due⟩

theorem signalLost_rest {s : State} {i : SignalId} (held : (s.signal i).state = .held)
    (due : reached (s.signal i).timer (3 * (s.signal i).timeout) = true) :
    (∀ j, (s.signalLost i).signal j = if i = j then (s.signal i).toLost i else s.signal j) ∧ (3, 0) ∈ (s.signalLost i).noticeKeys := by
  rw [signalLost_eq held due]
  obtain ⟨signals, keys⟩ := handStateChange_rest ((((s.loseSignal i).reportSignals (signalBit i)).latchTest).evalRev .bus) i
  have tested : Tells viewKinds ((s.loseSignal i).reportSignals (signalBit i)) ((s.loseSignal i).reportSignals (signalBit i)).latchTest :=
    .of_changes (latchTest_changes _)
  refine ⟨fun j => ?_, keys _ ((evalRev_notices _ .bus).1 _ (tested.has (reportSignals_has _ (signalBit_ne i))))⟩
  rw [signals, evalRev_signal, signal_of_changes (latchTest_changes _), signal_of_changes (reportSignals_changes _ _), loseSignal_signal]

/-- The latch that REVERSE leaves as it becomes LOST (R44). -/
theorem loseReverse_latch (s : State) : ((s.loseSignal .reverse).reportSignals (signalBit .reverse)).latchTest.recv.lostLatch =
    (decide ((s.signal .reverse).value = 1) && !s.speedEnds) := by
  have lost : (((s.loseSignal .reverse).reportSignals (signalBit .reverse)).signal .reverse).state = .lost := by
    rw [signal_of_changes (reportSignals_changes _ _), loseSignal_signal, if_pos rfl]
    rfl
  have ends : ((s.loseSignal .reverse).reportSignals (signalBit .reverse)).speedEnds = s.speedEnds := by
    rw [speedEnds_of_changes (reportSignals_changes _ _)]
    have policy : (s.loseSignal .reverse).comp.policy = s.comp.policy := (loseSignal_changes s .reverse).at .policy
    unfold State.speedEnds
    rw [loseSignal_signal, if_neg (by decide), policy]
  have latch : ((s.loseSignal .reverse).reportSignals (signalBit .reverse)).recv.lostLatch = decide ((s.signal .reverse).value = 1) :=
    ((reportSignals_changes (s.loseSignal .reverse) (signalBit .reverse)).at .lostLatch).trans rfl
  rw [latchTest_recv]
  dsimp only
  rw [latch, lost, ends]
  simp

theorem signalLost_latch {s : State} (held : (s.signal .reverse).state = .held)
    (due : reached (s.signal .reverse).timer (3 * (s.signal .reverse).timeout) = true) :
    (s.signalLost .reverse).recv.lostLatch = (decide ((s.signal .reverse).value = 1) && !s.speedEnds) := by
  rw [← loseReverse_latch, signalLost_eq held due]
  exact ((handStateChange_changes _ _).at .lostLatch).trans ((evalRev_changes _ _).at .lostLatch)

/-- A signal other than REVERSE and SPEED that becomes LOST in a settled state is only reported and handed on. -/
theorem signalLost_settled {s : State} {i : SignalId} (settled : ReverseSettled s) (reverse : i ≠ .reverse) (speed : i ≠ .speed)
    (held : (s.signal i).state = .held) (due : reached (s.signal i).timer (3 * (s.signal i).timeout) = true) :
    s.signalLost i = ((s.putSignal i ((s.signal i).toLost i)).reportSignals (signalBit i)).handStateChange i := by
  have still := settled_of_changes (reportSignals_changes _ (signalBit i))
    (putSignal_settled settled ((s.signal i).toLost i) reverse speed)
  rw [signalLost_eq held due, loseSignal_other s reverse, latchTest_of_tested still.2, evalRev_of_settled still]

/-- The same of one that becomes HELD. -/
theorem signalHeld_settled {s : State} {i : SignalId} (settled : ReverseSettled s) (reverse : i ≠ .reverse) (speed : i ≠ .speed)
    (fresh : (s.signal i).state = .fresh) (due : reached (s.signal i).timer (s.signal i).timeout = true) :
    s.signalHeld i = ((s.putSignal i (s.signal i).toHeld).reportSignals (signalBit i)).handStateChange i := by
  have still := settled_of_changes (reportSignals_changes _ (signalBit i))
    (putSignal_settled settled (s.signal i).toHeld reverse speed)
  rw [signalHeld_eq fresh due, evalRev_of_settled still]

/-! ### STEER_ANGLE becomes LOST (R145, R146, R148) -/

/-- An output holds the Generator's back plane (R146). -/
def BackHeld (g : Guide) : Prop := ∃ o, (g.holds.sel (1 - g.front)).has o = true

theorem backHeld_iff (g : Guide) : BackHeld g ↔ OutputSet.isEmpty (g.holds.sel g.back) = false := by
  unfold BackHeld
  rw [back_eq, Bool.eq_false_iff, ne_eq, isEmpty_iff]
  simp

/-- The computation a Generator begins without dynamic tracks: WAITING while the back plane is held, else drawing (R146). -/
def BeginsStatic (g h : Guide) : Prop :=
  (BackHeld g → h = { g with comp := .waiting }) ∧
  (¬ BackHeld g → h = { g with comp := .drawing ⟨g.geometry, g.style, g.camWidth, g.camHeight, none⟩, lastAngle := none })

theorem beginComputation_static {s : State} (hidden : s.steerShown = false) : BeginsStatic s.guide s.beginComputation.guide := by
  unfold State.beginComputation
  constructor
  · intro held
    rw [if_neg (by rw [(backHeld_iff _).1 held]; exact nofun)]
  · intro free
    rw [if_pos (by rw [backHeld_iff, Bool.not_eq_false] at free; exact free)]
    unfold State.beginDrawing
    rw [hidden]
    rfl

/-- A Generator that no longer shows dynamic content (R148). -/
def Guide.undynamic (g : Guide) : Guide :=
  { g with content := if g.content = .dynamic then .hidden else g.content, onView := if g.content = .dynamic then .none else g.onView }

/-- The state in which DYNAMIC content has been hidden at once (R148). -/
theorem hideDynamic_eq (s : State) :
    (if s.guide.content = .dynamic then { s with guide := { s.guide with content := .hidden, onView := .none } } else s) =
      { s with guide := s.guide.undynamic } := by
  unfold Guide.undynamic
  split <;> rfl

theorem steerLost_inactive {s : State} (inactive : s.guide.active = false) : s.steerLost = s := by
  unfold State.steerLost
  rw [if_neg (by rw [inactive]; exact nofun)]

theorem steerLost_active {s : State} (active : s.guide.active = true) : s.steerLost =
    if s.guide.comp.dynamic then (State.dropGuideConsequences { s with guide := s.guide.undynamic }).redraw
    else State.requestRecompute { s with guide := s.guide.undynamic } := by
  unfold State.steerLost
  rw [if_pos active]
  dsimp only
  rw [hideDynamic_eq]

section
variable {s : State} (active : s.guide.active = true)
include active

/-- IDLE begins a computation at once (R145). -/
theorem steerLost_idle (hidden : s.steerShown = false) (idle : s.guide.comp = .idle) :
    BeginsStatic s.guide.undynamic s.steerLost.guide := by
  rw [steerLost_active active, idle]
  have still : s.guide.undynamic.active = true := active
  have comp : s.guide.undynamic.comp = .idle := idle
  unfold GuideComp.dynamic State.requestRecompute
  simp only [still, comp, if_true, Bool.false_eq_true, if_false]
  exact beginComputation_static (s := { s with guide := s.guide.undynamic }) hidden

theorem steerLost_waiting (waiting : s.guide.comp = .waiting) : s.steerLost.guide = s.guide.undynamic := by
  rw [steerLost_active active, waiting]
  have still : s.guide.undynamic.active = true := active
  have comp : s.guide.undynamic.comp = .waiting := waiting
  unfold GuideComp.dynamic State.requestRecompute
  simp only [still, comp, if_true, Bool.false_eq_true, if_false]

/-- A computation with dynamic tracks is discarded, and another begins (R148, R149; log 37). -/
theorem steerLost_dynamic (hidden : s.steerShown = false) (dynamic : s.guide.comp.dynamic = true) :
    BeginsStatic { s.guide.undynamic with comp := .idle, recompute := false } s.steerLost.guide ∧
    s.steerLost.fmm.pending = s.fmm.pending.filter fun c => !decide (c.reader = .guide) := by
  rw [steerLost_active active, if_pos dynamic]
  unfold State.redraw
  refine ⟨beginComputation_static (s := { State.dropGuideConsequences { s with guide := s.guide.undynamic } with
    guide := { s.guide.undynamic with comp := .idle, recompute := false } }) hidden, ?_⟩
  exact (beginComputation_changes _).at .consequences

/-- One without them goes on, with a recompute pending (R145). -/
theorem steerLost_static (plain : s.guide.comp.dynamic = false) (works : (∃ d, s.guide.comp = .drawing d) ∨ ∃ d b, s.guide.comp = .flipPending d b) :
    s.steerLost.guide = { s.guide.undynamic with recompute := true } ∧ s.steerLost.fmm.pending = s.fmm.pending := by
  rw [steerLost_active active, if_neg (by rw [plain]; exact nofun)]
  have still : s.guide.undynamic.active = true := active
  refine ⟨?_, (requestRecompute_changes _).at .consequences⟩
  unfold State.requestRecompute
  rw [if_pos still]
  rcases works with ⟨d, comp⟩ | ⟨d, b, comp⟩
  · simp only [show s.guide.undynamic.comp = .drawing d from comp]
  · simp only [show s.guide.undynamic.comp = .flipPending d b from comp]

end

/-- Settles O22: each ageing by what it makes of the signal, then the latch and the Generator. -/
theorem signalsAgeToHeldAndLost : Obligations.SignalsAgeToHeldAndLost := by
  refine ⟨fun s i e fresh runs there => ?_, fun s i e held runs there => ?_, fun s e settled held runs there => ?_,
    fun s i early => ?_, fun s i early => ?_⟩
  · have due := reached_some runs there
    obtain ⟨signals, keys⟩ := signalHeld_rest fresh due
    refine ⟨_, rfl, signalHeld_changes s i, ?_, fun j other => ?_, keys, fun steer settled => ?_⟩
    · rw [signals, if_pos rfl]; rfl
    · rw [signals, if_neg (Ne.symm other)]
    · subst steer
      exact signalHeld_steer settled fresh due
  · have due := reached_some runs there
    obtain ⟨signals, keys⟩ := signalLost_rest held due
    refine ⟨_, rfl, signalLost_changes s i, ?_, fun j other => ?_, keys, fun reverse => ?_⟩
    · rw [signals, if_pos rfl]; rfl
    · rw [signals, if_neg (Ne.symm other)]
    · subst reverse
      exact signalLost_latch held due
  · have due := reached_some runs there
    have ends := signalLost_settled settled (by decide) (by decide) held due
    generalize e' : (s.putSignal .steerAngle ((s.signal .steerAngle).toLost .steerAngle)).reportSignals (signalBit .steerAngle) = u at ends
    have reported : Changes [.signals, .notices] s u := by
      rw [← e']
      exact ((putSignal_changes s _ _).mono).trans ((reportSignals_changes _ _).mono)
    have lost : (u.signal .steerAngle).state = .lost := by
      rw [← e', signal_of_changes (reportSignals_changes _ _), putSignal_signal_same]
      rfl
    have handed : u.handStateChange .steerAngle = u.steerLost := by
      unfold State.handStateChange
      simp only [lost]
    have hidden : u.steerShown = false := by simp [State.steerShown, lost]
    have pending : u.fmm.pending = s.fmm.pending := reported.at .consequences
    have guide : u.guide = s.guide := by
      rw [← e']
      unfold State.reportSignals
      split <;> rfl
    rw [handed] at ends
    refine ⟨_, rfl, ?_, ?_⟩
    · rw [ends]
      exact (reported.mono).trans ((steerLost_changes u).mono)
    · rw [ends, ← guide, ← pending]
      refine ⟨fun inactive => by rw [steerLost_inactive inactive], fun active => ⟨fun idle => ?_, fun waiting => ?_, fun d works => ⟨fun dynamic => ?_, fun plain => ?_⟩⟩⟩
      · obtain ⟨holds, free⟩ := steerLost_idle active hidden idle
        exact ⟨holds, free⟩
      · exact steerLost_waiting active waiting
      · have withTracks : u.guide.comp.dynamic = true := by
          rcases works with comp | ⟨b, comp⟩ <;> rw [comp] <;> exact dynamic
        obtain ⟨⟨holds, free⟩, dropped⟩ := steerLost_dynamic active hidden withTracks
        exact ⟨⟨holds, free⟩, dropped⟩
      · have without : u.guide.comp.dynamic = false := by
          rcases works with comp | ⟨b, comp⟩ <;> rw [comp] <;> simp [GuideComp.dynamic, plain]
        exact steerLost_static active without (works.elim (fun comp => .inl ⟨d, comp⟩) fun ⟨b, comp⟩ => .inr ⟨d, b, comp⟩)
  · have stays : s.signalHeld i = s := by
      refine if_neg fun both => ?_
      rcases early with other | before
      · exact other both.1
      · rw [reached_none before] at both
        exact nomatch both.2
    show Host.Outcome.next (s.signalHeld i) = _
    rw [stays]
  · have stays : s.signalLost i = s := by
      refine if_neg fun both => ?_
      rcases early with other | before
      · exact other both.1
      · rw [reached_none before] at both
        exact nomatch both.2
    show Host.Outcome.next (s.signalLost i) = _
    rw [stays]

end Sys2Proof.Machine
end

section
/-! PROOFS. Bus frames and the rules they meet (R25, R27, R30 to R34, R37, R44, R45, R48). -/

namespace Sys2Proof.Machine

set_option Elab.async false

open Sys2Proof

/-! ### One rule applied (R30 to R34) -/

section
variable {r : Rule} {data : List Byte}

theorem apply_short (short : r.covered data.length = false) : r.apply data = ({ r with short := satInc r.short }, none) := by
  unfold Rule.apply
  simp [short]

theorem apply_invalid (covered : r.covered data.length = true)
    (invalid : r.invalidPattern = some (rawField r.order r.startBit data r.length)) :
    r.apply data = ({ r with invalid := satInc r.invalid }, none) := by
  unfold Rule.apply
  simp [covered, invalid]

theorem aliveOf_isSome : (r.aliveOf data).isSome = r.alive.isSome := by simp [Rule.aliveOf]

theorem apply_repeat (covered : r.covered data.length = true)
    (valid : r.invalidPattern ≠ some (rawField r.order r.startBit data r.length)) (counts : r.alive.isSome = true)
    (again : r.aliveOf data = r.lastAlive) : r.apply data = ({ r with repeats := satInc r.repeats }, none) := by
  unfold Rule.apply
  dsimp only
  rw [if_neg (by simp [covered]), if_neg valid, if_pos ⟨by rw [aliveOf_isSome]; exact counts, again⟩]

/-- A rule that has taken a frame's value (R34). -/
def Rule.took (r : Rule) (data : List Byte) : Rule :=
  { r with accepted := satInc r.accepted, lastAlive := if r.alive.isSome then r.aliveOf data else r.lastAlive }

theorem apply_update (covered : r.covered data.length = true)
    (valid : r.invalidPattern ≠ some (rawField r.order r.startBit data r.length)) (new : r.alive = none ∨ r.aliveOf data ≠ r.lastAlive) :
    r.apply data = (r.took data, some (r.convert (rawField r.order r.startBit data r.length))) := by
  unfold Rule.apply Rule.took
  dsimp only
  have goes : ¬ ((r.aliveOf data).isSome = true ∧ r.aliveOf data = r.lastAlive) := by
    rintro ⟨counts, again⟩
    rcases new with none | other
    · rw [aliveOf_isSome, none] at counts
      exact nomatch counts
    · exact other again
  rw [if_neg (by simp [covered]), if_neg valid, if_neg goes, aliveOf_isSome]

end

/-! ### The rules of a frame (R27) -/

section
variable {extended : Bool} {identifier : Nat} {data : List Byte}

theorem offer_refused {a : Applied} {m : Fin 16} (refused : (a.state.rule m).accepts extended identifier = false) :
    a.offer extended identifier data m = a := by
  unfold Applied.offer
  dsimp only
  rw [if_neg (by rw [refused]; exact nofun)]

/-- Rules that take no frame of an identifier do nothing with it. -/
theorem offers_refused {a : Applied} : ∀ {ms : List (Fin 16)}, (∀ m ∈ ms, (a.state.rule m).accepts extended identifier = false) →
    ms.foldl (Applied.offer extended identifier data) a = a
  | [], _ => rfl
  | m :: ms, refused => by
    rw [List.foldl_cons, offer_refused (refused m (.head _))]
    exact offers_refused fun m' listed => refused m' (.tail _ listed)

/-- A rule offered a frame changes no rule but itself. -/
theorem offer_rule_ne (a : Applied) {n m : Fin 16} (other : n ≠ m) : (a.offer extended identifier data n).state.rule m = a.state.rule m := by
  unfold Applied.offer
  dsimp only
  split
  · split
    · exact putRule_rule_ne _ _ _ other
    · exact putRule_rule_ne _ _ _ other
  · rfl

theorem applyRules_none {s : State} (refused : ∀ m, (s.rule m).accepts extended identifier = false) :
    s.applyRules extended identifier data = { state := s, updated := [], mask := 0 } := offers_refused fun m _ => refused m

/-- A frame that one rule takes meets that rule alone. -/
theorem applyRules_one {s : State} {n : Fin 16} (one : ∀ m, (s.rule m).accepts extended identifier = decide (m = n)) :
    s.applyRules extended identifier data = Applied.offer extended identifier data { state := s, updated := [], mask := 0 } n := by
  obtain ⟨before, after, split⟩ := List.append_of_mem (List.mem_finRange n)
  have distinct := List.nodup_finRange 16
  rw [split, List.nodup_append] at distinct
  obtain ⟨-, rest, apart⟩ := distinct
  have notBefore : ∀ m ∈ before, m ≠ n := fun m listed => apart m listed n (.head _)
  have notAfter : ∀ m ∈ after, m ≠ n := fun m listed same => (List.nodup_cons.1 rest).1 (same ▸ listed)
  unfold State.applyRules
  rw [split, List.foldl_append, List.foldl_cons,
    offers_refused (a := { state := s, updated := [], mask := 0 }) fun m listed => by rw [one]; exact decide_eq_false (notBefore m listed)]
  refine offers_refused fun m listed => ?_
  rw [offer_rule_ne _ (Ne.symm (notAfter m listed)), one]
  exact decide_eq_false (notAfter m listed)

end

/-! ### A frame received (R25, R27) -/

/-- A good frame counted (R25). -/
def State.countFrame (s : State) : State := { s with recv := { s.recv with goodFrames := satInc s.recv.goodFrames } }

theorem countFrame_changes (s : State) : Changes [.busCounts] s s.countFrame := by
  intro p hp
  have same := same_refl s p
  cases p <;> first | exact absurd (by decide) hp | exact same

theorem receive_data (s : State) (extended : Bool) (identifier dlc : Nat) (data : List Byte) :
    s.receive (.data extended identifier dlc data) = if s.rulesLoaded then
      (((((s.countFrame.applyRules extended identifier data).state.reportSignals (s.countFrame.applyRules extended identifier data).mask).latchTest).evalRev
        .bus).handUpdates (s.countFrame.applyRules extended identifier data).updated (s.countFrame.applyRules extended identifier data).mask)
      else s.countFrame := rfl

theorem rulesLoaded_iff (s : State) : s.rulesLoaded = true ↔ Running s ∨ .receiver ∉ s.steps := by
  simp [State.rulesLoaded, State.isRunning, Running]

/-- What no rule's update follows changes nothing in a settled state. -/
theorem settled_quiet {s : State} (settled : ReverseSettled s) : (((s.reportSignals 0).latchTest).evalRev .bus).handUpdates [] 0 = s := by
  have reported : s.reportSignals 0 = s := if_pos rfl
  rw [reported, latchTest_of_tested settled.2, evalRev_of_settled settled]
  rfl

theorem countFrame_settled {s : State} (settled : ReverseSettled s) : ReverseSettled s.countFrame :=
  settled_of_changes (countFrame_changes s) settled

/-- A frame that no rule takes is counted (R27). -/
theorem receive_none {s : State} {extended : Bool} {identifier : Nat} (settled : ReverseSettled s)
    (refused : ∀ n, (s.rule n).accepts extended identifier = false) (dlc : Nat) (data : List Byte) :
    s.receive (.data extended identifier dlc data) = s.countFrame := by
  rw [receive_data]
  split
  · rw [applyRules_none (s := s.countFrame) refused]
    exact settled_quiet (countFrame_settled settled)
  · rfl

/-- A frame that one rule takes without an update leaves its mark in that rule (R30 to R32). -/
theorem receive_refused {s : State} {extended : Bool} {identifier : Nat} {n : Fin 16} {data : List Byte} {after : Rule}
    (settled : ReverseSettled s) (loaded : s.rulesLoaded = true) (one : ∀ m, (s.rule m).accepts extended identifier = decide (m = n))
    (applied : (s.rule n).apply data = (after, none)) (dlc : Nat) :
    s.receive (.data extended identifier dlc data) = s.countFrame.putRule n after := by
  have offered : s.countFrame.applyRules extended identifier data = { state := s.countFrame.putRule n after, updated := [], mask := 0 } := by
    rw [applyRules_one (s := s.countFrame) one]
    have takes : (s.countFrame.rule n).accepts extended identifier = true := (one n).trans (decide_eq_true rfl)
    have result : (s.countFrame.rule n).apply data = (after, none) := applied
    unfold Applied.offer
    dsimp only
    rw [if_pos takes, result]
  rw [receive_data, if_pos loaded, offered]
  exact settled_quiet (settled_of_changes (putRule_changes _ _ _) (countFrame_settled settled))

/-- The tables after a rule's update: the frame counted, the rule's record, and its signal (R34). -/
def State.updateBy (s : State) (n : Fin 16) (after : Rule) (i : SignalId) (v : Int) : State :=
  (s.countFrame.putRule n after).putSignal i ((s.signal i).update v)

/-- The mask of an update: the signal's bit when its state changes (R37). -/
def updateMask (x : Signal) (i : SignalId) : BitVec 7 := if x.state = .fresh then 0 else signalBit i

/-- A frame that one rule takes with an update (R34, R37, R38, R44 to R46). -/
theorem receive_updates {s : State} {extended : Bool} {identifier : Nat} {n : Fin 16} {data : List Byte} {after : Rule} {v : Int}
    (loaded : s.rulesLoaded = true) (one : ∀ m, (s.rule m).accepts extended identifier = decide (m = n))
    (applied : (s.rule n).apply data = (after, some v)) (dlc : Nat) :
    let i := (s.rule n).target
    let mask := updateMask (s.signal i) i
    s.receive (.data extended identifier dlc data) =
      ((((s.updateBy n after i v).reportSignals mask).latchTest).evalRev .bus).handUpdates [i] mask := by
  intro i mask
  have offered : s.countFrame.applyRules extended identifier data = { state := s.updateBy n after i v, updated := [i], mask := mask } := by
    rw [applyRules_one (s := s.countFrame) one]
    have takes : (s.countFrame.rule n).accepts extended identifier = true := (one n).trans (decide_eq_true rfl)
    have result : (s.countFrame.rule n).apply data = (after, some v) := applied
    unfold Applied.offer
    dsimp only
    rw [if_pos takes, result]
    show Applied.mk (s.updateBy n after i v) [i] (if (s.signal i).state = .fresh then 0 else 0 ||| signalBit i) = _
    have none : (0 : BitVec 7) ||| signalBit (s.rule n).target = signalBit (s.rule n).target := BitVec.zero_or
    rw [none]
    rfl
  rw [receive_data, if_pos loaded, offered]

section
variable (s : State) (n : Fin 16) (after : Rule) (i : SignalId) (v : Int)

theorem updateBy_changes : Changes [.rules, .signals, .busCounts] s (s.updateBy n after i v) :=
  (((countFrame_changes s).mono).trans ((putRule_changes _ n after).mono)).trans ((putSignal_changes _ i _).mono)

theorem updateBy_rule (m : Fin 16) : (s.updateBy n after i v).rule m = if n = m then after else s.rule m := putRule_rule s.countFrame n after m

theorem updateBy_signal (j : SignalId) : (s.updateBy n after i v).signal j = if i = j then (s.signal i).update v else s.signal j :=
  putSignal_signal (s.countFrame.putRule n after) i ((s.signal i).update v) j

end

theorem evalRev_rule (s : State) (fall : RevContribution) (m : Fin 16) : (s.evalRev fall).rule m = s.rule m :=
  rule_of_changes (evalRev_changes s fall) m

/-- What follows an update leaves of the rules and the signals, and makes of REV_EFF (R37, R38, R44 to R46). -/
theorem update_follows (u : State) (is : List SignalId) (mask : BitVec 7) :
    let t := ((((u.reportSignals mask).latchTest).evalRev .bus).handUpdates is mask)
    (∀ m, t.rule m = u.rule m) ∧ (∀ j, t.signal j = u.signal j) ∧ t.recv.goodFrames = u.recv.goodFrames ∧
    t.recv.revEff = revOf u.recv.source u.recv.line t.busTerm ∧
    (t.recv.revEff ≠ u.recv.revEff → (2, 0) ∈ t.noticeKeys ∧ t.mixer.revEff = t.recv.revEff) ∧
    (mask ≠ 0 → (3, 0) ∈ t.noticeKeys) ∧ (mask = 0 → (3, 0) ∈ t.noticeKeys → (3, 0) ∈ u.noticeKeys) := by
  intro t
  have first : Changes [.notices, .lostLatch] u ((u.reportSignals mask).latchTest) :=
    ((reportSignals_changes u mask).mono).trans ((latchTest_changes _).mono)
  have tested : Tells viewKinds (u.reportSignals mask) ((u.reportSignals mask).latchTest) := .of_changes (latchTest_changes _)
  have told := handUpdates_tells (((u.reportSignals mask).latchTest).evalRev .bus) is mask
  have last := handUpdates_changes (((u.reportSignals mask).latchTest).evalRev .bus) is mask
  obtain ⟨grows, new, changed⟩ := evalRev_notices ((u.reportSignals mask).latchTest) .bus
  have rev : t.recv.revEff = (((u.reportSignals mask).latchTest).evalRev .bus).recv.revEff := last.at .revEff
  obtain ⟨-, line, -, -, source⟩ := first.at .reverse
  have eff : ((u.reportSignals mask).latchTest).recv.revEff = u.recv.revEff := first.at .revEff
  obtain ⟨-, good, -⟩ := ((first.mono (qs := [.notices, .lostLatch] ++ reversePieces ++ (.suppression :: viewPieces))).trans
    (((evalRev_changes _ .bus).mono).trans (last.mono))).at .busCounts
  refine ⟨fun m => ?_, fun j => ?_, good, ?_, fun differs => ?_, fun reports => ?_, fun silent queued => ?_⟩
  · rw [rule_of_changes last, evalRev_rule, rule_of_changes first]
  · rw [signal_of_changes last, evalRev_signal, signal_of_changes first]
  · rw [rev, evalRev_recv, busTerm_of_changes last, busTerm_of_changes (evalRev_changes _ _), line, source]
  · rw [rev, ← eff] at differs
    obtain ⟨queued, mixer⟩ := changed differs
    exact ⟨told.has queued, told.rev.trans (mixer.trans rev.symm)⟩
  · exact told.has (grows _ (tested.has (reportSignals_has u reports)))
  · have before := tested.hasNot (by simp [viewKinds]) (new _ (by simp [viewKinds]) (by simp) (told.hasNot (by simp [viewKinds]) queued))
    have same : u.reportSignals mask = u := if_pos silent
    rw [same] at before
    exact before

/-- Settles O21: a frame by the rules that take it, and a rule's update by what follows it. -/
theorem busFrameAppliesItsRules : Obligations.BusFrameAppliesItsRules := by
  unfold Obligations.BusFrameAppliesItsRules
  intro term
  have term_eq : ∀ s, term s = s.busTerm := fun s => (busTerm_eq s).symm
  have counts : ∀ (s : State) (x : Receiver), (x.rules = s.recv.rules ∧ x.signals = s.recv.signals ∧ x.rawLine = s.recv.rawLine ∧
      x.line = s.recv.line ∧ x.debounce = s.recv.debounce ∧ x.debounceTime = s.recv.debounceTime ∧ x.source = s.recv.source ∧
      x.lostLatch = s.recv.lostLatch ∧ x.revEff = s.recv.revEff) → Changes [.busCounts] s { s with recv := x } := by
    rintro s x ⟨rules, signals, raw, line, debounce, time, source, latch, rev⟩ p hp
    have same := same_refl s p
    cases p <;> first | exact absurd (by decide) hp | exact same | exact rules | exact signals | exact latch | exact rev | exact ⟨raw, line, debounce, time, source⟩
  refine ⟨fun s => ⟨_, rfl, counts s _ ⟨rfl, rfl, rfl, rfl, rfl, rfl, rfl, rfl, rfl⟩, rfl⟩,
    fun s => ⟨_, rfl, counts s _ ⟨rfl, rfl, rfl, rfl, rfl, rfl, rfl, rfl, rfl⟩, rfl⟩,
    fun s extended identifier dlc data settled refused => ?_, fun s extended identifier dlc data starting under => ?_,
    fun s extended identifier dlc data n settled ready one => ?_⟩
  · refine ⟨s.countFrame, ?_, countFrame_changes s, rfl⟩
    rw [← receive_none settled refused dlc data]
    rfl
  · refine ⟨s.countFrame, ?_, countFrame_changes s, rfl⟩
    have unloaded : ¬ s.rulesLoaded = true := by
      rw [rulesLoaded_iff]
      rintro (running | passed)
      · exact nomatch starting.symm.trans running
      · exact passed under
    show Host.Outcome.next (s.receive _) = _
    rw [receive_data, if_neg unloaded]
  · have loaded := (rulesLoaded_iff s).2 ready
    intro r raw ends
    have marks : ∀ after, r.apply data = (after, none) → ends after := by
      intro after applied
      refine ⟨s.countFrame.putRule n after, ?_, ((countFrame_changes s).mono).trans ((putRule_changes _ n after).mono), rfl, rfl, ?_, fun m other => ?_⟩
      · rw [← receive_refused settled loaded one applied dlc]
        rfl
      · exact putRule_rule_same _ _ _
      · exact putRule_rule_ne _ _ _ (Ne.symm other)
    refine ⟨fun short => marks _ (apply_short short), fun covered invalid => marks _ (apply_invalid covered invalid),
      fun covered valid alive again => marks _ (apply_repeat covered valid alive again), fun covered valid new => ?_⟩
    refine ⟨_, rfl, receive_changes s _, ?_⟩
    rw [receive_updates loaded one (apply_update covered valid new) dlc]
    obtain ⟨rules, signals, good, rev, changed, reports, silent⟩ :=
      update_follows (s.updateBy n (r.took data) r.target (r.convert raw)) [r.target] (updateMask (s.signal r.target) r.target)
    have update := updateBy_changes s n (r.took data) r.target (r.convert raw)
    have eff : (s.updateBy n (r.took data) r.target (r.convert raw)).recv.revEff = s.recv.revEff := update.at .revEff
    obtain ⟨-, line, -, -, source⟩ := update.at .reverse
    refine ⟨good, ?_, fun j other => ?_, fun m other => ?_, ?_, fun aged => reports ?_, fun fresh queued => ?_, ?_, ?_⟩
    · rw [signals, updateBy_signal, if_pos rfl]
      rfl
    · rw [signals, updateBy_signal, if_neg (Ne.symm other)]
    · rw [rules, updateBy_rule, if_neg (Ne.symm other)]
    · rw [rules, updateBy_rule, if_pos rfl]
      rfl
    · unfold updateMask
      rw [if_neg aged]
      exact signalBit_ne _
    · exact silent (if_pos fresh) queued
    · rw [line, source, ← term_eq] at rev
      exact rev.trans (revOf_eq _ _ _)
    · rw [← eff]
      exact changed

end Sys2Proof.Machine
end

section
/-! PROOFS. A change of REV_EFF takes the views and gives them back (R44 to R46, R97 to R100). -/

namespace Sys2Proof.Machine

set_option Elab.async false

open Sys2Proof

/-! ### The notice of an owner change (R97) -/

/-- Reports of other kinds and sources leave the notice of an owner change in the queue. -/
theorem OwnerNoticed.after {s t : State} {o : Output} {why : OwnerReason} (noticed : OwnerNoticed s o why)
    {p : Nat × Nat → Prop} (tells : Tells p s t) (other : ¬ p (9, (outputNo o).1)) (owner : (t.out o).owner = (s.out o).owner) :
    OwnerNoticed t o why := by
  obtain ⟨e, listed, report⟩ := noticed
  refine ⟨e, tells.keeps listed ?_, report.trans (by rw [owner])⟩
  rw [report]
  exact other

theorem background_ne_owner (o : Output) : ¬ background (9, (outputNo o).1) := fun h => h.2 rfl

theorem ownerOf_ne_owner {o q : Output} (other : o ≠ q) : ¬ ownerOf o (9, (outputNo q).1) := by
  rintro (h | h)
  · exact background_ne_owner q h
  · revert h other
    cases o <;> cases q <;> decide

theorem outputOwner_replaces (o : Output) (x : OwnerState) (why : OwnerReason) (e : Report)
    (_ : Report.key e = Report.key (.outputOwner o x why)) : Report.merge e (.outputOwner o x why) = .outputOwner o x why := by
  cases e <;> rfl

theorem report_noticed (s : State) (o : Output) (why : OwnerReason) :
    OwnerNoticed (s.report (.outputOwner o (s.out o).owner why)) o why := by
  obtain ⟨e, listed, report⟩ := queueReport_has (outputOwner_replaces o (s.out o).owner why) s.link.notices
  exact ⟨e, listed, report⟩

section
variable (s : State) (o : Output) (why : OwnerReason)

theorem ownerChanged_noticed : OwnerNoticed (s.ownerChanged o why) o why := by
  have rest : Tells background (s.report (.outputOwner o (s.out o).owner why)) (s.ownerChanged o why) :=
    (settleFlips_tells _).trans (recomputeDemand_tells _)
  exact (report_noticed s o why).after rest (background_ne_owner o) (congrArg OutputRec.owner (ownerChanged_out s o why o))

theorem setOwner_noticed (r : OutputRec) : OwnerNoticed (s.setOwner o r why) o why := ownerChanged_noticed _ o why

theorem afterView_noticed : OwnerNoticed (s.afterView o why) o why := by
  unfold State.afterView
  split
  · exact ownerChanged_noticed _ o why
  · exact setOwner_noticed s o why _

/-- An output that is taken at a rise, other than by being forced on, is reported with reason REVERSE (R98). -/
theorem riseOf_noticed (taken : ((s.out o).owner = .normal ∧ (o = .centre ∨ (s.out o).mirror = true)) ∨ (s.out o).owner = .linger ∨
    ((s.out o).owner = .camera ∧ (s.out o).reason = .request)) : OwnerNoticed (s.riseOf o) o .reverse := by
  unfold State.riseOf
  dsimp only
  rcases taken with ⟨owner, named⟩ | owner | ⟨owner, reason⟩
  · simp only [owner, if_pos named]
    exact setOwner_noticed s o .reverse _
  · simp only [owner]
    exact setOwner_noticed s o .reverse _
  · simp only [owner, if_pos reason]
    have noticed := report_noticed (s.putOut o { s.out o with reason := .reverse }) o .reverse
    simp only [putOut_out_same, owner] at noticed
    exact noticed

/-- The reason with which a REVERSE view ends at a fall (R99, R103). -/
def fallReason (still fast : Bool) : OwnerReason := if still then .reverseEnd else if fast then .speed else .reverseEnd

/-- A REVERSE view that lingers or goes at a fall is reported so (R99). -/
theorem fallOf_noticed (view : (s.out o).owner = .camera ∧ (s.out o).reason = .reverse) :
    OwnerNoticed (s.fallOf o) o (fallReason (decide (s.comp.policy.lingerTime = 0)) s.speedEnds) := by
  unfold State.fallOf fallReason
  dsimp only
  rw [if_pos view]
  by_cases still : s.comp.policy.lingerTime = 0
  · simp only [still, if_true, decide_true]
    exact afterView_noticed s o .reverseEnd
  · simp only [still, if_false, decide_false, Bool.false_eq_true]
    have lingers := setOwner_noticed s o .reverseEnd { s.out o with owner := .linger, linger := some 0 }
    have owner : ((s.setOwner o { s.out o with owner := .linger, linger := some 0 } .reverseEnd).out o).owner = .linger := by
      rw [setOwner_out, if_pos rfl]
    have ends := speedEnds_of_changes
      (setOwner_changes s o { s.out o with owner := .linger, linger := some 0 } .reverseEnd ⟨rfl, rfl, rfl, rfl⟩)
    unfold State.speedTestOf
    simp only [ends, owner]
    split
    · exact afterView_noticed _ o .speed
    · exact lingers

end

/-! ### Camera demand (R106) -/

theorem recomputeDemand_demand (s : State) : s.recomputeDemand.comp.demand = outputs.any fun o => (s.out o).inView := by
  unfold State.recomputeDemand
  dsimp only
  split
  · rename_i same
    exact same.symm
  · have handed := (followCamera_changes { s with comp := { s.comp with demand := outputs.any fun o => (s.out o).inView } }).trans
      ((handGuide_changes _ (fun g => { g with demand := outputs.any fun o => (s.out o).inView }) ⟨rfl, rfl, rfl⟩).mono)
    exact handed.at .demand

/-- After an owner change there is demand where CENTRE is in view. -/
theorem setOwner_demand (s : State) (o : Output) (r : OutputRec) (why : OwnerReason)
    (shown : ((s.setOwner o r why).out .centre).inView = true) : (s.setOwner o r why).comp.demand = true := by
  have same : ∀ q, ((((s.putOut o r).report (.outputOwner o ((s.putOut o r).out o).owner why)).settleFlips).out q) =
      (s.setOwner o r why).out q := fun q => by
    rw [out_of_changes (settleFlips_changes _) q, report_out, setOwner_out, putOut_out]
  unfold State.setOwner State.ownerChanged
  rw [recomputeDemand_demand, List.any_eq_true]
  exact ⟨.centre, by decide, by rw [same]; exact shown⟩

theorem inView_of_camera {r : OutputRec} (owner : r.owner = .camera) : r.inView = true := by
  unfold OutputRec.inView
  rw [owner]
  rfl

/-- A rise leaves demand at an output where there was demand, or where CENTRE is the one taken. -/
theorem riseOf_demand {s : State} {o : Output} (shown : ((s.riseOf o).out .centre).owner = .camera)
    (had : s.comp.demand = true ∨ (o = .centre ∧ (s.out o).owner ≠ .camera)) : (s.riseOf o).comp.demand = true := by
  revert shown
  unfold State.riseOf
  dsimp only
  cases owner : (s.out o).owner with
  | off =>
    by_cases centre : o = .centre
    · simp only [if_pos centre]
      intro shown
      unfold State.forceOn at shown ⊢
      dsimp only at shown ⊢
      rw [(refresh_owner _ o .centre).2.1] at shown
      exact ((refresh_changes _ o).at .demand).trans (setOwner_demand s o _ _ (inView_of_camera shown))
    · simp only [if_neg centre]
      exact fun _ => had.resolve_right fun named => centre named.1
  | normal =>
    by_cases taken : o = .centre ∨ (s.out o).mirror = true
    · simp only [if_pos taken]
      exact fun shown => setOwner_demand s o _ _ (inView_of_camera shown)
    · simp only [if_neg taken]
      exact fun _ => had.resolve_right fun named => taken (.inl named.1)
  | linger =>
    dsimp only
    exact fun shown => setOwner_demand s o _ _ (inView_of_camera shown)
  | camera =>
    dsimp only
    intro _
    have demand := had.resolve_right fun named => named.2 owner
    split
    · exact demand
    · exact demand

/-! ### The outputs one after another (log 42) -/

/-- What a turn of the outputs makes of one of them: its own turn, in a state that agrees on its record. -/
theorem outputs_turn {f : State → Output → State} {ps : List Piece} (others : ∀ (s : State) {o q : Output}, o ≠ q → (f s o).out q = s.out q)
    (changes : ∀ s o, Changes ps s (f s o)) (tells : ∀ s o, Tells (ownerOf o) s (f s o)) (s : State) (o : Output) :
    ∃ u, Changes ps s u ∧ u.out o = s.out o ∧ (outputs.foldl f s).out o = (f u o).out o ∧
      ∀ why, OwnerNoticed (f u o) o why → OwnerNoticed (outputs.foldl f s) o why := by
  have passes : ∀ {u : State} {q : Output} {why : OwnerReason}, q ≠ o → OwnerNoticed u o why → OwnerNoticed (f u q) o why :=
    fun {u q why} other noticed => noticed.after (tells u q) (ownerOf_ne_owner other) (congrArg OutputRec.owner (others u other))
  rw [outputs_foldl]
  cases o with
  | centre =>
    refine ⟨s, .refl _ _, rfl, ?_, fun why noticed => passes (by decide) (passes (by decide) noticed)⟩
    rw [others _ (by decide), others _ (by decide)]
  | rearL =>
    refine ⟨f s .centre, changes s _, others s (by decide), ?_, fun why noticed => passes (by decide) noticed⟩
    rw [others _ (by decide)]
  | rearR =>
    refine ⟨f (f s .centre) .rearL, (changes s _).trans (changes _ _), ?_, rfl, fun why => id⟩
    rw [others _ (by decide), others _ (by decide)]

/-- A rise at each output that is ON or a headrest (R98). -/
theorem viewRise_at (s : State) (o : Output) :
    ((s.out o).owner ≠ .off ∨ o ≠ .centre → s.viewRise.out o = (s.out o).risen o) ∧
    (((s.out o).owner = .normal ∧ (o = .centre ∨ (s.out o).mirror = true)) ∨ (s.out o).owner = .linger ∨
      ((s.out o).owner = .camera ∧ (s.out o).reason = .request) → OwnerNoticed s.viewRise o .reverse) := by
  obtain ⟨u, -, same, out, noticed⟩ := outputs_turn (fun s _ _ => riseOf_out_ne s) riseOf_changes riseOf_tells s o
  rw [← same]
  exact ⟨fun on => out.trans (riseOf_out u o on), fun taken => noticed _ (riseOf_noticed u o taken)⟩

/-- CENTRE forced on at a rise (R98). -/
theorem viewRise_centre {s : State} (off : (s.out .centre).owner = .off) : let r := s.viewRise.out .centre
    r.owner = .camera ∧ r.reason = .reverse ∧ r.enabled = true ∧ r.wasOff = true ∧ r.activeTiming = (s.out .centre).hostTiming ∧
      r.frame.isSome = true := by
  have forced : s.viewRise.out .centre = (s.forceOn .centre).out .centre := by
    unfold State.viewRise
    rw [outputs_foldl, riseOf_out_ne _ (by decide), riseOf_out_ne _ (by decide)]
    unfold State.riseOf
    simp only [off, if_true]
  rw [forced]
  exact forceOn_out s .centre

theorem viewRise_demand {s : State} (taken : (s.out .centre).owner ≠ .camera) : s.viewRise.comp.demand = true := by
  obtain ⟨shown, -⟩ := viewRise_shows s
  unfold State.viewRise at shown ⊢
  rw [outputs_foldl] at shown ⊢
  have second := shown
  rw [riseOf_out_ne _ (by decide)] at second
  have first := second
  rw [riseOf_out_ne _ (by decide)] at first
  exact riseOf_demand shown (.inl (riseOf_demand second (.inl (riseOf_demand first (.inr ⟨rfl, taken⟩)))))

/-- A fall at each output (R99). -/
theorem viewFall_at (s : State) (o : Output) :
    let still := decide (s.comp.policy.lingerTime = 0)
    s.viewFall.out o = (s.out o).fallen still s.speedEnds ∧
    ((s.out o).owner = .camera ∧ (s.out o).reason = .reverse → OwnerNoticed s.viewFall o (fallReason still s.speedEnds)) := by
  obtain ⟨u, changes, same, out, noticed⟩ := outputs_turn (fun s _ _ => fallOf_out_ne s) fallOf_changes fallOf_tells s o
  have policy : u.comp.policy = s.comp.policy := changes.at .policy
  have ends := speedEnds_of_changes changes
  intro still
  rw [← same, ← ends]
  unfold still
  rw [← policy]
  exact ⟨out.trans (fallOf_out u o), fun view => noticed _ (fallOf_noticed u o view)⟩

/-! ### REV_EFF changes (R45, R46) -/

theorem chimeFall_mode (s : State) : s.chimeFall.chime.mode = .absent := by
  unfold State.chimeFall State.syncPlaying
  dsimp only
  split <;> rfl

theorem setRevEff_changes (s : State) (rev : Bool) : Changes [.revEff] s { s with recv := { s.recv with revEff := rev } } := by
  intro p hp
  have same := same_refl s p
  cases p <;> first | exact absurd (by decide) hp | exact same

/-- While RUNNING a change of REV_EFF turns the outputs; what follows leaves them alone, and a fall ends the park sound (R46, R163). -/
theorem handRevEff_turns {s : State} (running : Running s) (rev : Bool) : let t := s.handRevEff rev
    let v := if rev then s.viewRise else s.viewFall
    (∀ o, t.out o = v.out o) ∧ (∀ o why, OwnerNoticed v o why → OwnerNoticed t o why) ∧ t.comp.demand = v.comp.demand ∧
      (rev = false → t.chime.mode = .absent) := by
  have going : ∀ u : State, u.part = s.part → u.isStarting = false := by
    intro u same
    unfold State.isStarting
    rw [same, show s.part.phase = .running from running]
    rfl
  have chimes : ∀ u : State, Changes chimePieces u (if rev then u.chimeRise else u.chimeFall) ∧
      Tells background u (if rev then u.chimeRise else u.chimeFall) := by
    intro u
    cases rev
    · exact ⟨chimeFall_changes u, chimeFall_tells u⟩
    · exact ⟨chimeRise_changes u, chimeRise_tells u⟩
  have part : (if rev then s.viewRise else s.viewFall).part = s.part := by
    cases rev
    · exact (viewFall_changes s).at .part
    · exact (viewRise_changes s).at .part
  unfold State.handRevEff
  simp only [going s rfl, going _ part, Bool.false_eq_true, if_false]
  generalize (if rev then s.viewRise else s.viewFall) = v
  obtain ⟨changes, tells⟩ := chimes v
  have all := changes.trans ((handMixerRev_changes (if rev then v.chimeRise else v.chimeFall) rev).mono)
  refine ⟨out_of_changes all, fun o why noticed => ?_, all.at .demand, fun fall => ?_⟩
  · have chimed : OwnerNoticed (if rev then v.chimeRise else v.chimeFall) o why :=
      noticed.after tells (background_ne_owner o) (congrArg OutputRec.owner (out_of_changes changes o))
    exact chimed
  · subst fall
    exact chimeFall_mode v

/-- A change of REV_EFF turns the outputs in a state that differs in REV_EFF and its notice alone. -/
theorem evalRev_turns {s : State} (running : Running s) (fall : RevContribution) {rev : Bool}
    (becomes : revOf s.recv.source s.recv.line s.busTerm = rev) (changed : rev ≠ s.recv.revEff) : let t := s.evalRev fall
    ∃ u, Changes [.revEff, .notices] s u ∧ let v := if rev then u.viewRise else u.viewFall
      (∀ o, t.out o = v.out o) ∧ (∀ o why, OwnerNoticed v o why → OwnerNoticed t o why) ∧ t.comp.demand = v.comp.demand ∧
      (rev = false → t.chime.mode = .absent) := by
  unfold State.evalRev
  dsimp only
  rw [becomes, if_neg changed]
  refine ⟨_, ((setRevEff_changes s rev).mono).trans ((report_changes _ _).mono), handRevEff_turns ?_ rev⟩
  exact running

/-! ### The three events (R43 to R45) -/

/-- What an event makes of a state before it evaluates REV_EFF: the inputs of REV_EFF may differ, the views, the policy and the
speed test do not. -/
structure Weighs (s u : State) : Prop where
  changes : Changes [.rules, .busCounts, .signals, .reverse, .lostLatch, .notices] s u
  fast : u.speedEnds = s.speedEnds

theorem speedEnds_of_speed {s t : State} (speed : t.signal .speed = s.signal .speed) (policy : t.comp.policy = s.comp.policy) :
    t.speedEnds = s.speedEnds := by
  unfold State.speedEnds
  rw [speed, policy]

section
variable {s u : State} (weighs : Weighs s u) (running : Running s) (fall : RevContribution)
include weighs running

/-- A rise of REV_EFF at such an event takes the views (R98). -/
theorem Weighs.rises (becomes : revOf u.recv.source u.recv.line u.busTerm = true) (was : s.recv.revEff = false) :
    let t := u.evalRev fall
    t.recv.revEff = true ∧ t.mixer.revEff = true ∧ (2, 0) ∈ t.noticeKeys ∧
    ((s.out .centre).owner ≠ .camera → t.comp.demand = true) ∧
    ((s.out .centre).owner = .off → (t.out .centre).owner = .camera ∧ (t.out .centre).reason = .reverse ∧
      (t.out .centre).enabled = true ∧ (t.out .centre).wasOff = true ∧
      (t.out .centre).activeTiming = (s.out .centre).hostTiming ∧ (t.out .centre).frame.isSome = true) ∧
    ∀ o, let r := s.out o
      (r.owner = .normal → o = .centre ∨ r.mirror = true →
        t.out o = { r with owner := .camera, reason := .reverse } ∧ OwnerNoticed t o .reverse) ∧
      (r.owner = .linger → t.out o = { r with owner := .camera, reason := .reverse, linger := none } ∧ OwnerNoticed t o .reverse) ∧
      (r.owner = .camera → t.out o = { r with reason := .reverse } ∧ (r.reason = .request → OwnerNoticed t o .reverse)) ∧
      (o ≠ .centre → r.owner = .off ∨ (r.owner = .normal ∧ r.mirror = false) → t.out o = r) := by
  have still : u.recv.revEff = s.recv.revEff := weighs.changes.at .revEff
  have phase : Running u := by
    unfold Running
    rw [show u.part = s.part from weighs.changes.at .part]
    exact running
  have rev : (u.evalRev fall).recv.revEff = true := by rw [evalRev_recv, becomes]
  obtain ⟨-, -, noted⟩ := evalRev_notices u fall
  obtain ⟨queued, mixer⟩ := noted (by rw [rev, still, was]; decide)
  obtain ⟨w, differs, turns⟩ := evalRev_turns phase fall becomes (by rw [still, was]; decide)
  simp only [if_true] at turns
  obtain ⟨out, notices, demand, -⟩ := turns
  have same : ∀ o, w.out o = s.out o := fun o => (out_of_changes differs o).trans (out_of_changes weighs.changes o)
  refine ⟨rev, mixer.trans rev, queued, fun taken => ?_, fun off => ?_, fun o => ?_⟩
  · rw [demand]
    exact viewRise_demand (by rw [same]; exact taken)
  · rw [out, ← same]
    exact viewRise_centre (by rw [same]; exact off)
  · obtain ⟨record, noticed⟩ := viewRise_at w o
    rw [same] at record noticed
    rw [out]
    refine ⟨fun owner named => ⟨?_, notices o _ (noticed (.inl ⟨owner, named⟩))⟩, fun owner => ⟨?_, notices o _ (noticed (.inr (.inl owner)))⟩,
      fun owner => ⟨?_, fun reason => notices o _ (noticed (.inr (.inr ⟨owner, reason⟩)))⟩, fun headrest stays => ?_⟩
    · rw [record (.inl (by rw [owner]; decide))]
      simp only [OutputRec.risen, owner, if_pos named]
    · rw [record (.inl (by rw [owner]; decide))]
      simp only [OutputRec.risen, owner]
    · rw [record (.inl (by rw [owner]; decide))]
      simp only [OutputRec.risen, owner]
    · rw [record (.inr headrest)]
      rcases stays with off | ⟨normal, mirror⟩
      · simp only [OutputRec.risen, off]
      · simp [OutputRec.risen, normal, mirror, headrest]

/-- A fall at such an event lets the REVERSE views linger or go (R99, R100). -/
theorem Weighs.falls (becomes : revOf u.recv.source u.recv.line u.busTerm = false) (was : s.recv.revEff = true) :
    let t := u.evalRev fall
    t.recv.revEff = false ∧ t.mixer.revEff = false ∧ (2, 0) ∈ t.noticeKeys ∧ t.chime.mode = .absent ∧
    ∀ o, let r := s.out o
      let still := decide (s.comp.policy.lingerTime = 0)
      t.out o = r.fallen still s.speedEnds ∧
      (r.owner = .camera ∧ r.reason = .reverse → OwnerNoticed t o (fallReason still s.speedEnds)) := by
  have still : u.recv.revEff = s.recv.revEff := weighs.changes.at .revEff
  have phase : Running u := by
    unfold Running
    rw [show u.part = s.part from weighs.changes.at .part]
    exact running
  have rev : (u.evalRev fall).recv.revEff = false := by rw [evalRev_recv, becomes]
  obtain ⟨-, -, noted⟩ := evalRev_notices u fall
  obtain ⟨queued, mixer⟩ := noted (by rw [rev, still, was]; decide)
  obtain ⟨w, differs, turns⟩ := evalRev_turns phase fall becomes (by rw [still, was]; decide)
  simp only [Bool.false_eq_true, if_false] at turns
  obtain ⟨out, notices, -, absent⟩ := turns
  have same : ∀ o, w.out o = s.out o := fun o => (out_of_changes differs o).trans (out_of_changes weighs.changes o)
  have policy : w.comp.policy = s.comp.policy :=
    (show w.comp.policy = u.comp.policy from differs.at .policy).trans (weighs.changes.at .policy)
  have fast : w.speedEnds = s.speedEnds := (speedEnds_of_changes differs).trans weighs.fast
  refine ⟨rev, mixer.trans rev, queued, absent trivial, fun o => ?_⟩
  obtain ⟨record, noticed⟩ := viewFall_at w o
  rw [same, policy, fast] at record noticed
  rw [out]
  exact ⟨record, fun view => notices o _ (noticed view)⟩

end

theorem lineSettles_weighs (s : State) : Weighs s s.lineSettles :=
  ⟨(lineSettles_changes s).mono, speedEnds_of_changes (lineSettles_changes s)⟩

theorem loseReverse_weighs (s : State) : Weighs s (((s.loseSignal .reverse).reportSignals (signalBit .reverse)).latchTest) := by
  have lost := (loseSignal_changes s .reverse).mono (qs := [.rules, .busCounts, .signals, .reverse, .lostLatch, .notices])
  have rest : Changes [.lostLatch, .notices] (s.loseSignal .reverse) ((s.loseSignal .reverse).reportSignals (signalBit .reverse)).latchTest :=
    ((reportSignals_changes _ _).mono).trans ((latchTest_changes _).mono)
  have all := lost.trans rest.mono
  refine ⟨all, speedEnds_of_speed ?_ (all.at .policy)⟩
  rw [signal_of_changes rest, loseSignal_signal, if_neg (by decide)]

theorem updateReverse_weighs (s : State) (n : Fin 16) (after : Rule) (v : Int) (mask : BitVec 7) :
    Weighs s (((s.updateBy n after .reverse v).reportSignals mask).latchTest) := by
  have rest : Changes [.lostLatch, .notices] (s.updateBy n after .reverse v) ((s.updateBy n after .reverse v).reportSignals mask).latchTest :=
    ((reportSignals_changes _ _).mono).trans ((latchTest_changes _).mono)
  have all := ((updateBy_changes s n after .reverse v).mono (qs := [.rules, .busCounts, .signals, .reverse, .lostLatch, .notices])).trans rest.mono
  refine ⟨all, speedEnds_of_speed ?_ (all.at .policy)⟩
  rw [signal_of_changes rest, updateBy_signal, if_neg (by decide)]

/-- A command that evaluates REV_EFF after an event, the source and the terms giving `rev`. -/
def Evaluates (c : Instr) (s : State) (rev : Bool) : Prop :=
  ∃ u fall, Weighs s u ∧ revOf u.recv.source u.recv.line u.busTerm = rev ∧ exec c s = .next (u.evalRev fall)

theorem debounce_evaluates {s : State} {e : Nat} (runs : s.recv.debounce = some e) (there : s.recv.debounceTime * 10 ≤ e) :
    Evaluates .debounceExpiry s (revOf s.recv.source s.recv.rawLine s.busTerm) := by
  refine ⟨s.lineSettles, .line, lineSettles_weighs s, ?_, ?_⟩
  · rw [lineSettles_busTerm]
    rfl
  · rw [← debounced_due (reached_some runs there)]
    rfl

theorem lost_evaluates {s : State} {e : Nat} (held : (s.signal .reverse).state = .held) (runs : (s.signal .reverse).timer = some e)
    (there : 3 * (s.signal .reverse).timeout * 10 ≤ e) : Evaluates (.signalLost .reverse) s
      (revOf s.recv.source s.recv.line (decide ((s.signal .reverse).value = 1) && !s.speedEnds)) := by
  have weighs := loseReverse_weighs s
  have latch := loseReverse_latch s
  have lost : ((((s.loseSignal .reverse).reportSignals (signalBit .reverse)).latchTest).signal .reverse).state = .lost := by
    rw [signal_of_changes (latchTest_changes _), signal_of_changes (reportSignals_changes _ _), loseSignal_signal, if_pos rfl]
    rfl
  refine ⟨_, .bus, weighs, ?_, ?_⟩
  · have unturned : Changes [.signals, .lostLatch, .notices] s (((s.loseSignal .reverse).reportSignals (signalBit .reverse)).latchTest) :=
      (((loseSignal_changes s .reverse).mono).trans ((reportSignals_changes _ _).mono)).trans ((latchTest_changes _).mono)
    obtain ⟨-, line, -, -, source⟩ := unturned.at .reverse
    rw [source, line]
    unfold State.busTerm
    simp only [lost, latch]
  · show Host.Outcome.next (s.signalLost .reverse) = _
    rw [signalLost_eq held (reached_some runs there)]
    rfl

theorem frame_evaluates {s : State} {extended : Bool} {identifier : Nat} {n : Fin 16} {data : List Byte} {after : Rule} {v : Int}
    (running : Running s) (one : ∀ m, (s.rule m).accepts extended identifier = decide (m = n)) (target : (s.rule n).target = .reverse)
    (applied : (s.rule n).apply data = (after, some v)) (dlc : Nat) :
    Evaluates (.busFrame (.data extended identifier dlc data)) s (revOf s.recv.source s.recv.line (decide (v = 1))) := by
  have updates := receive_updates ((rulesLoaded_iff s).2 (.inl running)) one applied dlc
  dsimp only at updates
  rw [target] at updates
  refine ⟨_, .bus, updateReverse_weighs s n after v (updateMask (s.signal .reverse) .reverse), ?_, congrArg Host.Outcome.next updates⟩
  generalize updateMask (s.signal .reverse) .reverse = mask
  have rest : Changes [.lostLatch, .notices] (s.updateBy n after .reverse v) ((s.updateBy n after .reverse v).reportSignals mask).latchTest :=
    ((reportSignals_changes _ _).mono).trans ((latchTest_changes _).mono)
  obtain ⟨-, line, -, -, source⟩ :=
    (((updateBy_changes s n after .reverse v).mono (qs := [.rules, .signals, .busCounts, .lostLatch, .notices])).trans rest.mono).at .reverse
  rw [source, line]
  unfold State.busTerm
  rw [signal_of_changes rest, updateBy_signal, if_pos rfl]
  rfl

/-- Settles O41: each event evaluates REV_EFF, and a rise and a fall turn the outputs. -/
theorem reverseTakesAndGivesBackTheViews : Obligations.ReverseTakesAndGivesBackTheViews := by
  unfold Obligations.ReverseTakesAndGivesBackTheViews
  intro given term s c rev running event
  have term_eq : term s = s.busTerm := (busTerm_eq s).symm
  have given_eq : ∀ x line bus, given x line bus = revOf x line bus := fun x line bus => (revOf_eq x line bus).symm
  have evaluates : Evaluates c s rev := by
    rcases event with ⟨rfl, ⟨e, runs, there⟩, rfl⟩ | ⟨rfl, held, ⟨e, runs, there⟩, rfl⟩ |
      ⟨extended, identifier, dlc, data, n, rfl, one, target, covered, valid, new, rfl⟩
    · rw [given_eq, term_eq]
      exact debounce_evaluates runs there
    · rw [given_eq]
      exact lost_evaluates held runs there
    · rw [given_eq]
      exact frame_evaluates running one target (apply_update covered valid new) dlc
  obtain ⟨u, fall, weighs, becomes, next⟩ := evaluates
  have changes : Changes ([.reverse, .rules, .busCounts, .lostLatch] ++ signalPieces) s (u.evalRev fall) :=
    (weighs.changes.mono).trans ((evalRev_changes u fall).mono)
  refine ⟨fun risen was => ⟨_, next, changes, ?_⟩, fun fallen was => ⟨_, next, changes, ?_⟩⟩
  · exact weighs.rises running fall (becomes.trans risen) was
  · obtain ⟨eff, mixer, queued, absent, outs⟩ := weighs.falls running fall (becomes.trans fallen) was
    refine ⟨eff, mixer, queued, absent, fun o => ?_⟩
    obtain ⟨record, noticed⟩ := outs o
    intro r still fast
    have fast_iff : s.speedEnds = true ↔ fast := by
      unfold State.speedEnds fast
      simp
    refine ⟨fun owner reason => ?_, fun other => ?_⟩
    · have told := noticed ⟨owner, reason⟩
      rw [OutputRec.fallen, if_pos ⟨owner, reason⟩] at record
      unfold fallReason at told
      refine ⟨fun now => ?_, fun later ends => ?_, fun later slow => ?_⟩
      · rw [decide_eq_true now] at record told
        exact ⟨record, told⟩
      · rw [decide_eq_false later, fast_iff.2 ends] at record told
        exact ⟨record, told⟩
      · rw [decide_eq_false later, Bool.eq_false_iff.2 (fun ends => slow (fast_iff.1 ends))] at record told
        exact ⟨record, told⟩
    · rw [record, OutputRec.fallen, if_neg other]

end Sys2Proof.Machine
end

section
/-! PROOFS. What the decision on the park chime makes of the chime table (R162, R163). -/

namespace Sys2Proof.Machine

set_option Elab.async false

open Sys2Proof

/-! ### Searching the entries -/

theorem entryIs_iff {s : State} {p : ChimeEntry → Bool} {i : Fin 8} :
    s.entryIs p i = true ↔ ∃ e, s.entry i = some e ∧ p e = true := by
  unfold State.entryIs
  cases s.entry i <;> simp

theorem playingEntry_isSome {s : State} : s.playingEntry.isSome = true ↔ ∃ i e, s.entry i = some e ∧ e.playing = true := by
  unfold State.playingEntry State.findEntry entryIds
  rw [List.find?_isSome]
  simp only [List.mem_finRange, true_and, entryIs_iff]

theorem playingEntry_some {s : State} {i : Fin 8} (h : s.playingEntry = some i) : ∃ e, s.entry i = some e ∧ e.playing = true :=
  entryIs_iff.1 (List.find?_some h)

/-- The only entry that passes a test is the one found. -/
theorem findEntry_only {s : State} {p : ChimeEntry → Bool} {i : Fin 8} {e : ChimeEntry} (used : s.entry i = some e) (passes : p e = true)
    (only : ∀ j g, s.entry j = some g → p g = true → j = i) : s.findEntry p = some i := by
  have some : (s.findEntry p).isSome = true := List.find?_isSome.2 ⟨i, List.mem_finRange i, entryIs_iff.2 ⟨e, used, passes⟩⟩
  obtain ⟨j, found⟩ := Option.isSome_iff_exists.1 some
  obtain ⟨g, at_j, named⟩ := entryIs_iff.1 (List.find?_some found)
  rw [found, only j g at_j named]

theorem freeEntry_lowest {s : State} {k : Fin 8} (free : s.entry k = none) (lowest : ∀ j, j < k → s.entry j ≠ none) :
    s.freeEntry = some k := by
  unfold State.freeEntry entryIds
  rw [List.find?_eq_some_iff_getElem]
  refine ⟨by rw [free]; rfl, k.1, by simp, by simp, fun j before => ?_⟩
  have used := lowest ⟨j, by omega⟩ before
  simp only [List.getElem_finRange]
  simpa [Option.ne_none_iff_isSome] using used

/-! ### A PARK entry is made -/

/-- While a chime is PLAYING the choice does nothing (R155). -/
theorem chooseChime_playing {s : State} (playing : s.playingEntry.isSome = true) : s.chooseChime = s := if_pos playing

theorem makeEntry_entry (s : State) (i : Fin 8) (c : ChimeClass) (o : ChimeOrigin) (x : Sound) (n : Nat) (tag : Byte) (j : Fin 8) :
    (s.makeEntry i c o x n tag).entry j = if i = j then some ⟨c, o, x, n, tag, false, s.chime.nextAge, 0, 0, none⟩ else s.entry j :=
  putEntry_entry s i _ j

/-- An entry can be made without a choice: the lowest free one, while a chime is PLAYING. -/
structure CanMake (s : State) (k : Fin 8) : Prop where
  free : s.entry k = none
  lowest : ∀ j, j < k → s.entry j ≠ none
  playing : s.playingEntry.isSome = true

/-- A PARK entry made in a free entry (R162, R163). -/
structure ParkMade (s t : State) (k : Fin 8) (sound : Sound) (reps : Nat) (mode : ParkMode) (given : Bool) : Prop where
  entry : t.entry k = some ⟨.warning, .park, sound, reps, 0#8, false, s.chime.nextAge, 0, 0, none⟩
  others : ∀ j, j ≠ k → t.entry j = s.entry j
  mode : t.chime.mode = mode
  given : t.chime.sensorGiven = given
  notices : t.link.notices = s.link.notices

section
variable {s : State} {k : Fin 8} (can : CanMake s k)
include can

theorem CanMake.admitPark (x : Sound) (n : Nat) : s.admitPark x n = (s.makeEntry k .warning .park x n 0, true) := by
  obtain ⟨p, e, used, plays⟩ := playingEntry_isSome.1 can.playing
  have apart : k ≠ p := fun same => by
    rw [← same, can.free] at used
    exact nomatch used
  have goes : (s.makeEntry k .warning .park x n 0).playingEntry.isSome = true :=
    playingEntry_isSome.2 ⟨p, e, by rw [makeEntry_entry, if_neg apart, used], plays⟩
  unfold State.admitPark
  rw [freeEntry_lowest can.free can.lowest]
  dsimp only
  rw [chooseChime_playing goes]

theorem CanMake.makeBeat (mode : ParkMode) (x : Sound) : ParkMade s (s.makeBeat mode x) k x 0 mode s.chime.sensorGiven := by
  unfold State.makeBeat
  rw [can.admitPark]
  exact ⟨(makeEntry_entry s k _ _ _ _ _ k).trans (if_pos rfl),
    fun j other => (makeEntry_entry s k _ _ _ _ _ j).trans (if_neg (Ne.symm other)), rfl, rfl, rfl⟩

theorem CanMake.makeSensorChime : ParkMade s s.makeSensorChime k s.chime.cadence.sensorSound 2 .sensor true := by
  unfold State.makeSensorChime
  rw [can.admitPark]
  exact ⟨(makeEntry_entry s k _ _ _ _ _ k).trans (if_pos rfl),
    fun j other => (makeEntry_entry s k _ _ _ _ _ j).trans (if_neg (Ne.symm other)), rfl, rfl, rfl⟩

end

/-! ### The PARK entry ends -/

/-- The notice of a cancelled chime is queued (R157). -/
def CancelNoticed (t : State) (i : Fin 8) (tag : Byte) : Prop := ∃ x ∈ t.link.notices, x.report = .chimeEnded i tag .cancelled

/-- The one PARK entry, at `i` (R162). -/
structure ParkAt (s : State) (i : Fin 8) (e : ChimeEntry) : Prop where
  used : s.entry i = some e
  origin : e.origin = .park
  only : ∀ j g, s.entry j = some g → g.origin = .park → j = i

section
variable {s : State} {i : Fin 8} {e : ChimeEntry} (park : ParkAt s i e)
include park

theorem ParkAt.parkEntry : s.parkEntry = some i :=
  findEntry_only park.used (by simp [park.origin]) fun j g used named => park.only j g used (by simpa using named)

theorem ParkAt.cancelPark_eq : s.cancelPark = (s.endEntry i .cancelled).chooseChime := by
  unfold State.cancelPark
  rw [park.parkEntry]

/-- The PARK entry ends CANCELLED: its entry is free, the mode ABSENT, and CHIME_ENDED queued (R157, R162). -/
theorem ParkAt.cancelPark : let t := s.cancelPark
    t.entry i = none ∧ t.chime.mode = .absent ∧ t.chime.sensorGiven = s.chime.sensorGiven ∧ CancelNoticed t i e.tag := by
  obtain ⟨entries, notices⟩ := endEntry_some park.used .cancelled
  have ended : (s.endEntry i .cancelled).chime.mode = .absent ∧ (s.endEntry i .cancelled).chime.sensorGiven = s.chime.sensorGiven := by
    unfold State.endEntry
    rw [park.used]
    dsimp only
    rw [if_pos park.origin]
    exact ⟨rfl, rfl⟩
  intro t
  obtain ⟨mode, given⟩ := (chooseChime_changes (s.endEntry i .cancelled)).at .park
  have queued : (s.endEntry i .cancelled).chooseChime.link.notices = (s.endEntry i .cancelled).link.notices :=
    (chooseChime_changes (s.endEntry i .cancelled)).at .notices
  unfold t CancelNoticed
  rw [park.cancelPark_eq, mode, given, queued, notices]
  refine ⟨?_, ended.1, ended.2, queueReport_has (chimeEnded_replaces i e.tag .cancelled) _⟩
  have free : (s.endEntry i .cancelled).entry i = none := by rw [entries, if_pos rfl]
  unfold State.chooseChime
  split
  · exact free
  · split
    case h_1 j f best =>
      have used := bestEntry_some best
      have apart : j ≠ i := fun same => by
        rw [same, free] at used
        exact nomatch used
      rw [putEntry_entry_ne _ _ _ apart, free]
    case h_2 => exact free

/-- While another chime is PLAYING, the end of the PARK entry frees it and leaves the others. -/
theorem ParkAt.cancelPark_others {p : Fin 8} (playing : s.playingEntry = some p) (other : p ≠ i) : let t := s.cancelPark
    (∀ j, j ≠ i → t.entry j = s.entry j) ∧ t.playingEntry.isSome = true ∧ t.chime.nextAge = s.chime.nextAge := by
  obtain ⟨entries, -⟩ := endEntry_some park.used .cancelled
  obtain ⟨f, used, plays⟩ := playingEntry_some playing
  have goes : (s.endEntry i .cancelled).playingEntry.isSome = true :=
    playingEntry_isSome.2 ⟨p, f, by rw [entries, if_neg (Ne.symm other), used], plays⟩
  have age : (s.endEntry i .cancelled).chime.nextAge = s.chime.nextAge := by
    unfold State.endEntry
    rw [park.used]
    dsimp only
    split <;> rfl
  intro t
  unfold t
  rw [park.cancelPark_eq, chooseChime_playing goes]
  exact ⟨fun j apart => by rw [entries, if_neg (Ne.symm apart)], goes, age⟩

/-- The entry that a new PARK entry takes after the old one has ended. -/
theorem ParkAt.canMake {k p : Fin 8} (free : s.entry k = none ∨ k = i) (lowest : ∀ j, j < k → s.entry j ≠ none ∧ j ≠ i)
    (playing : s.playingEntry = some p) (other : p ≠ i) : CanMake s.cancelPark k := by
  obtain ⟨others, goes, -⟩ := park.cancelPark_others playing other
  obtain ⟨ended, -⟩ := park.cancelPark
  refine ⟨?_, fun j before => ?_, goes⟩
  · by_cases same : k = i
    · rw [same, ended]
    · rw [others k same]
      exact free.resolve_right same
  · obtain ⟨used, apart⟩ := lowest j before
    rw [others j apart]
    exact used

/-- A beat of the PARK entry in use becomes its pending cadence (R162). -/
theorem ParkAt.changeBeat (mode : ParkMode) (x : Sound) : let t := s.changeBeat mode x
    t.chime.mode = mode ∧ t.entry i = some { e with cadence := some x } ∧ t.chime.sensorGiven = s.chime.sensorGiven ∧
      ∀ j, j ≠ i → t.entry j = s.entry j := by
  have found : State.parkEntry { s with chime := { s.chime with mode := mode } } = s.parkEntry := rfl
  unfold State.changeBeat
  dsimp only
  rw [park.parkEntry]
  dsimp only
  refine ⟨rfl, ?_, rfl, fun j apart => ?_⟩
  · rw [putEntry_entry_same, park.used]
    rfl
  · exact putEntry_entry_ne _ _ _ (Ne.symm apart)

end

/-! ### The wish (R162) -/

namespace ParkCadence

/-- The mode and the off time of the beat at a distance below far. -/
def beatMode (c : ParkCadence) (v : Int) : ParkMode := if v ≤ (c.near : Int) then .continuous else .beeping
def beatOff (c : ParkCadence) (v : Int) : Nat := if v ≤ (c.near : Int) then 0 else 40 + (v.toNat - c.near) * 560 / (c.far - c.near)

theorem wish_far {c : ParkCadence} {v : Int} (far : (c.far : Int) ≤ v) (given : Bool) : c.wish given (some v) = .nothing := if_pos far

theorem wish_beat {c : ParkCadence} {v : Int} (close : v < (c.far : Int)) (given : Bool) :
    c.wish given (some v) = .beat (c.beatMode v) (c.beatOff v) := by
  unfold ParkCadence.wish beatMode beatOff
  dsimp only
  rw [if_neg (by omega)]
  split <;> rfl

end ParkCadence

/-! ### The decision -/

/-- What a wish does from ABSENT (R162, R163). -/
theorem applyWish_absent {s : State} (absent : s.chime.mode = .absent) (b : Bool) : s.applyWish .nothing b = s ∧
    s.applyWish .sensorChime b = s.makeSensorChime ∧
    ∀ mode off, s.applyWish (.beat mode off) b = s.makeBeat mode (s.chime.cadence.sound off) := by
  simp [State.applyWish, absent]

/-- With the sensor chime in use. -/
theorem applyWish_sensor {s : State} (sensor : s.chime.mode = .sensor) (b : Bool) :
    s.applyWish .nothing b = (if b then s else s.cancelPark) ∧ s.applyWish .sensorChime b = s ∧
    ∀ mode off, s.applyWish (.beat mode off) b = s.cancelPark.makeBeat mode (s.chime.cadence.sound off) := by
  simp [State.applyWish, sensor]

/-- With a beat in use. -/
theorem applyWish_beating {s : State} (beating : s.chime.mode = .beeping ∨ s.chime.mode = .continuous) (b : Bool) :
    s.applyWish .nothing b = s.cancelPark ∧ s.applyWish .sensorChime b = s.cancelPark.makeSensorChime ∧
    ∀ mode off, s.applyWish (.beat mode off) b = s.changeBeat mode (s.chime.cadence.sound off) := by
  rcases beating with mode | mode <;> simp [State.applyWish, mode]

/-- The decision as it follows from the settings, the flag and a nearest distance (R162). -/
def State.decided (s : State) (m : Option Int) : State := s.applyWish (s.chime.cadence.wish s.chime.sensorGiven m) m.isNone

theorem wish_none_given {c : ParkCadence} {given : Bool} (set : given = true) : c.wish given none = .nothing := if_pos set

theorem wish_none_new {c : ParkCadence} {given : Bool} (clear : given = false) : c.wish given none = .sensorChime := by
  rw [clear]
  rfl

section
variable {s : State} (absent : s.chime.mode = .absent)
include absent

theorem decided_absent_far {v : Int} (far : (s.chime.cadence.far : Int) ≤ v) : s.decided (some v) = s := by
  unfold State.decided
  rw [ParkCadence.wish_far far]
  exact (applyWish_absent absent _).1

theorem decided_absent_given (set : s.chime.sensorGiven = true) : s.decided none = s := by
  unfold State.decided
  rw [wish_none_given set]
  exact (applyWish_absent absent _).1

/-- From ABSENT a near distance makes a beat, and none counted the sensor chime (R162, R163). -/
theorem decided_absent_made {k : Fin 8} (can : CanMake s k) :
    (∀ v, v < (s.chime.cadence.far : Int) → ParkMade s (s.decided (some v)) k (s.chime.cadence.sound (s.chime.cadence.beatOff v)) 0
      (s.chime.cadence.beatMode v) s.chime.sensorGiven) ∧
    (s.chime.sensorGiven = false → ParkMade s (s.decided none) k s.chime.cadence.sensorSound 2 .sensor true) := by
  obtain ⟨-, sensor, beats⟩ := applyWish_absent absent false
  unfold State.decided
  refine ⟨fun v close => ?_, fun clear => ?_⟩
  · rw [ParkCadence.wish_beat close]
    exact beats _ _ ▸ can.makeBeat _ _
  · rw [wish_none_new clear]
    obtain ⟨-, sensor, -⟩ := applyWish_absent absent true
    exact sensor ▸ can.makeSensorChime

end

/-- A new PARK entry after the end of the old one, said of the table before the end. -/
theorem ParkAt.remade {s t : State} {i k p : Fin 8} {e : ChimeEntry} {sound : Sound} {reps : Nat} {mode : ParkMode} {given : Bool}
    (park : ParkAt s i e) (playing : s.playingEntry = some p) (other : p ≠ i)
    (made : ParkMade s.cancelPark t k sound reps mode given) :
    (t.chime.mode = mode ∧ t.entry k = some ⟨.warning, .park, sound, reps, 0#8, false, s.chime.nextAge, 0, 0, none⟩) ∧
    t.chime.sensorGiven = given ∧ (∀ j, j ≠ i → j ≠ k → t.entry j = s.entry j) ∧ CancelNoticed t i e.tag := by
  obtain ⟨others, -, age⟩ := park.cancelPark_others playing other
  obtain ⟨-, -, -, noticed⟩ := park.cancelPark
  refine ⟨⟨made.mode, by rw [made.entry, age]⟩, made.given, fun j apart apart' => by rw [made.others j apart', others j apart], ?_⟩
  unfold CancelNoticed
  rw [made.notices]
  exact noticed

/-- With a beat in use: another beat, the end, or the end and the sensor chime (R162, R163). -/
theorem decided_beating {s : State} (beating : s.chime.mode = .beeping ∨ s.chime.mode = .continuous) :
    (∀ v, v < (s.chime.cadence.far : Int) → s.decided (some v) =
      s.changeBeat (s.chime.cadence.beatMode v) (s.chime.cadence.sound (s.chime.cadence.beatOff v))) ∧
    (∀ v, (s.chime.cadence.far : Int) ≤ v → s.decided (some v) = s.cancelPark) ∧
    (s.chime.sensorGiven = true → s.decided none = s.cancelPark) ∧
    (s.chime.sensorGiven = false → s.decided none = s.cancelPark.makeSensorChime) := by
  unfold State.decided
  refine ⟨fun v close => ?_, fun v far => ?_, fun set => ?_, fun clear => ?_⟩
  · rw [ParkCadence.wish_beat close]
    exact (applyWish_beating beating _).2.2 _ _
  · rw [ParkCadence.wish_far far]
    exact (applyWish_beating beating _).1
  · rw [wish_none_given set]
    exact (applyWish_beating beating _).1
  · rw [wish_none_new clear]
    exact (applyWish_beating beating _).2.1

/-- With the sensor chime in use: it stays, ends, or a beat follows it (R163). -/
theorem decided_sensor {s : State} (sensor : s.chime.mode = .sensor) : s.decided none = s ∧
    (∀ v, (s.chime.cadence.far : Int) ≤ v → s.decided (some v) = s.cancelPark) ∧
    (∀ v, v < (s.chime.cadence.far : Int) → s.decided (some v) =
      s.cancelPark.makeBeat (s.chime.cadence.beatMode v) (s.chime.cadence.sound (s.chime.cadence.beatOff v))) := by
  unfold State.decided
  refine ⟨?_, fun v far => ?_, fun v close => ?_⟩
  · cases given : s.chime.sensorGiven with
    | false => exact (applyWish_sensor sensor _).2.1
    | true => exact (applyWish_sensor sensor _).1
  · rw [ParkCadence.wish_far far]
    exact (applyWish_sensor sensor _).1
  · rw [ParkCadence.wish_beat close]
    exact (applyWish_sensor sensor _).2.2 _ _

/-- The decision, said of the table it is made on. -/
theorem decided_parkDecided (s : State) (m : Option Int) :
    ParkDecided s (s.decided m) s.chime.cadence s.chime.sensorGiven m := by
  have unchanged : s.decided m = s → (∀ i, (s.decided m).entry i = s.entry i) ∧ (s.decided m).chime.mode = s.chime.mode ∧
      (s.decided m).chime.sensorGiven = s.chime.sensorGiven := fun same => by rw [same]; exact ⟨fun _ => rfl, rfl, rfl⟩
  refine ⟨fun absent => ⟨?_, ?_, fun k free lowest playing => ?_⟩, fun i e used origin only => ?_⟩
  · rintro v rfl far
    exact unchanged (decided_absent_far absent far)
  · rintro rfl set
    exact unchanged (decided_absent_given absent set)
  · obtain ⟨beat, sensor⟩ := decided_absent_made absent ⟨free, lowest, playing⟩
    refine ⟨?_, ?_⟩
    · rintro v rfl close
      have made := beat v close
      exact ⟨⟨made.mode, made.entry⟩, made.given, made.others⟩
    · rintro rfl clear
      have made := sensor clear
      exact ⟨⟨made.mode, made.entry⟩, made.given, made.others⟩
  · have park : ParkAt s i e := ⟨used, origin, only⟩
    have ended : s.decided m = s.cancelPark → (s.decided m).chime.mode = .absent ∧ (s.decided m).entry i = none ∧
        (s.decided m).chime.sensorGiven = s.chime.sensorGiven ∧ CancelNoticed (s.decided m) i e.tag := by
      intro same
      obtain ⟨free, mode, given, noticed⟩ := park.cancelPark
      rw [same]
      exact ⟨mode, free, given, noticed⟩
    have cadence : s.cancelPark.chime.cadence = s.chime.cadence := (cancelPark_changes s).at .cadence
    refine ⟨fun beating => ?_, fun sensor => ?_⟩
    · obtain ⟨beat, far, given, new⟩ := decided_beating beating
      refine ⟨?_, ?_, ?_, ?_⟩
      · rintro v rfl close
        rw [beat v close]
        exact park.changeBeat _ _
      · rintro v rfl beyond
        exact ended (far v beyond)
      · rintro rfl set
        exact ended (given set)
      · rintro rfl clear k ⟨free, lowest, p, playing, other⟩
        rw [new clear]
        have made := (park.canMake free lowest playing other).makeSensorChime
        rw [cadence] at made
        exact park.remade playing other made
    · obtain ⟨stays, far, beat⟩ := decided_sensor sensor
      refine ⟨?_, ?_, ?_⟩
      · rintro rfl
        exact unchanged stays
      · rintro v rfl beyond
        exact ended (far v beyond)
      · rintro v k rfl close ⟨free, lowest, p, playing, other⟩
        rw [beat v close]
        obtain ⟨-, -, given, -⟩ := park.cancelPark
        have made := (park.canMake free lowest playing other).makeBeat (s.chime.cadence.beatMode v)
          (s.chime.cadence.sound (s.chime.cadence.beatOff v))
        rw [given] at made
        exact park.remade playing other made

/-- What the decision is said of: the entries, the mode and the ages before, and the chime table and the queue after. -/
theorem ParkDecided.congr {s s' t t' : State} {d : ParkCadence} {given : Bool} {m : Option Int} (h : ParkDecided s t d given m)
    (entries : s'.chime.entries = s.chime.entries) (mode : s'.chime.mode = s.chime.mode) (age : s'.chime.nextAge = s.chime.nextAge)
    (entries' : t'.chime.entries = t.chime.entries) (mode' : t'.chime.mode = t.chime.mode)
    (given' : t'.chime.sensorGiven = t.chime.sensorGiven) (notices' : t'.link.notices = t.link.notices) :
    ParkDecided s' t' d given m := by
  unfold ParkDecided State.playingEntry State.findEntry State.entryIs State.entry at h ⊢
  rw [entries, mode, age, entries', mode', given', notices']
  exact h

/-- The park decision of an event (R162): while REV_EFF is set in RUNNING, the table is decided; else it stays. -/
theorem parkEvent_decided {s u : State} (running : Running u) (entries : u.chime.entries = s.chime.entries)
    (mode : u.chime.mode = s.chime.mode) (age : u.chime.nextAge = s.chime.nextAge) : 
    (u.recv.revEff = false → u.parkEvent.chime = u.chime ∧ u.parkEvent.link.notices = u.link.notices) ∧
    (u.recv.revEff = true → ParkDecided s u.parkEvent u.chime.cadence u.chime.sensorGiven u.nearest) := by
  have played : Changes [.mixer] u.decidePark u.parkEvent := syncPlaying_changes u.decidePark
  have chime : u.parkEvent.chime = u.decidePark.chime := by
    unfold State.parkEvent State.syncPlaying
    dsimp only
    split <;> rfl
  have notices : u.parkEvent.link.notices = u.decidePark.link.notices := played.at .notices
  rw [chime, notices]
  refine ⟨fun clear => ?_, fun set => ?_⟩
  · have idle : u.decidePark = u := if_neg (by rw [clear]; exact nofun)
    rw [idle]
    exact ⟨rfl, rfl⟩
  · have decides : u.decidePark = u.decided u.nearest := by
      refine if_pos ?_
      unfold State.isRunning
      rw [set, show u.part.phase = .running from running]
      rfl
    have made := decided_parkDecided u u.nearest
    rw [← decides] at made
    exact made.congr entries.symm mode.symm age.symm (by rw [chime]) (by rw [chime]) (by rw [chime]) notices

end Sys2Proof.Machine
end

section
/-! PROOFS. When the park chime is decided: SET PARK CADENCE, the distances, and a rise of REV_EFF (R38, R46, R162 to R164). -/

namespace Sys2Proof.Machine

set_option Elab.async false

open Sys2Proof

/-! ### The decision as the last thing an event does -/

theorem nearest_of_signals {s t : State} (same : t.recv.signals = s.recv.signals) : t.nearest = s.nearest := by
  unfold State.nearest State.counts State.signal
  rw [same]

theorem nearest_of_changes {ps : List Piece} {s t : State} (c : Changes ps s t) (signals : ps.contains .signals = false := by decide) :
    t.nearest = s.nearest := nearest_of_signals (c.at .signals signals)

/-- An event that leaves the chime table alone and hands on a distance (R38, R162). -/
theorem distance_decided {s u : State} (running : Running s) (part : u.part = s.part) (chime : u.chime = s.chime)
    (eff : u.recv.revEff = s.recv.revEff) : let t := u.parkEvent
    (s.recv.revEff = false → (∀ i, t.entry i = s.entry i) ∧ t.chime.mode = s.chime.mode) ∧
    (s.recv.revEff = true → ParkDecided s t s.chime.cadence s.chime.sensorGiven t.nearest) := by
  have phase : Running u := by
    unfold Running
    rw [part]
    exact running
  obtain ⟨clear, set⟩ := parkEvent_decided phase (by rw [chime]) (by rw [chime]) (by rw [chime] : u.chime.nextAge = s.chime.nextAge)
  rw [eff, chime] at clear set
  intro t
  refine ⟨fun fallen => ?_, fun risen => ?_⟩
  · obtain ⟨same, -⟩ := clear fallen
    unfold State.entry
    rw [same]
    exact ⟨fun _ => rfl, rfl⟩
  · rw [nearest_of_changes (parkEvent_changes u)]
    exact set risen

/-! ### SET PARK CADENCE (R164) -/

theorem clampOpt_same {lo hi : Nat} (ordered : lo ≤ hi) (n : Option Nat) :
    clampOpt lo hi n = n ↔ n.all (fun k => decide (lo ≤ k ∧ k ≤ hi)) = true := by
  cases n with
  | none => simp [clampOpt]
  | some k => simp [clampOpt, clampNat_same ordered]

theorem clampOpt_eq {lo hi : Nat} (ordered : lo ≤ hi) (n : Option Nat) : clampOpt lo hi n = n.map fun k => max lo (min hi k) := by
  unfold clampOpt
  exact congrArg (n.map ·) (funext (clampNat_eq ordered))

theorem clampOpt_zero (hi : Nat) (n : Option Nat) : clampOpt 0 hi n = n.map (min hi) := by
  unfold clampOpt
  exact congrArg (n.map ·) (funext (clampNat_zero hi))

/-- ADJUSTED where a field was clamped (R174). -/
theorem setParkCadence_result (f : SetParkCadence) : doneOr (SetParkCadence.clamped f) =
    if f.near.all (fun n => decide (20 ≤ n ∧ n ≤ 60)) && f.far.all (fun n => decide (100 ≤ n ∧ n ≤ 250)) &&
      f.halfPeriod.all (fun n => decide (6 ≤ n ∧ n ≤ 255)) && f.level.all (fun n => decide (n ≤ 63)) then .done else .adjusted := by
  refine doneOr_ite ?_
  have level := clampOpt_same (Nat.zero_le 63) f.level
  simp only [Nat.zero_le, true_and] at level
  unfold SetParkCadence.clamped
  rw [Bool.and_eq_true, Bool.and_eq_true, Bool.and_eq_true, ← clampOpt_same (by decide), ← clampOpt_same (by decide),
    ← clampOpt_same (by decide), ← level, decide_eq_false_iff_not]
  tauto

/-- SET PARK CADENCE stores its fields, and the park sound is decided with them (R162, R164). -/
theorem setParkCadence_answers {s : State} {f : SetParkCadence} (running : Running s) (defined : f.undefinedBit = false) :
    Answers (.setParkCadence (.whole f)) s (doneOr (SetParkCadence.clamped f)) .empty (.cadence :: chimePieces) fun t =>
      t.chime.cadence = SetParkCadence.store f s.chime.cadence ∧
      (s.recv.revEff = false → (∀ i, t.entry i = s.entry i) ∧ t.chime.mode = s.chime.mode ∧
        t.chime.sensorGiven = s.chime.sensorGiven ∧ t.link.notices = s.link.notices) ∧
      (s.recv.revEff = true → ParkDecided s t (SetParkCadence.store f s.chime.cadence) s.chime.sensorGiven s.nearest) := by
  generalize e : ({ s.taking 0x78#8 with chime := { (s.taking 0x78#8).chime with
    cadence := SetParkCadence.store f (s.taking 0x78#8).chime.cadence } } : State) = u
  have part : u.part = s.part := by rw [← e]; exact taking_part s _
  have recv : u.recv = s.recv := by rw [← e]; exact taking_recv s _
  have chime : u.chime = { s.chime with cadence := SetParkCadence.store f s.chime.cadence } := by
    rw [← e, taking_chime]
  have notices : u.link.notices = s.link.notices := by rw [← e]; exact taking_notices s _
  have phase : Running u := by
    unfold Running
    rw [part]
    exact running
  obtain ⟨clear, set⟩ := parkEvent_decided (s := s) phase (by rw [chime]) (by rw [chime]) (by rw [chime])
  have stored : u.parkEvent.chime.cadence = SetParkCadence.store f s.chime.cadence :=
    (show u.parkEvent.chime.cadence = u.chime.cadence from (parkEvent_changes u).at .cadence).trans (by rw [chime])
  rw [chime, recv, nearest_of_signals (congrArg Receiver.signals recv)] at set
  rw [recv, chime, notices] at clear
  refine answers_of_whole (u := u.parkEvent) rfl rfl ?_ ?_ ⟨stored, fun fallen => ?_, fun risen => ?_⟩
  · rw [← e]
    exact if_neg (by rw [defined]; exact nofun)
  · rw [← e]
    exact ((cadence_changes (s.taking 0x78#8) _).mono).trans ((parkEvent_changes _).mono)
  · obtain ⟨table, queue⟩ := clear fallen
    simp only [answer_entry, answer_chime, answer_notices]
    unfold State.entry
    rw [table, queue]
    exact ⟨fun _ => rfl, rfl, rfl, rfl⟩
  · exact (set risen).congr rfl rfl rfl rfl rfl rfl rfl

/-! ### The distances (R38) -/

/-- The signals that are park distances are neither REVERSE nor SPEED, and the park chime alone takes them (R38). -/
theorem distance_cases {i : SignalId} (distance : i ∈ [SignalId.distOuterL, .distInnerL, .distInnerR, .distOuterR]) :
    i ≠ .reverse ∧ i ≠ .speed ∧ (∀ (u : State) mask, u.handUpdates [i] mask = u.parkEvent) ∧
      ∀ u : State, u.handStateChange i = u.parkEvent := by
  simp only [List.mem_cons, List.not_mem_nil, or_false] at distance
  rcases distance with rfl | rfl | rfl | rfl <;> exact ⟨nofun, nofun, fun _ _ => rfl, fun _ => rfl⟩

theorem reportSignals_chime (s : State) (mask : BitVec 7) : (s.reportSignals mask).chime = s.chime := by
  unfold State.reportSignals
  split <;> rfl

/-- An update of a distance in a settled state is reported and decides the park sound (R34, R38). -/
theorem receive_distance {s : State} {extended : Bool} {identifier : Nat} {n : Fin 16} {data : List Byte} {after : Rule} {v : Int}
    (settled : ReverseSettled s) (running : Running s) (one : ∀ m, (s.rule m).accepts extended identifier = decide (m = n))
    (applied : (s.rule n).apply data = (after, some v))
    (distance : (s.rule n).target ∈ [SignalId.distOuterL, .distInnerL, .distInnerR, .distOuterR]) (dlc : Nat) :
    ∃ mask, s.receive (.data extended identifier dlc data) =
      ((s.updateBy n after (s.rule n).target v).reportSignals mask).parkEvent := by
  obtain ⟨reverse, speed, hands, -⟩ := distance_cases distance
  have counted := settled_of_changes (putRule_changes s.countFrame n after) (settled_of_changes (countFrame_changes s) settled)
  refine ⟨updateMask (s.signal (s.rule n).target) (s.rule n).target, ?_⟩
  rw [receive_updates ((rulesLoaded_iff s).2 (.inl running)) one applied dlc]
  generalize updateMask (s.signal (s.rule n).target) (s.rule n).target = mask
  have still : ReverseSettled ((s.updateBy n after (s.rule n).target v).reportSignals mask) :=
    settled_of_changes (reportSignals_changes _ mask) (putSignal_settled counted ((s.signal (s.rule n).target).update v) reverse speed)
  rw [latchTest_of_tested still.2, evalRev_of_settled still]
  exact hands _ mask

/-! ### A rise of REV_EFF that hands over nothing at CENTRE (R46, R163) -/

/-- Every consequence held after was held before. -/
def HoldsFewer (s t : State) : Prop := ∀ c ∈ t.fmm.pending, c ∈ s.fmm.pending

theorem HoldsFewer.of_same {s t : State} (same : t.fmm.pending = s.fmm.pending) : HoldsFewer s t := fun c held => by rwa [same] at held

theorem HoldsFewer.trans {s t u : State} (h : HoldsFewer s t) (k : HoldsFewer t u) : HoldsFewer s u := fun c held => h c (k c held)

theorem HoldsFewer.of_changes {ps : List Piece} {s t : State} (c : Changes ps s t)
    (consequences : ps.contains .consequences = false := by decide) : HoldsFewer s t := .of_same (c.at .consequences consequences)

theorem handGuide_fewer (s : State) (f : Guide → Guide) : HoldsFewer s (s.handGuide f) := by
  have dropped : ∀ u : State, u.fmm.pending = s.fmm.pending → HoldsFewer s u.stopGuide := fun u same c held => by
    have listed : c ∈ u.fmm.pending.filter fun c => !decide (c.reader = .guide) := held
    rw [same] at listed
    exact (List.mem_filter.1 listed).1
  unfold State.handGuide
  dsimp only
  split
  · exact dropped _ rfl
  · split
    · exact .of_same ((requestRecompute_changes _).at .consequences)
    · exact .of_same rfl

theorem setCameraStatus_fewer (s : State) (x : CameraStatus) : HoldsFewer s (s.setCameraStatus x) :=
  (HoldsFewer.of_same rfl).trans (handGuide_fewer _ _)

theorem followCamera_fewer (s : State) : HoldsFewer s s.followCamera := by
  have none : HoldsFewer s s := .of_same rfl
  unfold State.followCamera
  split
  · split
    · exact (HoldsFewer.of_same rfl).trans (setCameraStatus_fewer _ _)
    · exact none
  · split
    · exact none
    · exact (HoldsFewer.of_same rfl).trans (setCameraStatus_fewer _ _)

theorem recomputeDemand_fewer (s : State) : HoldsFewer s s.recomputeDemand := by
  unfold State.recomputeDemand
  dsimp only
  split
  · exact .of_same rfl
  · generalize (outputs.any fun o => (s.out o).inView) = d
    have asked : HoldsFewer s { s with comp := { s.comp with demand := d } } := .of_same rfl
    exact (asked.trans (followCamera_fewer _)).trans (handGuide_fewer _ _)

theorem setOwner_fewer (s : State) (o : Output) (r : OutputRec) (why : OwnerReason) : HoldsFewer s (s.setOwner o r why) := by
  have told : HoldsFewer s ((s.putOut o r).report (.outputOwner o ((s.putOut o r).out o).owner why)) := .of_same rfl
  exact (told.trans (.of_changes (settleFlips_changes _))).trans (recomputeDemand_fewer _)

/-- No consequence waits for the scan-out of an output. -/
def QuietAt (s : State) (o : Output) : Prop := ∀ c ∈ s.fmm.pending, c.reader ≠ .scan o

theorem QuietAt.fewer {s t : State} {o : Output} (quiet : QuietAt s o) (fewer : HoldsFewer s t) : QuietAt t o :=
  fun c held => quiet c (fewer c held)

theorem QuietAt.handDue {s : State} {o : Output} (quiet : QuietAt s o) : s.handDue (.scan o) = s :=
  handDue_nothing fun c held => by simp [Consequence.dueAt, quiet c held]

theorem QuietAt.handAndPace {s : State} {o : Output} (quiet : QuietAt s o) : Changes [.free, .rings, .notices] s (s.handAndPace o) := by
  have free : ∀ n, Changes [.free, .rings, .notices] s { s with free := n } := by
    intro n p hp
    have same := same_refl s p
    cases p <;> first | exact absurd (by decide) hp | exact same
  have paced : ∀ (u : State) i e, Changes [.free, .rings, .notices] u (u.pace i e) := fun u i e => (pace_changes u i e).mono
  unfold State.handAndPace
  split
  · rw [quiet.handDue]
    exact .refl _ s
  · rename_i i _
    dsimp only
    have now : QuietAt { s with free := s.free + 1 } o := quiet
    refine Changes.ite (Changes.ite ?_ ?_) ?_
    · rw [(now.fewer (.of_changes (pace_changes _ i _))).handDue]
      exact (free _).trans (paced _ i _)
    · rw [now.handDue]
      exact (free _).trans (paced _ i _)
    · rw [quiet.handDue]
      exact paced _ i _

/-- What a rise changes where no consequence comes up: nothing of the chimes. -/
def risePieces : List Piece := [.owners, .outRun, .free, .rings] ++ ownerPieces

/-- A refresh event at which nothing is handed over. -/
theorem QuietAt.refresh {s : State} {o : Output} (quiet : QuietAt s o) : Changes risePieces s (s.refresh o) := by
  unfold State.refresh
  refine Changes.ite (.refl _ _) ?_
  dsimp only
  have ended := (endFrame_changes s o).mono (qs := risePieces)
  have still : QuietAt (s.endFrame o) o := quiet.fewer (.of_changes (endFrame_changes s o))
  have shown := (((ended.trans still.handAndPace.mono).trans ((releaseCapture_changes _ o).mono)).trans
    ((releaseGuide_changes _ o).mono)).trans ((refreshLayers_changes _ o).mono)
  generalize State.refreshLayers _ o = u at shown ⊢
  refine (Changes.trans ?_ ((refreshCamera_changes _ o).mono)).trans ((beginFrame_changes _ o).mono)
  exact Changes.ite (shown.trans ((flipGuide_changes u).mono)) shown

/-- A rise at one output, where CENTRE's scan-out hands over nothing. -/
theorem riseOf_quiet {s : State} {o : Output} (quiet : o = .centre → QuietAt s .centre) : Changes risePieces s (s.riseOf o) := by
  unfold State.riseOf
  dsimp only
  split
  · by_cases centre : o = .centre
    · subst centre
      rw [if_pos rfl]
      exact ((setOwner_changes s .centre { s.out .centre with
        owner := .camera, reason := .reverse, enabled := true, wasOff := true, activeTiming := (s.out .centre).hostTiming } .reverse
        ⟨rfl, rfl, rfl, rfl⟩).mono).trans ((quiet rfl).fewer (setOwner_fewer s .centre _ .reverse)).refresh
    · rw [if_neg centre]
      exact .refl _ s
  · exact Changes.ite ((setOwner_changes s o { s.out o with owner := .camera, reason := .reverse } .reverse
      ⟨rfl, rfl, rfl, rfl⟩).mono) (.refl _ _)
  · exact (setOwner_changes s o { s.out o with owner := .camera, reason := .reverse, linger := none } .reverse
      ⟨rfl, rfl, rfl, rfl⟩).mono
  · exact Changes.ite (((putOut_owner s o { s.out o with reason := .reverse } ⟨rfl, rfl, rfl, rfl⟩).mono).trans
      ((report_changes _ _).mono)) (.refl _ _)

theorem viewRise_quiet {s : State} (quiet : QuietAt s .centre) : Changes risePieces s s.viewRise := by
  unfold State.viewRise
  rw [outputs_foldl]
  exact ((riseOf_quiet fun _ => quiet).trans (riseOf_quiet (o := .rearL) fun named => nomatch named)).trans
    (riseOf_quiet (o := .rearR) fun named => nomatch named)

/-- A rise decides the park sound with the sensor-chime-given flag cleared (R163). -/
theorem handRevEff_decided {s : State} (running : Running s) (set : s.recv.revEff = true) (quiet : QuietAt s .centre) :
    ParkDecided s (s.handRevEff true) s.chime.cadence false s.nearest := by
  have risen := viewRise_quiet quiet
  generalize e : s.viewRise = v at risen
  obtain ⟨entries, age⟩ := risen.at .entries
  obtain ⟨mode, -⟩ := risen.at .park
  have cadence : v.chime.cadence = s.chime.cadence := risen.at .cadence
  have eff : v.recv.revEff = s.recv.revEff := risen.at .revEff
  have part : v.part = s.part := risen.at .part
  have phase : Running v := by
    unfold Running
    rw [part]
    exact running
  have going : ∀ u : State, Running u → u.isStarting = false := fun u h => by
    unfold State.isStarting
    rw [show u.part.phase = .running from h]
    rfl
  have handed : s.handRevEff true = (v.chimeRise).handMixerRev true := by
    unfold State.handRevEff
    simp only [going s running, e, going v phase, Bool.false_eq_true, if_false, if_true]
  have decided := (parkEvent_decided (s := s) (u := { v with chime := { v.chime with sensorGiven := false } }) phase entries mode age).2
    (eff.trans set)
  rw [handed, ← cadence, ← nearest_of_changes risen]
  exact decided.congr rfl rfl rfl rfl rfl rfl rfl

/-- A debounce expiry at which REV_EFF rises by the line decides the park sound (R46, R163). -/
theorem debounced_decided {s : State} (running : Running s) (due : reached s.recv.debounce s.recv.debounceTime = true)
    (source : s.recv.source = .line) (raw : s.recv.rawLine = true) (clear : s.recv.revEff = false) (quiet : QuietAt s .centre) :
    ParkDecided s s.debounced s.chime.cadence false s.nearest := by
  have rev : revOf s.lineSettles.recv.source s.lineSettles.recv.line s.lineSettles.busTerm = true := by
    rw [show s.lineSettles.recv.source = .line from source, show s.lineSettles.recv.line = true from raw]
    rfl
  have changed : true ≠ s.lineSettles.recv.revEff := by
    rw [show s.lineSettles.recv.revEff = false from clear]
    decide
  have chime : s.lineSettles.chime = s.chime := rfl
  have part : s.lineSettles.part = s.part := rfl
  have pending : s.lineSettles.fmm.pending = s.fmm.pending := rfl
  have near : s.lineSettles.nearest = s.nearest := nearest_of_changes (lineSettles_changes s)
  rw [debounced_due due]
  generalize s.lineSettles = u at rev changed chime part pending near
  unfold State.evalRev
  dsimp only
  rw [rev, if_neg changed]
  generalize e : State.report _ _ = w
  have table : w.chime = s.chime := by rw [← e]; exact chime
  have phase : Running w := by
    rw [← e]
    exact (congrArg Part.phase part).trans running
  have still : QuietAt w .centre := by
    rw [← e]
    exact quiet.fewer (.of_same pending)
  have same : w.nearest = s.nearest := by
    rw [← e, ← near]
    exact nearest_of_signals rfl
  have decided := handRevEff_decided phase (by rw [← e]; rfl) still
  rw [table, same] at decided
  exact decided.congr (by rw [table]) (by rw [table]) (by rw [table]) rfl rfl rfl rfl

/-- Settles O48: the request, an update and an ageing of a distance, and a rise, each by the decision it ends with. -/
theorem parkCadenceIsDecidedAnew : Obligations.ParkCadenceIsDecidedAnew := by
  refine ⟨fun s f running => ⟨fun undefined => ?_, fun defined => ?_⟩,
    fun s extended identifier dlc data n running settled one distance covered valid new => ?_,
    fun s c i running settled distance aged => ?_, fun s e running runs there source raw clear quiet => ?_⟩
  · exact turnsAway_of_whole rfl rfl (if_pos undefined)
  · have answers := setParkCadence_answers running defined
    rw [setParkCadence_result] at answers
    unfold SetParkCadence.store at answers
    rw [clampOpt_eq (by decide), clampOpt_eq (by decide), clampOpt_eq (by decide), clampOpt_zero] at answers
    exact answers
  · obtain ⟨mask, receives⟩ := receive_distance settled running one (apply_update covered valid new) distance dlc
    have updated := (updateBy_changes s n ((s.rule n).took data) (s.rule n).target
      ((s.rule n).convert (rawField (s.rule n).order (s.rule n).startBit data (s.rule n).length))).mono
        (qs := [.rules, .busCounts, .signals] ++ chimePieces)
    have reported := updated.trans ((reportSignals_changes _ mask).mono)
    refine ⟨_, congrArg Host.Outcome.next receives, reported.trans ((parkEvent_changes _).mono), ?_⟩
    exact distance_decided running (reported.at .part) (reportSignals_chime _ mask) (reported.at .revEff)
  · obtain ⟨e, runs, event⟩ := aged
    obtain ⟨reverse, speed, -, hands⟩ := distance_cases distance
    have ages : ∀ x : Signal, let u := (s.putSignal i x).reportSignals (signalBit i)
        exec c s = .next u.parkEvent → Makes c s (.signals :: chimePieces) fun t =>
          (s.recv.revEff = false → (∀ k, t.entry k = s.entry k) ∧ t.chime.mode = s.chime.mode) ∧
          (s.recv.revEff = true → ParkDecided s t s.chime.cadence s.chime.sensorGiven t.nearest) := by
      intro x u next
      have reported : Changes (.signals :: chimePieces) s u :=
        ((putSignal_changes s i x).mono).trans ((reportSignals_changes _ _).mono)
      exact ⟨_, next, reported.trans ((parkEvent_changes u).mono),
        distance_decided running (reported.at .part) (reportSignals_chime _ _) (reported.at .revEff)⟩
    rcases event with ⟨rfl, fresh, there⟩ | ⟨rfl, held, there⟩
    · refine ages (s.signal i).toHeld (congrArg Host.Outcome.next (a₁ := s.signalHeld i) ?_)
      rw [signalHeld_settled settled reverse speed fresh (reached_some runs there), hands]
    · refine ages ((s.signal i).toLost i) (congrArg Host.Outcome.next (a₁ := s.signalLost i) ?_)
      rw [signalLost_settled settled reverse speed held (reached_some runs there), hands]
  · exact ⟨_, rfl, debounced_changes s, debounced_decided running (reached_some runs there) source raw clear quiet⟩

end Sys2Proof.Machine
end

section
/-! PROOFS. The choice of frame at a pace event (R65). -/

namespace Sys2Proof.Machine

set_option Elab.async false

open Sys2Proof

/-! ### The READY stamps of a ring -/

/-- The stamps of the READY slots of a ring, in ring order (R50). -/
def readyStamps (ring : List Slot) : List Nat := ring.filterMap Slot.readyStamp

theorem readyStamp_eq_some {x : Slot} {v : Nat} : x.readyStamp = some v ↔ ∃ q, x = .ready v q := by
  cases x <;> simp [Slot.readyStamp]

theorem mem_readyStamps {ring : List Slot} {v : Nat} : v ∈ readyStamps ring ↔ ∃ (k q : Nat), ring[k]? = some (Slot.ready v q) := by
  unfold readyStamps
  rw [List.mem_filterMap]
  constructor
  · rintro ⟨x, listed, stamp⟩
    obtain ⟨q, rfl⟩ := readyStamp_eq_some.1 stamp
    obtain ⟨k, at_k⟩ := List.mem_iff_getElem?.1 listed
    exact ⟨k, q, at_k⟩
  · rintro ⟨k, q, at_k⟩
    exact ⟨.ready v q, List.mem_of_getElem? at_k, rfl⟩

/-- A READY slot emptied takes its stamp from the READY stamps. -/
theorem readyStamps_set_free {ring : List Slot} {k v q : Nat} (at_k : ring[k]? = some (.ready v q)) :
    (readyStamps ring).Perm (v :: readyStamps (ring.set k Slot.free)) := by
  obtain ⟨inside, here⟩ := List.getElem?_eq_some_iff.1 at_k
  have parts : ring = ring.take k ++ .ready v q :: ring.drop (k + 1) := by
    rw [← here, List.getElem_cons_drop, List.take_append_drop]
  rw [List.set_eq_take_append_cons_drop, if_pos inside]
  conv_lhs => rw [parts]
  simp only [readyStamps, List.filterMap_append, List.filterMap_cons, Slot.readyStamp, Slot.free]
  exact List.perm_middle

/-- Where the READY stamps differ, a stamp names its slot. -/
theorem ready_unique {ring : List Slot} (differ : (readyStamps ring).Nodup) {j k v p q : Nat} (at_j : ring[j]? = some (.ready v p))
    (at_k : ring[k]? = some (.ready v q)) : j = k := by
  by_contra apart
  have once := (readyStamps_set_free at_k).nodup_iff.1 differ
  refine (List.nodup_cons.1 once).1 (mem_readyStamps.2 ⟨j, p, ?_⟩)
  rw [List.getElem?_set_ne (Ne.symm apart), at_j]

theorem oldestReady_none : ∀ {ring : List Slot}, oldestReady ring = none → readyStamps ring = []
  | [], _ => rfl
  | x :: xs, h => by
    have later : (oldestReady xs).map (fun p => (p.1 + 1, p.2)) = none → readyStamps xs = [] := fun h =>
      oldestReady_none (Option.map_eq_none_iff.1 h)
    cases x with
    | ready stamp q =>
      unfold oldestReady at h
      split at h
      · split at h <;> exact nomatch h
      · exact nomatch h
    | empty | filling | showing => exact later h

/-- The oldest READY slot is a READY slot, and none has a lower stamp (R50). -/
theorem oldestReady_some : ∀ {ring : List Slot} {k v : Nat}, oldestReady ring = some (k, v) →
    (∃ q, ring[k]? = some (.ready v q)) ∧ ∀ w ∈ readyStamps ring, v ≤ w
  | [], k, v, h => nomatch h
  | x :: xs, k, v, h => by
    have later : (oldestReady xs).map (fun p => (p.1 + 1, p.2)) = some (k, v) →
        (∃ q, (x :: xs)[k]? = some (.ready v q)) ∧ ∀ w ∈ readyStamps xs, v ≤ w := by
      intro h
      obtain ⟨⟨j, w⟩, oldest, e⟩ := Option.map_eq_some_iff.1 h
      cases e
      exact oldestReady_some oldest
    cases x with
    | ready stamp q =>
      have among : ∀ u, u ≤ stamp → (∀ w ∈ readyStamps xs, u ≤ w) → ∀ w ∈ readyStamps (.ready stamp q :: xs), u ≤ w :=
        fun u here after => List.forall_mem_cons.2 ⟨here, after⟩
      unfold oldestReady at h
      split at h
      · rename_i p oldest
        split at h
        · rename_i lower
          obtain ⟨at_k, least⟩ := later (by rw [oldest]; exact h)
          cases h
          exact ⟨at_k, among _ lower.le least⟩
        · rename_i lower
          cases h
          obtain ⟨-, least⟩ := oldestReady_some oldest
          exact ⟨⟨q, rfl⟩, among _ le_rfl fun w listed => (Nat.le_of_not_lt lower).trans (least w listed)⟩
      · rename_i none_ready
        cases h
        exact ⟨⟨q, rfl⟩, among _ le_rfl (by simp [oldestReady_none none_ready])⟩
    | empty | filling | showing => exact later h

/-! ### What the choice makes of each slot -/

/-- Whether a stamp is neither late nor early, at clock value `c` with due window `e` and late tolerance `l` (R65). -/
def isDue (c e l v : Nat) : Bool := decide (c ≤ v + l) && decide (v ≤ c + e)

/-- The newest due stamp of a ring, if any is due. -/
def newestDue (c e l : Nat) (ring : List Slot) : Option Nat := ((readyStamps ring).filter (isDue c e l)).max?

/-- What the choice of frame makes of one slot, with the newest due stamp (R65). -/
def Slot.chosen (c e l : Nat) (holds : OutputSet) (newest : Option Nat) : Slot → Slot
  | .ready v q => if v + l < c then Slot.free else if c + e < v then .ready v q else if newest = some v then .showing v q else Slot.free
  | .showing v q => if newest.isSome then .empty holds else .showing v q
  | x => x

theorem chosen_ready (c e l : Nat) (holds : OutputSet) (newest : Option Nat) (v q : Nat) :
    Slot.chosen c e l holds newest (.ready v q) =
      if v + l < c then Slot.free else if c + e < v then .ready v q else if newest = some v then .showing v q else Slot.free := rfl

/-- What the choice of frame makes of a ring, its drops and supersessions counted (R65). -/
def chosen (c e l : Nat) (holds : OutputSet) (x : Choice) : Choice :=
  let stamps := readyStamps x.ring
  { ring := x.ring.map (Slot.chosen c e l holds (newestDue c e l x.ring))
    late := x.late + (stamps.filter fun v => decide (v + l < c)).length
    superseded := x.superseded + ((stamps.filter (isDue c e l)).length - 1)
    starved := x.starved || (stamps.all fun v => decide (v + l < c)) }

section
variable (c e l : Nat) (holds : OutputSet)

theorem newestDue_some {ring : List Slot} {v : Nat} :
    newestDue c e l ring = some v ↔ (v ∈ readyStamps ring ∧ isDue c e l v = true) ∧ ∀ w ∈ readyStamps ring, isDue c e l w = true → w ≤ v := by
  unfold newestDue
  rw [List.max?_eq_some_iff]
  simp only [List.mem_filter, and_imp]

theorem newestDue_congr {ring rest : List Slot}
    (same : ∀ v, newestDue c e l ring = some v ↔ newestDue c e l rest = some v) : newestDue c e l ring = newestDue c e l rest :=
  Option.ext same

/-- A slot that the choice empties may be emptied first. -/
theorem map_chosen_set {ring : List Slot} {newest : Option Nat} {k v q : Nat} (at_k : ring[k]? = some (.ready v q))
    (empties : Slot.chosen c e l holds newest (.ready v q) = Slot.free) :
    (ring.set k Slot.free).map (Slot.chosen c e l holds newest) = ring.map (Slot.chosen c e l holds newest) := by
  obtain ⟨inside, -⟩ := List.getElem?_eq_some_iff.1 at_k
  refine List.ext_getElem? fun j => ?_
  by_cases here : k = j
  · subst here
    simp only [List.getElem?_map, List.getElem?_set_self inside, at_k, Option.map_some, empties]
    rfl
  · simp only [List.getElem?_map, List.getElem?_set_ne here]

/-- The choice on a ring whose oldest READY slot it drops as late (R65, step 2). -/
theorem chosen_late {x : Choice} {k v q : Nat} (at_k : x.ring[k]? = some (.ready v q)) (late : v + l < c) :
    chosen c e l holds { x with ring := x.ring.set k Slot.free, late := x.late + 1 } = chosen c e l holds x := by
  have stamps := readyStamps_set_free at_k
  have out : isDue c e l v = false := by simp [isDue]; omega
  have newest : newestDue c e l (x.ring.set k Slot.free) = newestDue c e l x.ring := newestDue_congr c e l fun u => by
    simp only [newestDue_some, stamps.mem_iff, List.mem_cons, forall_eq_or_imp, out]
    refine and_congr_left' (and_congr_left fun due => ⟨.inr, fun either => either.resolve_left fun same => ?_⟩) |>.trans
      (and_congr_right' ⟨fun all => ⟨nofun, all⟩, And.right⟩)
    rw [same, out] at due
    exact nomatch due
  unfold chosen
  dsimp only
  rw [newest, map_chosen_set c e l holds at_k (if_pos late), (stamps.filter _).length_eq, (stamps.filter _).length_eq, stamps.all_eq]
  simp only [List.filter_cons, late, decide_true, if_true, List.length_cons, out, List.all_cons, Bool.true_and]
  simp [Nat.add_assoc, Nat.add_comm 1]

/-- The choice on a ring whose oldest READY slot is superseded (R65, step 4). -/
theorem chosen_superseded {x : Choice} {k v q next : Nat} (differ : (readyStamps x.ring).Nodup) (at_k : x.ring[k]? = some (.ready v q))
    (due : isDue c e l v = true) (listed : next ∈ readyStamps (x.ring.set k Slot.free)) (newer : v ≤ next)
    (due' : isDue c e l next = true) :
    chosen c e l holds { x with ring := x.ring.set k Slot.free, superseded := x.superseded + 1 } = chosen c e l holds x := by
  have stamps := readyStamps_set_free at_k
  obtain ⟨absent, -⟩ := List.nodup_cons.1 (stamps.nodup_iff.1 differ)
  have newest : newestDue c e l (x.ring.set k Slot.free) = newestDue c e l x.ring := newestDue_congr c e l fun u => by
    simp only [newestDue_some, stamps.mem_iff, List.mem_cons, forall_eq_or_imp]
    constructor
    · rintro ⟨⟨here, d⟩, all⟩
      exact ⟨⟨.inr here, d⟩, fun _ => newer.trans (all next listed due'), all⟩
    · rintro ⟨⟨here, d⟩, first, all⟩
      refine ⟨⟨here.resolve_left fun same => absent ?_, d⟩, all⟩
      obtain rfl : next = v := (same ▸ all next listed due').antisymm newer
      exact listed
  have late : ¬ v + l < c := by simp [isDue] at due; omega
  have early : ¬ c + e < v := by simp [isDue] at due; omega
  have other : newestDue c e l x.ring ≠ some v := by
    rw [← newest, Ne, newestDue_some]
    exact fun both => absent both.1.1
  have empties : Slot.chosen c e l holds (newestDue c e l x.ring) (.ready v q) = Slot.free :=
    (if_neg late).trans ((if_neg early).trans (if_neg other))
  have some_due : 0 < ((readyStamps (x.ring.set k Slot.free)).filter (isDue c e l)).length :=
    List.length_pos_of_mem (List.mem_filter.2 ⟨listed, due'⟩)
  have late' : ¬ next + l < c := by simp [isDue] at due'; omega
  unfold chosen
  dsimp only
  rw [newest, map_chosen_set c e l holds at_k empties, (stamps.filter _).length_eq, (stamps.filter _).length_eq, stamps.all_eq]
  simp only [List.filter_cons, late, decide_false, due, if_true, List.length_cons, List.all_cons, Bool.false_and, Choice.mk.injEq]
  refine ⟨trivial, by simp, by omega, ?_⟩
  rw [List.all_eq_false.2 ⟨next, listed, by simpa using late'⟩]

/-- The choice on a ring whose oldest READY slot is early: it stays, and so do the others (R65, step 3). -/
theorem chosen_early {x : Choice} {k v q : Nat} (at_k : x.ring[k]? = some (.ready v q)) (least : ∀ w ∈ readyStamps x.ring, v ≤ w)
    (late : ¬ v + l < c) (early : c + e < v) : chosen c e l holds x = x := by
  have none_due : ∀ w ∈ readyStamps x.ring, isDue c e l w = false := fun w listed => by
    have := least w listed
    simp [isDue]
    omega
  have newest : newestDue c e l x.ring = none := by
    unfold newestDue
    rw [List.filter_eq_nil_iff.2 fun w listed => by simp [none_due w listed]]
    rfl
  have stays : x.ring.map (Slot.chosen c e l holds none) = x.ring := by
    refine (List.map_congr_left fun y listed => ?_).trans (List.map_id _)
    cases y with
    | ready w p =>
      have := least w (List.mem_filterMap.2 ⟨_, listed, rfl⟩)
      exact (if_neg (by omega)).trans (if_pos (by omega))
    | empty | filling | showing => rfl
  have none_late : (readyStamps x.ring).filter (fun w => decide (w + l < c)) = [] := List.filter_eq_nil_iff.2 fun w listed => by
    have := least w listed
    simp
    omega
  unfold chosen
  dsimp only
  rw [newest, stays, none_late, List.filter_eq_nil_iff.2 fun w listed => by simp [none_due w listed],
    List.all_eq_false.2 ⟨v, mem_readyStamps.2 ⟨k, q, at_k⟩, by simpa using late⟩]
  simp

/-- The choice on a ring with one due READY slot: it is shown, and the slot that was SHOWING emptied (R65, step 5). -/
theorem chosen_shown {x : Choice} {k v q : Nat} (at_k : x.ring[k]? = some (.ready v q))
    (due : isDue c e l v = true) (rest : ∀ w ∈ readyStamps (x.ring.set k Slot.free), c + e < w ∧ ¬ w + l < c) :
    chosen c e l holds x = { x with ring := (x.ring.map (Slot.unshown holds)).modify k Slot.shown } := by
  have stamps := readyStamps_set_free at_k
  have others : ∀ w ∈ readyStamps (x.ring.set k Slot.free), isDue c e l w = false := fun w listed => by
    have := rest w listed
    simp [isDue]
    omega
  have late : ¬ v + l < c := by simp [isDue] at due; omega
  have early : ¬ c + e < v := by simp [isDue] at due; omega
  have newest : newestDue c e l x.ring = some v := by
    simp only [newestDue_some, stamps.mem_iff, List.mem_cons, forall_eq_or_imp]
    refine ⟨⟨.inl trivial, due⟩, fun _ => le_rfl, fun w listed d => ?_⟩
    rw [others w listed] at d
    exact nomatch d
  have slots : x.ring.map (Slot.chosen c e l holds (some v)) = (x.ring.map (Slot.unshown holds)).modify k Slot.shown := by
    refine List.ext_getElem? fun j => ?_
    rw [List.getElem?_modify]
    by_cases here : k = j
    · subst here
      simp only [List.getElem?_map, at_k, Option.map_some, if_true]
      exact congrArg some ((if_neg late).trans ((if_neg early).trans (if_pos rfl)))
    · simp only [List.getElem?_map, if_neg here]
      cases at_j : x.ring[j]? with
      | none => rfl
      | some y =>
        cases y with
        | ready w p =>
          obtain ⟨after, on_time⟩ := rest w (mem_readyStamps.2 ⟨j, p, by rw [List.getElem?_set_ne here, at_j]⟩)
          exact congrArg some ((if_neg on_time).trans (if_pos after))
        | empty | filling | showing => rfl
  have none_late : (readyStamps (x.ring.set k Slot.free)).filter (fun w => decide (w + l < c)) = [] :=
    List.filter_eq_nil_iff.2 fun w listed => by simpa using (rest w listed).2
  unfold chosen
  dsimp only
  rw [newest, slots, (stamps.filter _).length_eq, (stamps.filter _).length_eq, stamps.all_eq]
  have none_due : (readyStamps (x.ring.set k Slot.free)).filter (isDue c e l) = [] :=
    List.filter_eq_nil_iff.2 fun w listed => by simp [others w listed]
  simp [late, due, none_late, none_due]

/-- The choice of frame, slot by slot (R65). -/
theorem choose_eq : ∀ (n : Nat) (x : Choice), (readyStamps x.ring).Nodup → (readyStamps x.ring).length < n →
    choose c e l holds n x = chosen c e l holds x
  | 0, _, _, short => absurd short (Nat.not_lt_zero _)
  | n + 1, x, differ, enough => by
    unfold choose
    split
    · rename_i none_ready
      have no_stamps := oldestReady_none none_ready
      have stays : x.ring.map (Slot.chosen c e l holds none) = x.ring := by
        refine (List.map_congr_left fun y listed => ?_).trans (List.map_id _)
        cases y with
        | ready w p =>
          have : w ∈ readyStamps x.ring := List.mem_filterMap.2 ⟨_, listed, rfl⟩
          exact absurd this (no_stamps ▸ List.not_mem_nil)
        | empty | filling | showing => rfl
      have newest : newestDue c e l x.ring = none := by simp [newestDue, no_stamps]
      simp [chosen, no_stamps, newest, stays]
    · rename_i k v oldest
      obtain ⟨⟨q, at_k⟩, least⟩ := oldestReady_some oldest
      have stamps := readyStamps_set_free at_k
      have fewer : (readyStamps (x.ring.set k Slot.free)).length < n := by
        have := stamps.length_eq
        simp only [List.length_cons] at this
        omega
      obtain ⟨absent, differ'⟩ := List.nodup_cons.1 (stamps.nodup_iff.1 differ)
      have newer : ∀ w ∈ readyStamps (x.ring.set k Slot.free), v ≤ w := fun w listed =>
        least w (stamps.mem_iff.2 (.tail _ listed))
      dsimp only
      split
      · rename_i late
        rw [choose_eq n _ differ' fewer, chosen_late c e l holds at_k late]
      · rename_i late
        split
        · rename_i early
          exact (chosen_early c e l holds at_k least late early).symm
        · rename_i early
          have due : isDue c e l v = true := by simp [isDue]; omega
          split
          · rename_i next oldest'
            obtain ⟨⟨q', at_next⟩, least'⟩ := oldestReady_some oldest'
            have listed := mem_readyStamps.2 ⟨_, q', at_next⟩
            have after := newer _ listed
            split
            · rename_i reached
              have due' : isDue c e l next = true := by simp [isDue]; omega
              rw [choose_eq n _ differ' fewer, chosen_superseded c e l holds differ at_k due listed after due']
            · rename_i ahead
              refine (chosen_shown c e l holds at_k due fun w listed => ?_).symm
              have := least' w listed
              omega
          · rename_i alone
            refine (chosen_shown c e l holds at_k due fun w listed => ?_).symm
            rw [oldestReady_none alone] at listed
            exact nomatch listed

end

/-! ### The statement -/

/-- The choice shows a slot only where it was SHOWING, or was READY with the newest due stamp. -/
theorem chosen_eq_showing {c e l : Nat} {holds : OutputSet} {newest : Option Nat} {x : Slot} {v q : Nat} :
    Slot.chosen c e l holds newest x = .showing v q ↔
      (x = .showing v q ∧ newest = none) ∨ (x = .ready v q ∧ newest = some v ∧ ¬ v + l < c ∧ ¬ c + e < v) := by
  cases x with
  | ready w p =>
    rw [chosen_ready]
    split
    · rename_i late
      simp only [Slot.free, reduceCtorEq, false_and, false_or, Slot.ready.injEq, false_iff]
      rintro ⟨⟨rfl, rfl⟩, -, on_time, -⟩
      exact on_time late
    · split
      · rename_i early
        simp only [reduceCtorEq, false_and, false_or, false_iff, Slot.ready.injEq]
        rintro ⟨⟨rfl, rfl⟩, -, -, reached⟩
        exact reached early
      · split
        · rename_i late early new
          simp only [reduceCtorEq, false_and, false_or, Slot.ready.injEq, Slot.showing.injEq]
          exact ⟨fun ⟨h, h'⟩ => by subst h h'; exact ⟨⟨rfl, rfl⟩, new, late, early⟩, And.left⟩
        · rename_i other
          simp only [Slot.free, reduceCtorEq, false_and, false_or, false_iff, Slot.ready.injEq]
          rintro ⟨⟨rfl, rfl⟩, new, -⟩
          exact other new
  | showing w p => cases newest <;> simp [Slot.chosen]
  | empty | filling => simp [Slot.chosen]

/-- Where no READY frame is due, a ring shows what it showed. -/
theorem showingSlot_map {f : Slot → Slot} (keeps : ∀ x v q, f x = .showing v q ↔ x = .showing v q) :
    ∀ ring : List Slot, showingSlot (ring.map f) = showingSlot ring
  | [] => rfl
  | x :: xs => by
    have later := showingSlot_map keeps xs
    have skips : ∀ y : Slot, (∀ v q, y ≠ .showing v q) → ∀ ys, showingSlot (y :: ys) = (showingSlot ys).map fun p => (p.1 + 1, p.2) := by
      intro y other ys
      cases y with
      | showing v q => exact absurd rfl (other v q)
      | empty | filling | ready => rfl
    by_cases shows : ∃ v q, x = .showing v q
    · obtain ⟨v, q, rfl⟩ := shows
      rw [List.map_cons, (keeps _ v q).2 rfl]
      rfl
    · rw [List.map_cons, skips x (fun v q same => shows ⟨v, q, same⟩), skips (f x) (fun v q same => shows ⟨v, q, (keeps x v q).1 same⟩),
        later]

/-- The READY stamps that the choice leaves: the early ones (R65, step 3). -/
theorem readyStamps_chosen (c e l : Nat) (holds : OutputSet) (newest : Option Nat) (ring : List Slot) :
    readyStamps (ring.map (Slot.chosen c e l holds newest)) =
      (readyStamps ring).filter fun v => decide (c ≤ v + l) && decide (c + e < v) := by
  unfold readyStamps
  rw [List.filterMap_map, List.filter_filterMap]
  refine List.filterMap_congr fun x _ => ?_
  cases x with
  | ready v q =>
    simp only [Function.comp, chosen_ready, Slot.readyStamp, Option.filter_some]
    by_cases late : v + l < c
    · simp [late, Slot.free]
    · by_cases early : c + e < v
      · simp [late, early, Nat.le_of_not_lt late]
      · by_cases new : newest = some v <;> simp [late, early, new, Slot.free]
  | showing v q => cases newest <;> rfl
  | empty | filling => rfl

/-- Settles O28: the choice acts slot by slot, by the newest due stamp (`choose_eq`). -/
theorem paceChoiceShowsTheNewestDueFrame : Obligations.PaceChoiceShowsTheNewestDueFrame := by
  intro c e l holds ring differ x stamps due
  have few : (readyStamps ring).length < ring.length + 1 := Nat.lt_succ_of_le (List.length_filterMap_le _ _)
  have closed : x = chosen c e l holds ⟨ring, 0, 0, false⟩ := choose_eq c e l holds _ _ differ few
  have slots : x.ring = ring.map (Slot.chosen c e l holds (newestDue c e l ring)) := by rw [closed]; rfl
  have starved : x.starved = stamps.all fun v => decide (v + l < c) := by rw [closed]; exact Bool.false_or _
  have left : x.ring.filterMap Slot.readyStamp = stamps.filter fun v => decide (c ≤ v + l) && decide (c + e < v) := by
    rw [slots]
    exact readyStamps_chosen c e l holds _ ring
  refine ⟨by rw [slots, List.length_map], by rw [closed]; exact Nat.zero_add _, left, by rw [closed]; exact Nat.zero_add _,
    fun none_due => ⟨?_, ?_⟩, fun v listed newest => ⟨?_, ?_⟩⟩
  · have none_newest : newestDue c e l ring = none := by
      unfold newestDue
      rw [show (readyStamps ring).filter (isDue c e l) = [] from none_due]
      rfl
    rw [slots, none_newest]
    exact showingSlot_map (fun y w p => by simp [chosen_eq_showing]) ring
  · rw [starved, left, List.all_eq_true, List.filter_eq_nil_iff]
    refine forall₂_congr fun w listed => ?_
    have not_due := List.filter_eq_nil_iff.1 none_due w listed
    simp only [Bool.and_eq_true, decide_eq_true_eq] at not_due ⊢
    omega
  · obtain ⟨inside, on_time⟩ := List.mem_filter.1 listed
    rw [starved, List.all_eq_false]
    refine ⟨v, inside, ?_⟩
    simp only [Bool.and_eq_true, decide_eq_true_eq] at on_time ⊢
    omega
  · obtain ⟨inside, on_time⟩ := List.mem_filter.1 listed
    have new : newestDue c e l ring = some v :=
      (newestDue_some c e l).2 ⟨⟨inside, on_time⟩, fun w here d => newest w (List.mem_filter.2 ⟨here, d⟩)⟩
    obtain ⟨k, q, at_k⟩ := mem_readyStamps.1 inside
    have after : ∀ j, x.ring[j]? = ring[j]?.map (Slot.chosen c e l holds (some v)) := fun j => by
      rw [slots, new, List.getElem?_map]
    refine ⟨k, q, at_k, ?_, fun j apart => ⟨fun a b shows => ?_, fun a b shown => ?_⟩⟩
    · simp only [Bool.and_eq_true, decide_eq_true_eq] at on_time
      rw [after, at_k]
      exact congrArg some (chosen_eq_showing.2 (.inr ⟨rfl, rfl, by omega, by omega⟩))
    · rw [after, Option.map_eq_some_iff] at shows
      obtain ⟨y, at_j, shows⟩ := shows
      rcases chosen_eq_showing.1 shows with ⟨-, none_newest⟩ | ⟨rfl, same, -⟩
      · exact nomatch none_newest
      · cases same
        exact apart (ready_unique differ at_j at_k)
    · rw [after, shown]
      rfl

end Sys2Proof.Machine
end

section
/-! PROOFS. Pace events: what one makes of a stream, and which streams are paced (R64 to R68). -/

namespace Sys2Proof.Machine

set_option Elab.async false

open Sys2Proof

/-! ### One pace event -/

/-- The outputs that scan the slot a stream shows (R67). -/
def State.shownTo (s : State) (i : StreamId) : OutputSet :=
  match showingSlot (s.stream i).ring with
  | some (k, _) => s.scanning i k
  | none => OutputSet.none

/-- The choice of frame of a pace event (R65). -/
def Stream.choice (r : Stream) (holds : OutputSet) (e : Nat) : Choice :=
  choose r.clock e (r.tolerance * 10) holds (r.ring.length + 1) ⟨r.ring, 0, 0, false⟩

/-- A stream's record with a choice of frame taken, its drops and supersessions counted (R65, R68). -/
def Stream.took (r : Stream) (x : Choice) : Stream :=
  { r with
    ring := x.ring
    counters := { r.counters with
      lateDrop := satAdd r.counters.lateDrop x.late, superseded := satAdd r.counters.superseded x.superseded } }

/-- A pace event up to the starvation test: the choice is taken, and late drops are reported (R65, R68). -/
def State.tookFrame (s : State) (i : StreamId) (x : Choice) : State :=
  if x.late = 0 then s.putStream i ((s.stream i).took x)
  else (s.putStream i ((s.stream i).took x)).report (.streamTrouble i { lateDrop := true })

theorem pace_eq {s : State} {i : StreamId} (running : (s.stream i).state = .running) (e : Nat) : s.pace i e =
    let x := (s.stream i).choice (s.shownTo i) e
    if x.starved && !(s.stream i).endMark && starves (s.stream i).clock x.ring then (s.tookFrame i x).setStreamState i .starved
    else s.tookFrame i x := by
  unfold State.pace
  exact if_pos running

theorem pace_idle {s : State} {i : StreamId} (other : (s.stream i).state ≠ .running) (e : Nat) : s.pace i e = s := by
  unfold State.pace
  exact if_neg other

end Sys2Proof.Machine
end

section
/-! SUPPORT. The laws of frame rings, VIN ports and placements, record by record (R50, R62, R77, R85). -/

namespace Sys2Proof.Machine

set_option Elab.async false

open Sys2Proof

/-! ### Rings -/

/-- The law of a ring, of its stream's record and of what its port is in the middle of (R50, R63). -/
structure RingLaw (r : Stream) (f : VinFrame) : Prop where
  slots : r.ring.length = r.slotCount
  closed : r.state = .closed → r.ring = []
  one : ∀ (j k v p w q : Nat), r.ring[j]? = some (.showing v p) → r.ring[k]? = some (.showing w q) → j = k
  filling : ∀ (k : Nat) x, r.ring[k]? = some x → (x.isFilling = true ↔ ∃ short, f = .picture k short)
  inside : ∀ k short, f = .picture k short → k < r.ring.length
  differ : (readyStamps r.ring).Nodup
  bounded : ∀ stamp ∈ readyStamps r.ring, ∃ last, r.lastStamp = some last ∧ stamp ≤ last

theorem isShowing_iff {x : Slot} : x.isShowing = true ↔ ∃ v q, x = .showing v q := by
  cases x <;> simp [Slot.isShowing]

theorem isFilling_iff {x : Slot} : x.isFilling = true ↔ ∃ tag lines, x = .filling tag lines := by
  cases x <;> simp [Slot.isFilling]

/-- At most one slot of a ring is SHOWING, said by the slots' numbers. -/
theorem showing_le_one : ∀ {ring : List Slot}, (ring.filter Slot.isShowing).length ≤ 1 ↔
    ∀ (j k v p w q : Nat), ring[j]? = some (.showing v p) → ring[k]? = some (.showing w q) → j = k
  | [] => by simp
  | x :: xs => by
    have later := showing_le_one (ring := xs)
    by_cases shows : ∃ v q, x = .showing v q
    · obtain ⟨v, q, rfl⟩ := shows
      have alone : ((Slot.showing v q :: xs).filter Slot.isShowing).length ≤ 1 ↔ ∀ (k w p : Nat), xs[k]? ≠ some (.showing w p) := by
        rw [List.filter_cons_of_pos rfl, List.length_cons, Nat.succ_le_succ_iff, Nat.le_zero, List.length_eq_zero_iff,
          List.filter_eq_nil_iff]
        constructor
        · exact fun none_shows k w p at_k => none_shows _ (List.mem_of_getElem? at_k) rfl
        · intro none_shows y listed showing
          obtain ⟨w, p, rfl⟩ := isShowing_iff.1 showing
          obtain ⟨k, at_k⟩ := List.mem_iff_getElem?.1 listed
          exact none_shows k w p at_k
      rw [alone]
      constructor
      · intro none_shows j k a b c d at_j at_k
        match j, k with
        | 0, 0 => rfl
        | 0, k + 1 => exact absurd at_k (none_shows k c d)
        | j + 1, _ => exact absurd at_j (none_shows j a b)
      · exact fun same k w p at_k => absurd (same 0 (k + 1) v q w p rfl at_k) (Nat.succ_ne_zero k).symm
    · rw [List.filter_cons_of_neg fun showing => shows (isShowing_iff.1 showing), later]
      constructor
      · intro same j k a b c d at_j at_k
        match j, k with
        | 0, _ => exact absurd ⟨a, b, Option.some.inj at_j⟩ shows
        | j + 1, 0 => exact absurd ⟨c, d, Option.some.inj at_k⟩ shows
        | j + 1, k + 1 => exact congrArg Nat.succ (same j k a b c d at_j at_k)
      · exact fun same j k a b c d at_j at_k => Nat.succ.inj (same (j + 1) (k + 1) a b c d at_j at_k)

theorem ringLawful_iff {s : State} {i : StreamId} : RingLawful s i ↔ RingLaw (s.stream i) (s.vin i) := by
  constructor
  · rintro ⟨slots, closed, one, filling, inside, differ, bounded⟩
    exact ⟨slots, closed, showing_le_one.1 one, filling, inside, differ, bounded⟩
  · rintro ⟨slots, closed, one, filling, inside, differ, bounded⟩
    exact ⟨slots, closed, showing_le_one.2 one, filling, inside, differ, bounded⟩

/-- A slot that is neither READY nor takes another slot's stamp leaves the others' stamps. -/
theorem readyStamps_set_sublist (ring : List Slot) (k : Nat) {x : Slot} (other : x.readyStamp = none) :
    (readyStamps (ring.set k x)).Sublist (readyStamps ring) := by
  rw [List.set_eq_take_append_cons_drop]
  split
  · conv_rhs => rw [← List.take_append_drop k ring]
    unfold readyStamps
    rw [List.filterMap_append, List.filterMap_append, List.filterMap_cons_none other]
    refine (List.Sublist.refl _).append (List.Sublist.filterMap _ ?_)
    rw [← List.tail_drop]
    exact List.tail_sublist _
  · exact List.Sublist.refl _

/-- What becomes of the law of a ring whose READY stamps are thinned out, with the FILLING and SHOWING slots where they may be. -/
theorem RingLaw.of_thinned {r r' : Stream} {f f' : VinFrame} (h : RingLaw r f) (length : r'.ring.length = r.ring.length)
    (count : r'.slotCount = r.slotCount) (state : r'.state = .closed → r.state = .closed) (last : r'.lastStamp = r.lastStamp)
    (thinned : (readyStamps r'.ring).Sublist (readyStamps r.ring))
    (one : ∀ (j k v p w q : Nat), r'.ring[j]? = some (.showing v p) → r'.ring[k]? = some (.showing w q) → j = k)
    (filling : ∀ (k : Nat) x, r'.ring[k]? = some x → (x.isFilling = true ↔ ∃ short, f' = .picture k short))
    (inside : ∀ k short, f' = .picture k short → k < r.ring.length) : RingLaw r' f' where
  slots := by rw [length, count, h.slots]
  closed now := List.length_eq_zero_iff.1 (by rw [length, h.closed (state now)]; rfl)
  one := one
  filling := filling
  inside k short at_port := length ▸ inside k short at_port
  differ := h.differ.sublist thinned
  bounded stamp listed := last ▸ h.bounded stamp (thinned.subset listed)

/-- A ring whose slots are changed one by one, none into or out of FILLING, none into SHOWING or READY, stays lawful. -/
theorem RingLaw.map {r : Stream} {f : VinFrame} (h : RingLaw r f) {g : Slot → Slot}
    (filling : ∀ x, (g x).isFilling = x.isFilling) (showing : ∀ x v q, g x = .showing v q → x = .showing v q)
    (ready : ∀ x, (g x).readyStamp = none ∨ (g x).readyStamp = x.readyStamp) : RingLaw { r with ring := r.ring.map g } f := by
  refine h.of_thinned (List.length_map _) rfl id rfl ?_ (fun j k v p w q at_j at_k => ?_) (fun k x at_k => ?_) h.inside
  · generalize r.ring = ring
    induction ring with
    | nil => exact .slnil
    | cons x xs ih =>
      unfold readyStamps at ih ⊢
      rw [List.map_cons]
      rcases ready x with none_ready | same
      · rw [List.filterMap_cons_none none_ready]
        exact ih.trans ((List.sublist_cons_self x xs).filterMap _)
      · rw [List.filterMap_cons, List.filterMap_cons, same]
        split
        · exact ih
        · exact ih.cons_cons _
  · dsimp only at at_j at_k
    rw [List.getElem?_map, Option.map_eq_some_iff] at at_j at_k
    obtain ⟨x, at_j, shows⟩ := at_j
    obtain ⟨y, at_k, shows'⟩ := at_k
    rw [showing x v p shows] at at_j
    rw [showing y w q shows'] at at_k
    exact h.one j k v p w q at_j at_k
  · dsimp only at at_k
    rw [List.getElem?_map, Option.map_eq_some_iff] at at_k
    obtain ⟨y, at_k, rfl⟩ := at_k
    rw [filling]
    exact h.filling k y at_k

/-- A slot that is neither SHOWING nor READY in a ring otherwise unchanged; it is FILLING when the port now writes it. -/
theorem RingLaw.set {r : Stream} {f f' : VinFrame} (h : RingLaw r f) {k : Nat} {x : Slot} (unready : x.readyStamp = none)
    (unshown : x.isShowing = false) (filling : x.isFilling = true ↔ ∃ short, f' = .picture k short)
    (others : ∀ j, j ≠ k → ((∃ short, f' = .picture j short) ↔ ∃ short, f = .picture j short))
    (inside : ∀ j short, f' = .picture j short → j < r.ring.length) : RingLaw { r with ring := r.ring.set k x } f' := by
  have at_others : ∀ {j : Nat} {v p : Nat}, (r.ring.set k x)[j]? = some (.showing v p) → r.ring[j]? = some (.showing v p) := by
    intro j v p at_j
    rw [List.getElem?_set] at at_j
    split at at_j
    · split at at_j
      · cases at_j
        exact nomatch unshown
      · exact nomatch at_j
    · exact at_j
  refine h.of_thinned (List.length_set) rfl id rfl (readyStamps_set_sublist _ _ unready)
    (fun i j v p w q at_i at_j => h.one i j v p w q (at_others at_i) (at_others at_j)) (fun j y at_j => ?_) inside
  dsimp only at at_j
  rw [List.getElem?_set] at at_j
  split at at_j
  · subst_vars
    split at at_j
    · cases at_j
      exact filling
    · exact nomatch at_j
  · rename_i apart
    rw [others j (Ne.symm apart)]
    exact h.filling j y at_j

/-- Records that agree on ring, slot count and last stamp, and are not CLOSED anew, obey one law. -/
theorem RingLaw.of_same {r r' : Stream} {f : VinFrame} (h : RingLaw r f) (ring : r'.ring = r.ring) (count : r'.slotCount = r.slotCount)
    (last : r'.lastStamp = r.lastStamp) (state : r'.state = .closed → r.state = .closed) : RingLaw r' f :=
  h.of_thinned (by rw [ring]) count state last (by rw [ring]) (by rw [ring]; exact h.one) (by rw [ring]; exact h.filling) h.inside

/-- While its port writes no slot, no slot of a ring is FILLING. -/
theorem RingLaw.none_filling {r : Stream} {f : VinFrame} (h : RingLaw r f) (idle : ∀ k short, f ≠ .picture k short) {k : Nat} {x : Slot}
    (at_k : r.ring[k]? = some x) : x.isFilling = false := by
  refine Bool.eq_false_iff.2 fun filling => ?_
  obtain ⟨short, picture⟩ := (h.filling k x at_k).1 filling
  exact idle k short picture

/-- What a port is in the middle of bears on a ring by the slot it writes alone. -/
theorem RingLaw.of_idle {r : Stream} {f f' : VinFrame} (h : RingLaw r f) (before : ∀ k short, f ≠ .picture k short)
    (after : ∀ k short, f' ≠ .picture k short) : RingLaw r f' := by
  refine h.of_thinned rfl rfl id rfl (List.Sublist.refl _) h.one (fun k x at_k => ?_) fun k short at_port => absurd at_port (after k short)
  rw [h.none_filling before at_k]
  exact ⟨nofun, fun ⟨short, picture⟩ => absurd picture (after k short)⟩

/-- A port that gives up the slot it writes leaves it EMPTY (R53, R56, R62). -/
theorem RingLaw.vacate {r : Stream} {f f' : VinFrame} (h : RingLaw r f) {k : Nat} {short : Bool} (writing : f = .picture k short)
    (after : ∀ k short, f' ≠ .picture k short) : RingLaw { r with ring := r.ring.set k Slot.free } f' := by
  refine h.set rfl rfl ⟨nofun, fun ⟨short, picture⟩ => absurd picture (after k short)⟩ (fun j apart => ?_)
    fun j short picture => absurd picture (after j short)
  subst writing
  refine ⟨fun ⟨short, picture⟩ => absurd picture (after j short), ?_⟩
  rintro ⟨_, picture⟩
  cases picture
  exact absurd rfl apart

/-- The law of a ring after the choice of frame (R65). -/
theorem RingLaw.paced {r : Stream} {f : VinFrame} (h : RingLaw r f) (c e l : Nat) (holds : OutputSet) :
    RingLaw { r with ring := (choose c e l holds (r.ring.length + 1) ⟨r.ring, 0, 0, false⟩).ring } f := by
  have few : (readyStamps r.ring).length < r.ring.length + 1 := Nat.lt_succ_of_le (List.length_filterMap_le _ _)
  rw [choose_eq c e l holds _ ⟨r.ring, 0, 0, false⟩ h.differ few]
  refine h.of_thinned (List.length_map _) rfl id rfl ?_ (fun j k v p w q at_j at_k => ?_) (fun k x at_k => ?_) h.inside
  · show (readyStamps (r.ring.map (Slot.chosen c e l holds (newestDue c e l r.ring)))).Sublist _
    rw [readyStamps_chosen]
    exact List.filter_sublist
  · replace at_j : (r.ring.map (Slot.chosen c e l holds (newestDue c e l r.ring)))[j]? = some (.showing v p) := at_j
    replace at_k : (r.ring.map (Slot.chosen c e l holds (newestDue c e l r.ring)))[k]? = some (.showing w q) := at_k
    rw [List.getElem?_map, Option.map_eq_some_iff] at at_j at_k
    obtain ⟨x, at_j, shows⟩ := at_j
    obtain ⟨y, at_k, shows'⟩ := at_k
    rcases chosen_eq_showing.1 shows with ⟨rfl, none_due⟩ | ⟨rfl, newest, -⟩
    · rcases chosen_eq_showing.1 shows' with ⟨rfl, -⟩ | ⟨rfl, newest, -⟩
      · exact h.one j k v p w q at_j at_k
      · rw [none_due] at newest
        exact nomatch newest
    · rcases chosen_eq_showing.1 shows' with ⟨rfl, none_due⟩ | ⟨rfl, newest', -⟩
      · rw [none_due] at newest
        exact nomatch newest
      · obtain rfl : v = w := Option.some.inj (newest.symm.trans newest')
        exact ready_unique h.differ at_j at_k
  · replace at_k : (r.ring.map (Slot.chosen c e l holds (newestDue c e l r.ring)))[k]? = some x := at_k
    rw [List.getElem?_map, Option.map_eq_some_iff] at at_k
    obtain ⟨y, at_k, rfl⟩ := at_k
    rw [chosen_isFilling]
    exact h.filling k y at_k
where
  chosen_isFilling {c e l : Nat} {holds : OutputSet} {newest : Option Nat} (x : Slot) :
      (Slot.chosen c e l holds newest x).isFilling = x.isFilling := by
    cases x with
    | ready v q =>
      rw [chosen_ready]
      repeat' split
      all_goals rfl
    | showing v q => cases newest <;> rfl
    | empty | filling => rfl

/-- The slot a port writes becomes READY with a stamp above all the others (R63, step 4). -/
theorem RingLaw.readied {r : Stream} {f f' : VinFrame} (h : RingLaw r f) {k : Nat} {short : Bool} (writing : f = .picture k short)
    (after : ∀ k short, f' ≠ .picture k short) {v : Nat} (newest : ∀ w ∈ readyStamps r.ring, w < v) (q : Nat) :
    RingLaw { r with ring := r.ring.set k (.ready v q), lastStamp := some v } f' := by
  have vacated := h.vacate writing after
  have inside := h.inside k short writing
  have at_k : (r.ring.set k (.ready v q))[k]? = some (.ready v q) := List.getElem?_set_self inside
  have stamps : (readyStamps (r.ring.set k (.ready v q))).Perm (v :: readyStamps (r.ring.set k Slot.free)) := by
    have := readyStamps_set_free at_k
    rwa [List.set_set] at this
  have others : ∀ w ∈ readyStamps (r.ring.set k Slot.free), w < v := fun w listed =>
    newest w ((readyStamps_set_sublist r.ring k rfl).subset listed)
  have at_other : ∀ {j : Nat} {x : Slot}, (r.ring.set k (.ready v q))[j]? = some x → x = .ready v q ∨ (r.ring.set k Slot.free)[j]? = some x := by
    intro j x at_j
    by_cases here : k = j
    · subst here
      exact .inl (Option.some.inj (at_j.symm.trans at_k))
    · rw [List.getElem?_set_ne here] at at_j ⊢
      exact .inr at_j
  refine ⟨(List.length_set).trans h.slots, fun closed => ?_, fun i j a b c d at_i at_j => ?_, fun j x at_j => ?_,
    fun j short picture => absurd picture (after j short), ?_, fun w listed => ?_⟩
  · rw [h.closed closed] at inside
    exact absurd inside (Nat.not_lt_zero k)
  · exact vacated.one i j a b c d ((at_other at_i).resolve_left nofun) ((at_other at_j).resolve_left nofun)
  · rcases at_other at_j with rfl | at_j
    · exact ⟨nofun, fun ⟨short, picture⟩ => absurd picture (after j short)⟩
    · exact vacated.filling j x at_j
  · exact stamps.nodup_iff.2 (List.nodup_cons.2 ⟨fun listed => Nat.lt_irrefl v (others v listed), vacated.differ⟩)
  · exact ⟨v, rfl, (List.mem_cons.1 (stamps.mem_iff.1 listed)).elim Eq.le fun listed => (others w listed).le⟩

/-- A frame that completes in order: after a discontinuity over the other READY slots, else behind them (R63). -/
theorem RingLaw.completed {r : Stream} {f f' : VinFrame} (h : RingLaw r f) {k : Nat} {short : Bool} (writing : f = .picture k short)
    (after : ∀ k short, f' ≠ .picture k short) {tag : FrameTag} (ordered : outOfOrder tag r.lastStamp = false) :
    RingLaw { r with
      ring := (if tag.discontinuity then r.ring.map Slot.flushed else r.ring).set k (.ready tag.stamp tag.sequence)
      lastStamp := some tag.stamp } f' := by
  cases afresh : tag.discontinuity with
  | true =>
    have flushed : RingLaw { r with ring := r.ring.map Slot.flushed } f :=
      h.map (fun x => by cases x <;> rfl) (fun x v q => by cases x <;> simp [Slot.flushed, Slot.free])
        fun x => by cases x <;> exact .inl rfl
    refine flushed.readied writing after (fun w listed => ?_) tag.sequence
    obtain ⟨j, q, at_j⟩ := mem_readyStamps.1 listed
    replace at_j : (r.ring.map Slot.flushed)[j]? = some (.ready w q) := at_j
    rw [List.getElem?_map, Option.map_eq_some_iff] at at_j
    obtain ⟨x, -, ready⟩ := at_j
    cases x <;> simp [Slot.flushed, Slot.free] at ready
  | false =>
    refine h.readied writing after (fun w listed => ?_) tag.sequence
    obtain ⟨last, stamp, le⟩ := h.bounded w listed
    simp only [outOfOrder, afresh, stamp, Bool.not_false, Bool.true_and, decide_eq_false_iff_not] at ordered
    omega

/-- A ring whose READY and FILLING slots are emptied, its port giving up the slot it writes (R56). -/
theorem RingLaw.emptied {r : Stream} {f f' : VinFrame} (h : RingLaw r f) (after : ∀ k short, f' ≠ .picture k short) :
    RingLaw { r with ring := r.ring.map Slot.emptied, lastStamp := none } f' := by
  have at_slot : ∀ {j : Nat} {x : Slot}, (r.ring.map Slot.emptied)[j]? = some x →
      x.readyStamp = none ∧ x.isFilling = false ∧ ∀ v q, x = .showing v q → r.ring[j]? = some (.showing v q) := by
    intro j x at_j
    rw [List.getElem?_map, Option.map_eq_some_iff] at at_j
    obtain ⟨y, at_j, rfl⟩ := at_j
    cases y with
    | showing v q => exact ⟨rfl, rfl, fun w p same => by cases same; exact at_j⟩
    | empty | filling | ready => exact ⟨rfl, rfl, nofun⟩
  have none_ready : readyStamps (r.ring.map Slot.emptied) = [] := List.eq_nil_iff_forall_not_mem.2 fun v listed => by
    obtain ⟨j, q, at_j⟩ := mem_readyStamps.1 listed
    exact nomatch (at_slot at_j).1
  refine ⟨(List.length_map _).trans h.slots, fun closed => ?_, fun i j a b c d at_i at_j => ?_, fun j x at_j => ?_,
    fun j short picture => absurd picture (after j short), ?_, fun w listed => ?_⟩
  · exact (congrArg (List.map Slot.emptied) (h.closed closed)).trans rfl
  · exact h.one i j a b c d ((at_slot at_i).2.2 a b rfl) ((at_slot at_j).2.2 c d rfl)
  · rw [(at_slot at_j).2.1]
    exact ⟨nofun, fun ⟨short, picture⟩ => absurd picture (after j short)⟩
  · exact none_ready ▸ List.nodup_nil
  · exact absurd listed (none_ready ▸ List.not_mem_nil)

/-- A new ring: every slot EMPTY (R52). -/
theorem ringLaw_fresh {r : Stream} {f : VinFrame} {n : Nat} (ring : r.ring = List.replicate n Slot.free) (count : r.slotCount = n)
    (state : r.state = .closed → n = 0) (idle : ∀ k short, f ≠ .picture k short) : RingLaw r f := by
  have at_slot : ∀ {j : Nat} {x : Slot}, r.ring[j]? = some x → x = Slot.free := fun at_j =>
    List.eq_of_mem_replicate (ring ▸ List.mem_of_getElem? at_j)
  have none_ready : readyStamps r.ring = [] := List.eq_nil_iff_forall_not_mem.2 fun v listed => by
    obtain ⟨j, q, at_j⟩ := mem_readyStamps.1 listed
    exact nomatch at_slot at_j
  refine ⟨by rw [ring, count, List.length_replicate], fun closed => by rw [ring, state closed]; rfl, fun i j a b c d at_i _ => ?_,
    fun j x at_j => ?_, fun k short picture => absurd picture (idle k short), none_ready ▸ List.nodup_nil,
    fun w listed => absurd listed (none_ready ▸ List.not_mem_nil)⟩
  · exact nomatch at_slot at_i
  · rw [at_slot at_j]
    exact ⟨nofun, fun ⟨short, picture⟩ => absurd picture (idle j short)⟩

/-! ### Placements -/

/-- Fewer placements on an output obey the law if the ones there were do (R77). -/
theorem placementsLawful_of_fewer {s t : State} {o : Output} (h : s.placementsLawful o)
    (fewer : ∀ n, (t.layer n).placements.sel (outputNo o) = (s.layer n).placements.sel (outputNo o) ∨
      (t.layer n).placements.sel (outputNo o) = none) : t.placementsLawful o := by
  obtain ⟨six, differ⟩ := h
  constructor
  · refine le_trans (List.Sublist.length_le ?_) six
    refine List.monotone_filter_right _ fun n placed => ?_
    rcases fewer n with same | gone
    · rwa [← same]
    · rw [gone] at placed
      exact nomatch placed
  · refine differ.sublist ?_
    generalize List.finRange 24 = ns
    induction ns with
    | nil => exact .slnil
    | cons n ns ih =>
      rcases fewer n with same | gone
      · rw [List.filterMap_cons, List.filterMap_cons, same]
        split
        · exact ih
        · exact ih.cons_cons _
      · rw [List.filterMap_cons_none (by rw [gone]; rfl)]
        exact ih.trans ((List.sublist_cons_self n ns).filterMap _)

theorem placementsLawful_of_same {s t : State} {o : Output} (h : s.placementsLawful o)
    (same : ∀ n, (t.layer n).placements = (s.layer n).placements) : t.placementsLawful o :=
  placementsLawful_of_fewer h fun n => .inl (by rw [same])

end Sys2Proof.Machine
end

section
/-! SUPPORT. What leaves the VIN ports as they are and keeps the rings and placements lawful: paces, drops, flips, and all that
follows a change of views (R14 to R17, R64 to R67, R84, R97 to R103). -/

namespace Sys2Proof.Machine

set_option Elab.async false

open Sys2Proof

/-- From one state to another the ports go on as they were: each keeps its frame, a ring that was lawful is lawful, and no layer
gains or loses its VIN load, its placements or its place among the UNUSED. -/
structure PortsKept (s t : State) : Prop where
  rings : ∀ i f, RingLaw (s.stream i) f → RingLaw (t.stream i) f
  vin : t.pacer.vin = s.pacer.vin
  layers : ∀ n, (t.layer n).vinLoad = (s.layer n).vinLoad ∧ (t.layer n).placements = (s.layer n).placements ∧
    ((t.layer n).state = .unused ↔ (s.layer n).state = .unused)
  clearing : t.layers.clearing = s.layers.clearing

section
variable {s t u : State}

theorem PortsKept.of_same (streams : t.pacer.streams = s.pacer.streams) (vin : t.pacer.vin = s.pacer.vin)
    (layers : t.layers.layers = s.layers.layers) (clearing : t.layers.clearing = s.layers.clearing) : PortsKept s t := by
  refine ⟨fun i f h => ?_, vin, fun n => ?_, clearing⟩
  · unfold State.stream at h ⊢
    rwa [streams]
  · unfold State.layer
    rw [layers]
    exact ⟨rfl, rfl, .rfl⟩

theorem PortsKept.refl (s : State) : PortsKept s s := .of_same rfl rfl rfl rfl

theorem PortsKept.trans (h : PortsKept s t) (k : PortsKept t u) : PortsKept s u where
  rings i f law := k.rings i f (h.rings i f law)
  vin := k.vin.trans h.vin
  layers n := by
    obtain ⟨load, placed, unused⟩ := h.layers n
    obtain ⟨load', placed', unused'⟩ := k.layers n
    exact ⟨load'.trans load, placed'.trans placed, unused'.trans unused⟩
  clearing := k.clearing.trans h.clearing

/-- What follows a change of neither rings, ports nor layers. -/
theorem PortsKept.after (h : PortsKept t u) (streams : t.pacer.streams = s.pacer.streams) (vin : t.pacer.vin = s.pacer.vin)
    (layers : t.layers.layers = s.layers.layers) (clearing : t.layers.clearing = s.layers.clearing) : PortsKept s u :=
  (PortsKept.of_same streams vin layers clearing).trans h

theorem PortsKept.of_changes {ps : List Piece} (c : Changes ps s t)
    (out : ([Piece.rings, .vin, .layers, .clearing].all fun p => !ps.contains p) = true := by decide) : PortsKept s t := by
  have absent : ∀ p ∈ [Piece.rings, .vin, .layers, .clearing], ps.contains p = false := fun p listed => by
    simpa using List.all_eq_true.1 out p listed
  exact .of_same (c.at .rings (absent _ (by decide))) (c.at .vin (absent _ (by decide))) (c.at .layers (absent _ (by decide)))
    (c.at .clearing (absent _ (by decide)))

theorem PortsKept.ite {c : Prop} [Decidable c] (h : PortsKept s t) (k : PortsKept s u) : PortsKept s (if c then t else u) := by
  split
  · exact h
  · exact k

theorem PortsKept.foldl {α : Type} {f : State → α → State} (h : ∀ t x, PortsKept t (f t x)) : ∀ (xs : List α) (s : State),
    PortsKept s (xs.foldl f s)
  | [], s => .refl s
  | x :: xs, s => (h s x).trans (PortsKept.foldl h xs (f s x))

end

/-! ### Streams and layers -/

theorem putStream_kept {s : State} {i : StreamId} {r : Stream} (h : ∀ f, RingLaw (s.stream i) f → RingLaw r f) :
    PortsKept s (s.putStream i r) := by
  refine ⟨fun j f law => ?_, rfl, fun n => ⟨rfl, rfl, .rfl⟩, rfl⟩
  rw [putStream_stream]
  split
  · subst_vars
    exact h f law
  · exact law

theorem putLayer_kept {s : State} {n : Fin 24} {l : Layer} (load : l.vinLoad = (s.layer n).vinLoad)
    (placed : l.placements = (s.layer n).placements) (unused : l.state = .unused ↔ (s.layer n).state = .unused) :
    PortsKept s (s.putLayer n l) := by
  refine ⟨fun _ _ => id, rfl, fun m => ?_, rfl⟩
  rw [putLayer_layer]
  split
  · subst_vars
    exact ⟨load, placed, unused⟩
  · exact ⟨rfl, rfl, .rfl⟩

theorem report_kept (s : State) (r : Report) : PortsKept s (s.report r) := .of_same rfl rfl rfl rfl

theorem setStreamState_kept (s : State) (i : StreamId) {x : StreamState} (opened : x ≠ .closed) : PortsKept s (s.setStreamState i x) := by
  have put : PortsKept s (s.putStream i { s.stream i with state := x, clockRunning := decide (x = .running) }) :=
    putStream_kept fun _ law => law.of_same rfl rfl rfl fun closed => absurd closed opened
  exact put.trans (report_kept _ _)

theorem pace_kept (s : State) (i : StreamId) (e : Nat) : PortsKept s (s.pace i e) := by
  by_cases running : (s.stream i).state = .running
  · have took : PortsKept s (s.putStream i ((s.stream i).took ((s.stream i).choice (s.shownTo i) e))) :=
      putStream_kept fun _ law => (law.paced _ _ _ _).of_same rfl rfl rfl id
    have frame : PortsKept s (s.tookFrame i ((s.stream i).choice (s.shownTo i) e)) := .ite took (took.trans (report_kept _ _))
    rw [pace_eq running]
    exact .ite (frame.trans (setStreamState_kept _ i nofun)) frame
  · rw [pace_idle running]
    exact .refl s

theorem release_kept {r : Stream} {f : VinFrame} (h : RingLaw r f) (o : Output) : RingLaw { r with ring := r.ring.map (Slot.release o) } f :=
  h.map (fun x => by cases x <;> rfl) (fun x v q => by cases x <;> simp [Slot.release]) fun x => .inr (by cases x <;> rfl)

theorem releaseScan_kept (s : State) (o : Output) : PortsKept s (s.releaseScan o) :=
  (putStream_kept fun _ law => release_kept law o).trans (putStream_kept fun _ law => release_kept law o)

theorem dropSlot_kept (s : State) (i : StreamId) (k : Nat) (stamp : Option Nat) : PortsKept s (s.dropSlot i k stamp) := by
  unfold State.dropSlot
  dsimp only
  refine PortsKept.trans ?_ (report_kept _ _)
  split
  · rename_i shows
    obtain ⟨v, q, at_k⟩ : ∃ v q, (s.stream i).ring[k]? = some (.showing v q) := by
      unfold showingStamp at shows
      split at shows
      · exact ⟨_, _, ‹_›⟩
      · cases stamp <;> simp at shows
    refine putStream_kept fun f law => RingLaw.of_same (law.set (k := k) (x := .empty (s.scanning i k)) rfl rfl ?_ (fun _ _ => .rfl) law.inside)
      rfl rfl rfl id
    exact law.filling k (.showing v q) at_k
  · exact .refl s

theorem flip_kept (s : State) (n : Fin 24) : PortsKept s (s.flip n) := by
  have event : ∀ (u : State) (c : Bool) (r : Report), PortsKept u (if c = true then u.report r else u) :=
    fun u c r => .ite (report_kept u r) (.refl u)
  have put : PortsKept s (s.putLayer n { s.layer n with
      front := (s.layer n).target, mark := 0, flipPending := false
      state := if decide ((s.layer n).state = .ready) && (s.layer n).damaged.sel (s.layer n).target then .damaged else (s.layer n).state }) := by
    refine putLayer_kept rfl rfl ?_
    dsimp only
    split
    · rename_i hurt
      have ready := of_decide_eq_true (Bool.and_eq_true_iff.1 hurt).1
      simp [ready]
    · exact .rfl
  exact (put.trans (event _ _ _)).trans (event _ _ _)

theorem flipWhere_kept (s : State) (p : State → Fin 24 → Bool) : PortsKept s (s.flipWhere p) :=
  .foldl (fun t n => .ite (flip_kept t n) (.refl t)) _ s

theorem settleFlips_kept (s : State) : PortsKept s s.settleFlips := flipWhere_kept s _

theorem damageLayer_kept (s : State) (n : Fin 24) (i : Nat) : PortsKept s (s.damageLayer n i) := by
  have put : PortsKept s (s.putLayer n (damagedAt (s.layer n) i)) := by
    refine putLayer_kept rfl rfl ?_
    unfold damagedAt
    dsimp only
    generalize (if i / (s.layer n).pagesOfPlane = 0 then (0 : Fin 2) else 1) = plane
    split
    · rename_i both
      simp [both.2]
    · exact .rfl
  exact (put.trans (report_kept _ _)).trans (settleFlips_kept _)

theorem repair_kept (s : State) (n : Fin 24) (plane : Fin 2) : PortsKept s (s.repair n plane) := by
  unfold State.repair
  dsimp only
  split
  · rename_i damaged
    have put : PortsKept s (s.putLayer n { s.layer n with damaged := (s.layer n).damaged.put plane false, state := .ready }) :=
      putLayer_kept rfl rfl (by simp [damaged])
    exact .ite (put.trans (flip_kept _ n)) put
  · exact putLayer_kept rfl rfl .rfl

theorem requestFlip_kept (s : State) (n : Fin 24) : PortsKept s (s.requestFlip n).1 := by
  unfold State.requestFlip
  split
  · exact putLayer_kept rfl rfl .rfl
  · exact flip_kept s n

/-! ### Consequences and refresh events -/

theorem handConsequence_kept (s : State) (c : Consequence) : PortsKept s (s.handConsequence c) := by
  unfold State.handConsequence
  split
  · exact dropSlot_kept s _ _ _
  · exact damageLayer_kept s _ _
  · exact .of_changes (discardCapture_changes s _)
  · exact .of_changes (requestRecompute_changes s)
  · exact .of_changes (damageSample_changes s _)

theorem handDue_kept (s : State) (r : Reader) : PortsKept s (s.handDue r) :=
  (PortsKept.foldl handConsequence_kept _ _).after rfl rfl rfl rfl

theorem endFrame_kept (s : State) (o : Output) : PortsKept s (s.endFrame o) :=
  (releaseScan_kept _ o).after rfl rfl rfl rfl

theorem handAndPace_kept (s : State) (o : Output) : PortsKept s (s.handAndPace o) := by
  have free : ∀ n, PortsKept s { s with free := n } := fun _ => .of_same rfl rfl rfl rfl
  unfold State.handAndPace
  split
  · exact handDue_kept s _
  · dsimp only
    refine .ite (.ite ?_ ?_) ((handDue_kept s _).trans (pace_kept _ _ _))
    · exact ((free _).trans (pace_kept _ _ _)).trans (handDue_kept _ _)
    · exact ((free _).trans (handDue_kept _ _)).trans (pace_kept _ _ _)

theorem refreshLayers_kept (s : State) (o : Output) : PortsKept s (s.refreshLayers o) :=
  ((flipWhere_kept (s.putOut o { s.out o with shownCard := s.cardOf o }) _).trans (settleFlips_kept _)).after rfl rfl rfl rfl

theorem refresh_kept (s : State) (o : Output) : PortsKept s (s.refresh o) := by
  unfold State.refresh
  refine .ite (.refl s) ?_
  dsimp only
  have ended := ((endFrame_kept s o).trans (handAndPace_kept _ o)).trans (.of_changes (released_changes _ o))
  have shown := ended.trans (refreshLayers_kept _ o)
  clear ended
  generalize State.refreshLayers _ o = u at shown ⊢
  exact shown.trans (.of_changes (beginNext_changes u o))

/-! ### Views -/

section
variable (s : State) (o : Output) (why : OwnerReason)

theorem recomputeDemand_kept : PortsKept s s.recomputeDemand := .of_changes (recomputeDemand_changes s)

theorem ownerChanged_kept : PortsKept s (s.ownerChanged o why) :=
  ((report_kept s _).trans (settleFlips_kept _)).trans (recomputeDemand_kept _)

theorem setOwner_kept (r : OutputRec) : PortsKept s (s.setOwner o r why) := (ownerChanged_kept (s.putOut o r) o why).after rfl rfl rfl rfl

theorem turnOff_kept : PortsKept s (s.turnOff o why) := by
  unfold State.turnOff
  dsimp only
  have handed := handDue_kept s (.scan o)
  generalize s.handDue (.scan o) = t at handed ⊢
  have off := handed.trans (.of_changes (putOut_changes t o { t.out o with
    owner := .off, enabled := false, wasOff := false, linger := none, frame := none }))
  generalize t.putOut o _ = u at off ⊢
  have any : PortsKept u (if o = .centre then u.flipByAnyView else u) := .ite (.of_changes (flipByAnyView_changes u)) (.refl u)
  have released := (((off.trans any).trans (releaseScan_kept _ o)).trans (.of_changes (releaseCapture_changes _ o))).trans
    (.of_changes (releaseGuide_changes _ o))
  exact released.trans (ownerChanged_kept _ o why)

theorem toNormal_kept : PortsKept s (s.toNormal o why) := setOwner_kept s o why _

theorem afterView_kept : PortsKept s (s.afterView o why) := .ite (turnOff_kept s o why) (toNormal_kept s o why)

theorem speedTestOf_kept : PortsKept s (s.speedTestOf o) := by
  unfold State.speedTestOf
  dsimp only
  refine .ite ?_ (.refl s)
  split
  · exact afterView_kept s o _
  · exact .ite (toNormal_kept s o _) (.refl s)
  · exact .refl s
  · exact .refl s

theorem speedTest_kept : PortsKept s s.speedTest := .foldl speedTestOf_kept _ s

theorem forceOn_kept : PortsKept s (s.forceOn o) := (setOwner_kept s o _ _).trans (refresh_kept _ o)

theorem riseOf_kept : PortsKept s (s.riseOf o) := by
  unfold State.riseOf
  dsimp only
  split
  · exact .ite (forceOn_kept s o) (.refl s)
  · exact .ite (setOwner_kept s o _ _) (.refl s)
  · exact setOwner_kept s o _ _
  · exact .ite ((PortsKept.of_changes (putOut_changes s o _)).trans (report_kept _ _)) (.refl s)

theorem viewRise_kept : PortsKept s s.viewRise := .foldl riseOf_kept _ s

theorem fallOf_kept : PortsKept s (s.fallOf o) := by
  unfold State.fallOf
  dsimp only
  exact .ite (.ite (afterView_kept s o _) ((setOwner_kept s o _ _).trans (speedTestOf_kept _ o))) (.refl s)

theorem viewFall_kept : PortsKept s s.viewFall := .foldl fallOf_kept _ s

theorem lingerDue_kept : PortsKept s (s.lingerDue o) := .ite (afterView_kept s o _) (.refl s)

theorem setOutput_kept (f : SetOutput) (x : Option StreamId) : PortsKept s (s.setOutput o f x) := by
  unfold State.setOutput
  dsimp only
  have put : ∀ r, PortsKept s (s.putOut o r) := fun r => .of_changes (putOut_changes s o r)
  split
  · exact (setOwner_kept s o _ _).trans (refresh_kept _ o)
  · exact (put _).trans (turnOff_kept _ o _)
  · exact put _
  · exact put _
  · exact put _

theorem showOn_kept (set : OutputSet) : PortsKept s (s.showOn set o) := .ite (setOwner_kept s o _ _) (.refl s)

theorem releaseOn_kept (set : OutputSet) : PortsKept s (s.releaseOn set o) := by
  unfold State.releaseOn
  dsimp only
  refine .ite ?_ (.refl s)
  split
  · exact afterView_kept s o _
  · exact .ite (toNormal_kept s o _) (.refl s)
  · exact .refl s
  · exact .refl s

end

/-! ### The vehicle's signals and REV_EFF -/

theorem handRevEff_kept (s : State) (rev : Bool) : PortsKept s (s.handRevEff rev) := by
  have views : PortsKept s (if s.isStarting then s else if rev then s.viewRise else s.viewFall) :=
    .ite (.refl s) (.ite (viewRise_kept s) (viewFall_kept s))
  unfold State.handRevEff
  dsimp only
  generalize (if s.isStarting then s else if rev then s.viewRise else s.viewFall) = t at views ⊢
  have chimes : PortsKept t (if t.isStarting then t else if rev then t.chimeRise else t.chimeFall) :=
    .ite (.refl t) (.ite (.of_changes (chimeRise_changes t)) (.of_changes (chimeFall_changes t)))
  exact (views.trans chimes).trans (.of_changes (handMixerRev_changes _ rev))

theorem evalRev_kept (s : State) (fall : RevContribution) : PortsKept s (s.evalRev fall) :=
  .ite (.refl s) (((report_kept _ _).trans (handRevEff_kept _ _)).after rfl rfl rfl rfl)

theorem handSpeed_kept (s : State) : PortsKept s s.handSpeed :=
  (PortsKept.of_changes (suppressionTest_changes s)).trans (speedTest_kept _)

theorem handUpdates_kept (s : State) (updated : List SignalId) (mask : BitVec 7) : PortsKept s (s.handUpdates updated mask) := by
  unfold State.handUpdates
  dsimp only
  have steered : PortsKept s (if updated.contains .steerAngle then s.steerUpdated (decide (mask &&& signalBit .steerAngle ≠ 0)) else s) :=
    .ite (.of_changes (steerUpdated_changes s _)) (.refl s)
  generalize (if updated.contains .steerAngle then s.steerUpdated (decide (mask &&& signalBit .steerAngle ≠ 0)) else s) = a at steered ⊢
  have sped : PortsKept s (if updated.contains .speed then a.handSpeed else a) := steered.trans (.ite (handSpeed_kept a) (.refl a))
  generalize (if updated.contains .speed then a.handSpeed else a) = b at sped ⊢
  exact sped.trans (.ite (.of_changes (parkEvent_changes b)) (.refl b))

theorem handStateChange_kept (s : State) (i : SignalId) : PortsKept s (s.handStateChange i) := by
  cases i with
  | reverse => exact .refl s
  | steerAngle =>
    unfold State.handStateChange
    dsimp only
    split
    · exact .of_changes (steerLost_changes s)
    · exact .of_changes (steerLost_changes s)
    · exact .refl s
    · exact .refl s
  | speed => exact handSpeed_kept s
  | distOuterL | distInnerL | distInnerR | distOuterR => exact .of_changes (parkEvent_changes s)

theorem receive_kept (s : State) (x : Reception) : PortsKept s (s.receive x) := by
  cases x with
  | faulty => exact .of_same rfl rfl rfl rfl
  | remote => exact .of_same rfl rfl rfl rfl
  | data extended identifier dlc bytes =>
    unfold State.receive
    dsimp only
    generalize e : ({ s with recv := { s.recv with goodFrames := satInc s.recv.goodFrames } } : State) = t
    have counted : PortsKept s t := e ▸ .of_same rfl rfl rfl rfl
    refine .ite (counted.trans ?_) counted
    have applied := PortsKept.of_changes (applyRules_changes t extended identifier bytes)
    generalize t.applyRules extended identifier bytes = a at applied ⊢
    have tested := (applied.trans (.of_changes (reportSignals_changes _ a.mask))).trans (.of_changes (latchTest_changes _))
    exact (tested.trans (evalRev_kept _ .bus)).trans (handUpdates_kept _ _ _)

theorem signalHeld_kept (s : State) (i : SignalId) : PortsKept s (s.signalHeld i) := by
  have changed := (PortsKept.of_changes (putSignal_changes s i { s.signal i with state := .held })).trans
    (.of_changes (reportSignals_changes _ (signalBit i)))
  exact .ite ((changed.trans (evalRev_kept _ _)).trans (handStateChange_kept _ i)) (.refl s)

theorem signalLost_kept (s : State) (i : SignalId) : PortsKept s (s.signalLost i) := by
  unfold State.signalLost
  refine .ite ?_ (.refl s)
  dsimp only
  have lost := PortsKept.of_changes (putSignal_changes s i { s.signal i with state := .lost, value := safeValue i })
  generalize s.putSignal i _ = t at lost ⊢
  have latched := lost.trans (.ite (c := i = .reverse) (.of_changes (setLatch_changes t (decide ((s.signal i).value = 1)))) (.refl t))
  have tested := (latched.trans (.of_changes (reportSignals_changes _ (signalBit i)))).trans (.of_changes (latchTest_changes _))
  exact (tested.trans (evalRev_kept _ _)).trans (handStateChange_kept _ i)

theorem clearSignals_kept (s : State) (is : List SignalId) : PortsKept s (s.clearSignals is) := by
  have cleared : PortsKept s (is.foldl (fun u i => u.putSignal i ((u.signal i).toNone i)) s) :=
    .foldl (fun t i => .of_changes (putSignal_changes t i _)) is s
  unfold State.clearSignals
  dsimp only
  generalize is.foldl (fun u i => u.putSignal i ((u.signal i).toNone i)) s = t at cleared ⊢
  exact ((cleared.trans (.of_changes (reportSignals_changes t _))).trans (evalRev_kept _ _)).trans (.foldl handStateChange_kept _ _)

theorem storeRule_kept (s : State) (n : Fin 16) (r : Rule) : PortsKept s (s.storeRule n r) := by
  have timed : ∀ t : State, PortsKept t (t.takeTimeout r) := fun t => .ite (.of_changes (putSignal_changes t _ _)) (.refl t)
  exact ((PortsKept.of_changes (putRule_changes s n r)).trans (timed _)).trans (clearSignals_kept _ _)

theorem emptyRule_kept (s : State) (n : Fin 16) : PortsKept s (s.emptyRule n) :=
  (PortsKept.of_changes (putRule_changes s n .cleared)).trans (clearSignals_kept _ _)

theorem debounced_kept (s : State) : PortsKept s s.debounced :=
  .ite ((PortsKept.of_changes (lineSettles_changes s)).trans (evalRev_kept _ _)) (.refl s)

theorem takeReverseSource_kept (s : State) (x : ReverseSource) (n : Nat) : PortsKept s (s.takeReverseSource x n) :=
  (PortsKept.of_changes (source_changes s x n)).trans (evalRev_kept _ _)

theorem setPolicy_kept (s : State) (f : SetViewPolicy) : PortsKept s (s.setPolicy f) := by
  unfold State.setPolicy
  dsimp only
  have stored := PortsKept.of_changes (policy_changes s (SetViewPolicy.store f s.comp.policy))
  generalize ({ s with comp := { s.comp with policy := SetViewPolicy.store f s.comp.policy } } : State) = t at stored ⊢
  have lingered := stored.trans (.ite (c := f.lingerTime.isSome = true) (PortsKept.foldl lingerDue_kept outputs t) (.refl t))
  generalize (if f.lingerTime.isSome = true then outputs.foldl State.lingerDue t else t) = u at lingered ⊢
  have slowed : PortsKept u u.lingerSpeedChanged :=
    ((PortsKept.of_changes (latchTest_changes u)).trans (evalRev_kept _ _)).trans (speedTest_kept _)
  have sped := lingered.trans (.ite (c := (SetViewPolicy.store f s.comp.policy).lingerSpeed = s.comp.policy.lingerSpeed) (.refl u) slowed)
  exact sped.trans (.ite (.refl _) (.of_changes (suppressionTest_changes _)))

/-! ### Start-up -/

theorem loadReceiver_kept (s : State) : PortsKept s s.loadReceiver := by
  unfold State.loadReceiver
  split
  · exact evalRev_kept s _
  · rename_i b _
    dsimp only
    generalize e : ({ s with recv := { s.recv with bitRate := bitRateOf (byteAt b 0).toNat } } : State) = t
    have rated : PortsKept s t := e ▸ .of_same rfl rfl rfl rfl
    exact (rated.trans (.foldl (fun u n => .of_changes (loadRule_changes b u n)) _ t)).trans (takeReverseSource_kept _ _ _)

theorem loadOutputs_kept (s : State) : PortsKept s s.loadOutputs :=
  (((recomputeDemand_kept _).trans (.of_changes (latchTest_changes _))).trans (evalRev_kept _ _)).after rfl rfl rfl rfl

theorem loadCamera_kept (s : State) : PortsKept s s.loadCamera := by
  unfold State.loadCamera
  split <;> exact (PortsKept.of_changes (followCamera_changes _)).after rfl rfl rfl rfl

theorem doStep_kept (s : State) (x : StartUpStep) : PortsKept s (s.doStep x) := by
  cases x with
  | examine => exact .of_same rfl rfl rfl rfl
  | receiver => exact loadReceiver_kept s
  | outputs => exact loadOutputs_kept s
  | camera => exact loadCamera_kept s
  | mixer =>
    show PortsKept s s.loadMixer
    unfold State.loadMixer
    split <;> exact .of_same rfl rfl rfl rfl

theorem finishStartUp_kept (s : State) : PortsKept s s.finishStartUp := (PortsKept.foldl doStep_kept s.steps _).after rfl rfl rfl rfl

theorem enterRunning_kept (s : State) : PortsKept s s.enterRunning := by
  by_cases running : s.isRunning = true
  · unfold State.enterRunning
    rw [if_pos running]
    exact .refl s
  · rw [enterRunning_eq running]
    have now : PortsKept s (entered s.finishStartUp) := (finishStartUp_kept s).trans (.of_same rfl rfl rfl rfl)
    generalize entered s.finishStartUp = t at now ⊢
    exact .ite ((now.trans (viewRise_kept t)).trans (.of_changes (chimeRise_changes _))) now

end Sys2Proof.Machine
end

section
/-! SUPPORT. What the events of a VIN port make of its stream's record and of the port (R60 to R63). -/

namespace Sys2Proof.Machine

set_option Elab.async false

open Sys2Proof

/-! ### Records -/

/-- A record whose slot `k` is emptied by a frame that ended short (R62). -/
def Stream.cutShort (r : Stream) (k : Nat) : Stream :=
  { r with ring := r.ring.set k Slot.free, counters := { r.counters with shortFrame := satInc r.counters.shortFrame } }

/-- A record whose slot `k` is emptied by a frame out of order (R63, step 1). -/
def Stream.droppedLate (r : Stream) (k : Nat) : Stream :=
  { r with ring := r.ring.set k Slot.free, counters := { r.counters with lateDrop := satInc r.counters.lateDrop } }

/-- A record with a frame completed in order in slot `k`, and a STARVED stream running again (R63, R66). -/
def Stream.completed (r : Stream) (k : Nat) (tag : FrameTag) : Stream :=
  { r with
    ring := (if tag.discontinuity then r.ring.map Slot.flushed else r.ring).set k (.ready tag.stamp tag.sequence)
    lastStamp := some tag.stamp
    lastSequence := some tag.sequence
    endMark := tag.last
    counters := { r.counters with
      seqGap := if sequenceGap tag r.lastSequence then satInc r.counters.seqGap else r.counters.seqGap }
    state := if r.state = .starved then .running else r.state
    clockRunning := if r.state = .starved then true else r.clockRunning }

/-- A record with the frame in slot `k` at its end, whole or not (R62, R63). -/
def Stream.ended (r : Stream) (k : Nat) (tag : FrameTag) (whole : Bool) : Stream :=
  if whole then (if outOfOrder tag r.lastStamp then r.droppedLate k else r.completed k tag) else r.cutShort k

section
variable (s : State) (i : StreamId)

theorem setStreamState_stream (x : StreamState) (j : StreamId) : (s.setStreamState i x).stream j =
    if i = j then { s.stream i with state := x, clockRunning := decide (x = .running) } else s.stream j := by
  unfold State.setStreamState
  rw [report_stream, putStream_stream]

theorem setStreamState_notices (x : StreamState) :
    (s.setStreamState i x).link.notices = queueReport (.streamState i x) s.link.notices := rfl

theorem shortPicture_stream (k : Nat) (j : StreamId) : (s.shortPicture i k).stream j =
    if i = j then (s.stream i).cutShort k else s.stream j := by
  unfold State.shortPicture
  rw [report_stream, putStream_stream]
  rfl

/-- A frame that completes: the record, and what is reported when it is out of order (R63). -/
theorem completePicture_stream (k : Nat) (tag : FrameTag) (j : StreamId) : (s.completePicture i k tag).stream j =
    if i = j then (s.stream i).ended k tag true else s.stream j := by
  unfold State.completePicture Stream.ended Stream.droppedLate Stream.completed
  dsimp only
  by_cases late : outOfOrder tag (s.stream i).lastStamp = true
  · simp only [if_pos late, if_true, report_stream, putStream_stream]
  · simp only [if_neg late, if_true]
    have reported : ∀ (u : State) (r : Report) (b : Bool), (if b = true then u.report r else u).stream = u.stream := fun u r b => by
      split <;> rfl
    by_cases starved : (s.stream i).state = .starved
    · simp only [if_pos starved, setStreamState_stream, reported, putStream_stream, if_true, decide_true]
      split <;> rfl
    · simp only [if_neg starved, reported, putStream_stream]

theorem endPicture_eq {k : Nat} {tag : FrameTag} {lines : Nat} (at_k : (s.stream i).ring[k]? = some (.filling tag lines)) (short : Bool) :
    s.endPicture i k short = if !short && decide ((s.stream i).height ≤ lines) then s.completePicture i k tag else s.shortPicture i k := by
  unfold State.endPicture
  dsimp only
  rw [at_k]

theorem endPicture_stream {k : Nat} {tag : FrameTag} {lines : Nat} (at_k : (s.stream i).ring[k]? = some (.filling tag lines))
    (short : Bool) (j : StreamId) : (s.endPicture i k short).stream j =
      if i = j then (s.stream i).ended k tag (!short && decide ((s.stream i).height ≤ lines)) else s.stream j := by
  rw [endPicture_eq s i at_k]
  cases !short && decide ((s.stream i).height ≤ lines) with
  | true => exact completePicture_stream s i k tag j
  | false => exact shortPicture_stream s i k j

theorem endPicture_vin (k : Nat) (short : Bool) (j : StreamId) : (s.endPicture i k short).vin j = s.vin j :=
  congrArg (·.sel (streamNo j)) ((endPicture_changes s i k short).at .vin)

/-! ### Lines and tags -/

/-- A record with a bad tag counted (R60). -/
def Stream.tagRefused (r : Stream) : Stream := { r with counters := { r.counters with badTag := satInc r.counters.badTag } }

/-- A record with an overrun counted (R61). -/
def Stream.overran (r : Stream) : Stream := { r with counters := { r.counters with overrun := satInc r.counters.overrun } }

theorem badTag_stream (j : StreamId) : (s.badTag i).stream j = if i = j then (s.stream i).tagRefused else s.stream j := by
  unfold State.badTag
  rw [report_stream, putVin_stream, putStream_stream]
  rfl

theorem badTag_vin (j : StreamId) : (s.badTag i).vin j = if i = j then .ignored else s.vin j := by
  unfold State.badTag
  rw [report_vin, putVin_vin, putStream_vin]

/-- The slot searched for is EMPTY and unheld, and the first such in ring order (R61). -/
theorem usableSlot_some {ring : List Slot} {j : Nat} : ∀ {n k : Nat}, usableSlot ring k n = some j →
    ring[j]? = some Slot.free ∧ ∃ d, d < n ∧ j = (k + d) % ring.length ∧
      ∀ e, e < d → ring[(k + e) % ring.length]? ≠ some Slot.free
  | 0, k, h => nomatch h
  | n + 1, k, h => by
    unfold usableSlot at h
    dsimp only at h
    split at h
    · rename_i here
      cases h
      exact ⟨here, 0, Nat.succ_pos n, rfl, nofun⟩
    · rename_i taken
      obtain ⟨empty, d, less, place, before⟩ := usableSlot_some h
      refine ⟨empty, d + 1, by omega, by rw [place, Nat.add_right_comm, Nat.add_assoc], fun e earlier => ?_⟩
      match e with
      | 0 => exact taken
      | e + 1 => rw [← Nat.add_assoc, Nat.add_right_comm]; exact before e (by omega)

theorem usableSlot_none {ring : List Slot} : ∀ {n k : Nat}, usableSlot ring k n = none →
    ∀ d, d < n → ring[(k + d) % ring.length]? ≠ some Slot.free
  | 0, _, _, d, less => absurd less (Nat.not_lt_zero d)
  | n + 1, k, h, d, less => by
    unfold usableSlot at h
    dsimp only at h
    split at h
    · exact nomatch h
    · rename_i taken
      match d with
      | 0 => exact taken
      | d + 1 => rw [← Nat.add_assoc, Nat.add_right_comm]; exact usableSlot_none h d (by omega)

/-- A record whose slot `k` a new frame fills (R61). -/
def Stream.begun (r : Stream) (k : Nat) (tag : FrameTag) : Stream := { r with ring := r.ring.set k (.filling tag 0), lastWritten := k }

theorem selectSlot_some {tag : FrameTag} {k : Nat}
    (found : usableSlot (s.stream i).ring ((s.stream i).lastWritten + 1) (s.stream i).ring.length = some k) :
    s.selectSlot i tag = (s.putStream i ((s.stream i).begun k tag)).putVin i (.picture k false) := by
  unfold State.selectSlot
  dsimp only
  rw [found]
  rfl

theorem selectSlot_none {tag : FrameTag}
    (full : usableSlot (s.stream i).ring ((s.stream i).lastWritten + 1) (s.stream i).ring.length = none) :
    s.selectSlot i tag = ((s.putStream i (s.stream i).overran).putVin i .ignored).report (.streamTrouble i { overrun := true }) := by
  unfold State.selectSlot
  dsimp only
  rw [full]
  rfl

/-- A record with one more line of the frame in slot `k` (R62). -/
def Stream.lined (r : Stream) (k : Nat) (tag : FrameTag) (lines : Nat) : Stream := { r with ring := r.ring.set k (.filling tag (lines + 1)) }

/-- The state with a line of the frame in slot `k` counted, its bytes in memory `m` (R62). -/
def State.lined (s : State) (i : StreamId) (k : Nat) (tag : FrameTag) (lines : Nat) (m : FrameMemory) : State :=
  State.putStream { s with mem := m } i ((s.stream i).lined k tag lines)

/-- The address of a line of a picture in slot `k` of a stream's run (R6, R62). -/
def Stream.lineAddress (r : Stream) (run : Run) (k lines : Nat) : Nat :=
  pageAddress (run.base + k * slotPages r.width r.height) + lines * (r.width * 2)

/-- A picture line is written and counted, and a line too short makes the frame short (R62). -/
theorem pictureLine_eq {k lines : Nat} {tag : FrameTag} {run : Run} (at_k : (s.stream i).ring[k]? = some (.filling tag lines))
    (placed : s.fmm.runOf (.stream i) = some run) (room : lines < (s.stream i).height) (line : List Byte) :
    s.pictureLine i k line =
      let m := s.mem.write ((s.stream i).lineAddress run k lines) (line.take ((s.stream i).width * 2))
      if line.length / 2 < (s.stream i).width then (s.lined i k tag lines m).putVin i (.picture k true) else s.lined i k tag lines m := by
  unfold State.pictureLine
  dsimp only
  rw [at_k, placed]
  exact if_pos room

/-- A picture line changes nothing, or is written and counted. -/
theorem pictureLine_cases (k : Nat) (line : List Byte) : s.pictureLine i k line = s ∨
    ∃ tag lines m, (s.stream i).ring[k]? = some (.filling tag lines) ∧
      (s.pictureLine i k line = s.lined i k tag lines m ∨
        s.pictureLine i k line = (s.lined i k tag lines m).putVin i (.picture k true)) := by
  cases at_k : (s.stream i).ring[k]? with
  | none => exact .inl (by unfold State.pictureLine; dsimp only; rw [at_k])
  | some x =>
    cases x with
    | filling tag lines =>
      cases placed : s.fmm.runOf (.stream i) with
      | none => exact .inl (by unfold State.pictureLine; dsimp only; rw [at_k, placed])
      | some run =>
        by_cases room : lines < (s.stream i).height
        · refine .inr ⟨tag, lines, s.mem.write ((s.stream i).lineAddress run k lines) (line.take ((s.stream i).width * 2)), rfl, ?_⟩
          rw [pictureLine_eq s i at_k placed room]
          dsimp only
          split
          · exact .inr rfl
          · exact .inl rfl
        · exact .inl (by unfold State.pictureLine; dsimp only; rw [at_k, placed]; exact if_neg room)
    | empty | ready | showing => exact .inl (by unfold State.pictureLine; dsimp only; rw [at_k])

end

end Sys2Proof.Machine
end

section
/-! PROOFS. Every step keeps the frame rings, the VIN ports' loads and the placements lawful (R50, R62, R77, R85). -/

namespace Sys2Proof.Machine

set_option Elab.async false

open Sys2Proof

/-- The laws of the rings, of the ports and their loads, of the layer being cleared, and of the placements (R50, R76, R77, R85). -/
structure PacingLawful (s : State) : Prop where
  ring : ∀ i, RingLaw (s.stream i) (s.vin i)
  loads : ∀ n p, (s.layer n).vinLoad = some p ↔ ∃ lines autoPresent, s.vin p = .layer n lines autoPresent
  unused : ∀ n, (s.layer n).state = .unused → (s.layer n).vinLoad = none
  clearing : ∀ c, s.layers.clearing = some c → (s.layer c.layer).state = .unused
  placed : ∀ o, s.placementsLawful o

theorem pacingLawful_iff {s : State} : PacingLawful s ↔ PortsLawful s ∧ ∀ o, s.placementsLawful o := by
  constructor
  · rintro ⟨ring, loads, unused, clearing, placed⟩
    exact ⟨⟨ringLawful_iff.2 (ring .a), ringLawful_iff.2 (ring .b), loads, unused, clearing⟩, placed⟩
  · rintro ⟨⟨a, b, loads, unused, clearing⟩, placed⟩
    refine ⟨fun i => ?_, loads, unused, clearing, placed⟩
    cases i
    · exact ringLawful_iff.1 a
    · exact ringLawful_iff.1 b

/-! ### What keeps the laws -/

section
variable {s t : State} (h : PacingLawful s)
include h

/-- Where the ports go on as they were, the laws are kept. -/
theorem PacingLawful.of_kept (k : PortsKept s t) : PacingLawful t := by
  have vin : ∀ i, t.vin i = s.vin i := fun i => congrArg (·.sel (streamNo i)) k.vin
  refine ⟨fun i => vin i ▸ k.rings i _ (h.ring i), fun n p => ?_, fun n now => ?_, fun c now => ?_,
    fun o => placementsLawful_of_same (h.placed o) fun n => (k.layers n).2.1⟩
  · rw [(k.layers n).1, vin]
    exact h.loads n p
  · rw [(k.layers n).1]
    exact h.unused n ((k.layers n).2.2.1 now)
  · exact (k.layers _).2.2.2 (h.clearing c (k.clearing ▸ now))

theorem PacingLawful.of_changes {ps : List Piece} (c : Changes ps s t)
    (out : ([Piece.rings, .vin, .layers, .clearing].all fun p => !ps.contains p) = true := by decide) : PacingLawful t :=
  h.of_kept (.of_changes c out)

/-- One stream and its port go on, no load beginning or ending: the laws are kept where the stream's ring is lawful. -/
theorem PacingLawful.of_stream {i : StreamId} (layers : t.layers = s.layers)
    (others : ∀ j, j ≠ i → t.stream j = s.stream j ∧ t.vin j = s.vin j)
    (loading : ∀ n, (∃ lines auto, t.vin i = .layer n lines auto) ↔ ∃ lines auto, s.vin i = .layer n lines auto)
    (ring : RingLaw (t.stream i) (t.vin i)) : PacingLawful t := by
  have layer : ∀ n, t.layer n = s.layer n := fun n => congrArg (·.layers.sel n) layers
  refine ⟨fun j => ?_, fun n p => ?_, fun n now => ?_, fun c now => ?_,
    fun o => placementsLawful_of_same (h.placed o) fun n => by rw [layer]⟩
  · by_cases here : j = i
    · subst here
      exact ring
    · obtain ⟨stream, vin⟩ := others j here
      rw [stream, vin]
      exact h.ring j
  · rw [layer, h.loads]
    by_cases here : p = i
    · subst here
      exact (loading n).symm
    · rw [(others p here).2]
  · rw [layer] at now ⊢
    exact h.unused n now
  · rw [layer]
    exact h.clearing c (layers ▸ now)

/-- A port that loads no layer and writes no slot goes on to do neither. -/
theorem PacingLawful.putVin_idle {p : StreamId} {f : VinFrame} (picture : ∀ k short, s.vin p ≠ .picture k short)
    (layer : ∀ n lines auto, s.vin p ≠ .layer n lines auto) (picture' : ∀ k short, f ≠ .picture k short)
    (layer' : ∀ n lines auto, f ≠ .layer n lines auto) : PacingLawful (s.putVin p f) := by
  refine h.of_stream (i := p) rfl (fun j other => ⟨rfl, putVin_vin_ne _ _ _ (Ne.symm other)⟩) (fun n => ?_) ?_
  · rw [putVin_vin_same]
    exact ⟨fun ⟨lines, auto, e⟩ => absurd e (layer' n lines auto), fun ⟨lines, auto, e⟩ => absurd e (layer n lines auto)⟩
  · rw [putVin_vin_same]
    exact (h.ring p).of_idle picture picture'

end

theorem pacingLawful_quiet {s t : State} (c : Changes [.requests] s t) (h : PacingLawful s) : PacingLawful t := h.of_changes c

/-! ### The requests of a stream (R52 to R59) -/

theorem openStream_pacing {s : State} (h : PacingLawful s) {i : StreamId} (closed : (s.stream i).state = .closed) (f : OpenStream)
    (p : PixelFormat) (n : Nat) (g : Fmm) : PacingLawful (s.openStream i f p n g) := by
  have empty := (h.ring i).closed closed
  have idle : ∀ k short, s.vin i ≠ .picture k short := fun k short picture => by
    have := (h.ring i).inside k short picture
    rw [empty] at this
    exact Nat.not_lt_zero k this
  have outdated : (s.openStream i f p n g).vin i = (s.vin i).outdated := by rw [openStream_vin, if_pos rfl]
  refine h.of_stream (i := i) rfl (fun j other => ⟨openStream_stream_ne _ _ _ _ _ _ other, by rw [openStream_vin, if_neg (Ne.symm other)]⟩)
    (fun m => ?_) ?_
  · rw [outdated]
    cases s.vin i <;> simp [VinFrame.outdated]
  · rw [openStream_stream, outdated]
    refine ringLaw_fresh rfl rfl nofun fun k short => ?_
    have := idle k short
    revert this
    cases s.vin i <;> simp [VinFrame.outdated]

/-- A port whose picture frame is dropped writes no slot. -/
theorem dropPicture_idle (f : VinFrame) (k : Nat) (short : Bool) : f.dropPicture ≠ .picture k short := by
  cases f <;> simp [VinFrame.dropPicture]

theorem dropPicture_layer (f : VinFrame) (n : Fin 24) (lines : Nat) (auto : Bool) :
    f.dropPicture = .layer n lines auto ↔ f = .layer n lines auto := by
  cases f <;> simp [VinFrame.dropPicture]

theorem closeStream_pacing {s : State} (h : PacingLawful s) (i : StreamId) : PacingLawful (s.closeStream i) := by
  have dropped : (s.closeStream i).vin i = (s.vin i).dropPicture := by rw [closeStream_vin, if_pos rfl]
  refine h.of_stream (i := i) rfl (fun j other => ⟨closeStream_stream_ne _ _ other, by rw [closeStream_vin, if_neg (Ne.symm other)]⟩)
    (fun m => ?_) ?_
  · simp only [dropped, dropPicture_layer]
  · rw [closeStream_stream, dropped]
    exact ringLaw_fresh (n := 0) rfl rfl (fun _ => rfl) (dropPicture_idle _)

/-- A stream whose ring, slot count and last stamp stay, and which is not CLOSED anew. -/
theorem putStream_pacing {s : State} (h : PacingLawful s) (i : StreamId) {r : Stream} (ring : r.ring = (s.stream i).ring)
    (count : r.slotCount = (s.stream i).slotCount) (last : r.lastStamp = (s.stream i).lastStamp)
    (state : r.state = .closed → (s.stream i).state = .closed) : PacingLawful (s.putStream i r) :=
  h.of_kept (putStream_kept fun _ law => law.of_same ring count last state)

theorem flushStream_pacing {s : State} (h : PacingLawful s) (i : StreamId) :
    PacingLawful ((s.putVin i (s.vin i).dropPicture).putStream i { s.stream i with
      ring := (s.stream i).ring.map Slot.emptied, lastStamp := none, lastSequence := none }) := by
  refine h.of_stream (i := i) rfl (fun j other => ?_) (fun n => ?_) ?_
  · rw [putStream_stream_ne _ _ _ (Ne.symm other), putStream_vin, putVin_vin_ne _ _ _ (Ne.symm other)]
    exact ⟨rfl, rfl⟩
  · simp only [putStream_vin, putVin_vin_same, dropPicture_layer]
  · rw [putStream_stream_same, putStream_vin, putVin_vin_same]
    exact ((h.ring i).emptied (dropPicture_idle _)).of_same rfl rfl rfl id

section
variable {s : State} (h : PacingLawful s)
include h

/-- A request that names a stream keeps what acting on that stream keeps. -/
theorem withStream_pacing {k : Nat} {act : StreamId → State × Reply} (acts : ∀ i, PacingLawful (act i).1) :
    PacingLawful (withStream k s act).1 := by
  unfold withStream
  split
  · exact h
  · exact acts _

theorem withLayer_pacing {k : Nat} {act : Fin 24 → State × Reply} (acts : ∀ n, PacingLawful (act n).1) :
    PacingLawful (withLayer k s act).1 := by
  unfold withLayer
  split
  · exact h
  · exact acts _

theorem execOpenStream_pacing (b : Body OpenStream) {t : State} (e : execOpenStream b s = .next t) : PacingLawful t := by
  cases e
  refine requestWith_keeps pacingLawful_quiet (fun f t ht => withStream_pacing ht fun i => ?_) b h
  split
  · exact ht
  · split
    · exact ht
    · rename_i opened
      dsimp only
      split
      · exact ht
      · exact ht
      · exact openStream_pacing ht (by by_contra other; exact opened (.inl other)) _ _ _ _

theorem execCloseStream_pacing (b : Body Nat) {t : State} (e : execCloseStream b s = .next t) : PacingLawful t := by
  cases e
  refine requestWith_keeps pacingLawful_quiet (fun f t ht => withStream_pacing ht fun i => ?_) b h
  split
  · exact ht
  · exact closeStream_pacing ht i

theorem execSetClock_pacing (b : Body SetClock) {t : State} (e : execSetClock b s = .next t) : PacingLawful t := by
  cases e
  refine requestWith_keeps pacingLawful_quiet (fun f t ht => withStream_pacing ht fun i => ?_) b h
  split
  · exact ht
  · exact putStream_pacing ht i rfl rfl rfl id

theorem execRunStream_pacing (b : Body Nat) {t : State} (e : execRunStream b s = .next t) : PacingLawful t := by
  cases e
  refine requestWith_keeps pacingLawful_quiet (fun f t ht => withStream_pacing ht fun i => ?_) b h
  split
  · exact ht.of_kept (setStreamState_kept t i nofun)
  · exact ht.of_kept (setStreamState_kept t i nofun)
  · exact ht
  · exact ht
  · exact ht

theorem execPauseStream_pacing (b : Body Nat) {t : State} (e : execPauseStream b s = .next t) : PacingLawful t := by
  cases e
  refine requestWith_keeps pacingLawful_quiet (fun f t ht => withStream_pacing ht fun i => ?_) b h
  split
  · exact ht.of_kept (setStreamState_kept t i nofun)
  · exact ht.of_kept (setStreamState_kept t i nofun)
  · exact ht
  · exact ht
  · exact ht

theorem execFlushStream_pacing (b : Body Nat) {t : State} (e : execFlushStream b s = .next t) : PacingLawful t := by
  cases e
  refine requestWith_keeps pacingLawful_quiet (fun f t ht => withStream_pacing ht fun i => ?_) b h
  split
  · exact ht
  · exact flushStream_pacing ht i

theorem execSetStream_pacing (b : Body SetStream) {t : State} (e : execSetStream b s = .next t) : PacingLawful t := by
  cases e
  refine requestWith_keeps pacingLawful_quiet (fun f t ht => withStream_pacing ht fun i => ?_) b h
  split
  · exact ht
  · exact putStream_pacing ht i rfl rfl rfl id

end

/-! ### Picture frames (R60 to R63) -/

/-- A picture frame's end leaves its slot EMPTY or READY (R62, R63). -/
theorem endPicture_pacing {s : State} (h : PacingLawful s) {p : StreamId} {k : Nat} {short : Bool} (writing : s.vin p = .picture k short) :
    PacingLawful ((s.putVin p .idle).endPicture p k short) := by
  obtain ⟨x, at_k⟩ : ∃ x, (s.stream p).ring[k]? = some x := ⟨_, List.getElem?_eq_getElem ((h.ring p).inside k short writing)⟩
  obtain ⟨tag, lines, rfl⟩ := isFilling_iff.1 (((h.ring p).filling k x at_k).2 ⟨short, writing⟩)
  have record := endPicture_stream (s.putVin p .idle) p at_k short
  refine h.of_stream (i := p) ?_ (fun j other => ?_) (fun n => ?_) ?_
  · have frame := endPicture_changes (s.putVin p .idle) p k short
    have layers : _ = s.layers.layers := frame.at .layers
    have names : _ = s.layers.designations := frame.at .designations
    have clearing : _ = s.layers.clearing := frame.at .clearing
    revert layers names clearing
    generalize ((s.putVin p .idle).endPicture p k short).layers = x
    generalize s.layers = y
    cases x
    cases y
    simp +contextual
  · rw [record, if_neg (Ne.symm other), endPicture_vin, putVin_vin_ne _ _ _ (Ne.symm other)]
    exact ⟨rfl, rfl⟩
  · rw [endPicture_vin, putVin_vin_same, writing]
    simp
  · rw [record, if_pos rfl, endPicture_vin, putVin_vin_same, putVin_stream]
    have vacated := (h.ring p).vacate (f' := .idle) writing nofun
    unfold Stream.ended
    split
    · split
      · exact vacated.of_same rfl rfl rfl id
      · rename_i ordered
        refine ((h.ring p).completed (f' := .idle) writing nofun (Bool.eq_false_iff.2 ordered)).of_same rfl rfl rfl ?_
        show (if (s.stream p).state = .starved then StreamState.running else (s.stream p).state) = .closed → _
        split
        · exact nofun
        · exact id
    · exact vacated.of_same rfl rfl rfl id

theorem selectSlot_pacing {s : State} (h : PacingLawful s) {p : StreamId} {stale : Bool} (started : s.vin p = .started stale) (tag : FrameTag) :
    PacingLawful (s.selectSlot p tag) := by
  cases found : usableSlot (s.stream p).ring ((s.stream p).lastWritten + 1) (s.stream p).ring.length with
  | none =>
    rw [selectSlot_none s p found]
    have counted : PacingLawful (s.putStream p (s.stream p).overran) := putStream_pacing h p rfl rfl rfl id
    exact (counted.putVin_idle (f := .ignored) (by simp [started]) (by simp [started]) nofun nofun).of_kept (report_kept _ _)
  | some k =>
    obtain ⟨free, -⟩ := usableSlot_some found
    obtain ⟨inside, -⟩ := List.getElem?_eq_some_iff.1 free
    rw [selectSlot_some s p found]
    refine h.of_stream (i := p) rfl (fun j other => ?_) (fun n => ?_) ?_
    · rw [putVin_stream, putStream_stream_ne _ _ _ (Ne.symm other), putVin_vin_ne _ _ _ (Ne.symm other)]
      exact ⟨rfl, rfl⟩
    · rw [putVin_vin_same, started]
      simp
    · rw [putVin_stream, putStream_stream_same, putVin_vin_same]
      refine ((h.ring p).set (k := k) (x := .filling tag 0) rfl rfl ⟨fun _ => ⟨false, rfl⟩, fun _ => rfl⟩ (fun j apart => ?_)
        fun j short at_port => ?_).of_same rfl rfl rfl id
      · rw [started]
        refine ⟨?_, nofun⟩
        rintro ⟨_, picture⟩
        cases picture
        exact absurd rfl apart
      · cases at_port
        exact inside

theorem badTag_pacing {s : State} (h : PacingLawful s) {p : StreamId} {stale : Bool} (started : s.vin p = .started stale) :
    PacingLawful (s.badTag p) := by
  have counted : PacingLawful (s.putStream p (s.stream p).tagRefused) := putStream_pacing h p rfl rfl rfl id
  exact (counted.putVin_idle (f := .ignored) (by simp [started]) (by simp [started]) nofun nofun).of_kept (report_kept _ _)

theorem pictureLine_pacing {s : State} (h : PacingLawful s) {p : StreamId} {k : Nat} (writing : s.vin p = .picture k false) (line : List Byte) :
    PacingLawful (s.pictureLine p k line) := by
  rcases pictureLine_cases s p k line with same | ⟨tag, lines, m, at_k, written⟩
  · rw [same]
    exact h
  have fills : ∀ short, RingLaw ((s.stream p).lined k tag lines) (.picture k short) := fun short =>
    (h.ring p).set rfl rfl ⟨fun _ => ⟨short, rfl⟩, fun _ => rfl⟩ (fun j apart => by rw [writing]; simp [Ne.symm apart])
      fun j short' at_port => by cases at_port; exact (h.ring p).inside k false writing
  rcases written with same | same
  · rw [same]
    refine h.of_stream (i := p) rfl (fun j other => ⟨putStream_stream_ne _ _ _ (Ne.symm other), rfl⟩) (fun n => .rfl) ?_
    unfold State.lined
    rw [putStream_stream_same, putStream_vin]
    exact (show s.vin p = _ from writing) ▸ fills false
  · rw [same]
    refine h.of_stream (i := p) rfl (fun j other => ⟨putStream_stream_ne _ _ _ (Ne.symm other), ?_⟩) (fun n => ?_) ?_
    · rw [putVin_vin_ne _ _ _ (Ne.symm other)]
      rfl
    · rw [putVin_vin_same, writing]
      simp
    · rw [putVin_vin_same, putVin_stream]
      unfold State.lined
      rw [putStream_stream_same]
      exact fills true

end Sys2Proof.Machine
end

section
/-! PROOFS. Every step keeps the frame rings, the VIN ports' loads and the placements lawful: LAYER frames and layer commands
(R76 to R78, R85, R86, R90). -/

namespace Sys2Proof.Machine

set_option Elab.async false

open Sys2Proof

/-- One layer's record changes, with what the ports are in the middle of. -/
theorem PacingLawful.of_layer {s t : State} (h : PacingLawful s) {n : Fin 24} {l : Layer}
    (rings : ∀ i, RingLaw (t.stream i) (t.vin i)) (layer : ∀ m, t.layer m = if n = m then l else s.layer m)
    (own : ∀ p, l.vinLoad = some p ↔ ∃ lines auto, t.vin p = .layer n lines auto)
    (others : ∀ m, n ≠ m → ∀ p, (∃ lines auto, t.vin p = .layer m lines auto) ↔ ∃ lines auto, s.vin p = .layer m lines auto)
    (unused : l.state = .unused → l.vinLoad = none)
    (clearing : ∀ c, t.layers.clearing = some c → s.layers.clearing = some c ∧ (c.layer = n → l.state = .unused))
    (placed : ∀ o, t.placementsLawful o) : PacingLawful t := by
  refine ⟨rings, fun m p => ?_, fun m now => ?_, fun c now => ?_, placed⟩
  · rw [layer]
    split
    · subst_vars
      exact own p
    · rename_i other
      rw [others m other, h.loads]
  · rw [layer] at now ⊢
    split at now
    · rw [if_pos ‹_›]
      exact unused now
    · rw [if_neg ‹_›]
      exact h.unused m now
  · obtain ⟨before, state⟩ := clearing c now
    rw [layer]
    split
    · exact state (Eq.symm ‹_›)
    · exact h.clearing c before

section
variable {s : State} (h : PacingLawful s)
include h

/-- A layer being loaded is not UNUSED, so it is not the one being cleared (R76, R85). -/
theorem PacingLawful.loading_used {p : StreamId} {n : Fin 24} {lines : Nat} {auto : Bool} (loading : s.vin p = .layer n lines auto) :
    (s.layer n).state ≠ .unused ∧ (s.layer n).vinLoad = some p := by
  have load := (h.loads n p).2 ⟨lines, auto, loading⟩
  refine ⟨fun unused => ?_, load⟩
  rw [h.unused n unused] at load
  exact nomatch load

/-- A layer's VIN load ends with its port's frame (R86, R90). -/
theorem PacingLawful.unload {p : StreamId} {n : Fin 24} {lines : Nat} {auto : Bool} (loading : s.vin p = .layer n lines auto)
    {f : VinFrame} (picture : ∀ k short, f ≠ .picture k short) (layer : ∀ m lines auto, f ≠ .layer m lines auto) {l : Layer}
    (load : l.vinLoad = none) (placed : ∀ k, l.placements.sel k = (s.layer n).placements.sel k ∨ l.placements.sel k = none) :
    PacingLawful ((s.putVin p f).putLayer n l) := by
  obtain ⟨used, owns⟩ := h.loading_used loading
  have at_layer : ∀ m, ((s.putVin p f).putLayer n l).layer m = if n = m then l else s.layer m := putLayer_layer _ _ _
  have at_port : ∀ q, ((s.putVin p f).putLayer n l).vin q = if p = q then f else s.vin q := putVin_vin _ _ _
  refine h.of_layer (fun i => ?_) at_layer (fun q => ?_) (fun m other q => ?_) (fun _ => load)
    (fun c now => ⟨now, fun here => absurd (here ▸ h.clearing c now) used⟩)
    (fun o => placementsLawful_of_fewer (h.placed o) fun m => ?_)
  · rw [at_port]
    split
    · rename_i here
      subst here
      exact (h.ring p).of_idle (fun k short picture => by rw [loading] at picture; exact nomatch picture) picture
    · exact h.ring i
  · rw [load, at_port]
    refine ⟨nofun, fun ⟨a, b, e⟩ => ?_⟩
    split at e
    · exact absurd e (layer n a b)
    · rename_i other
      rw [(h.loads n q).2 ⟨a, b, e⟩] at owns
      exact absurd (Option.some.inj owns).symm other
  · rw [at_port]
    split
    · subst_vars
      refine ⟨fun ⟨a, b, e⟩ => absurd e (layer m a b), fun ⟨a, b, e⟩ => ?_⟩
      rw [loading] at e
      cases e
      exact absurd rfl other
    · exact .rfl
  · rw [at_layer]
    split
    · subst_vars
      exact placed _
    · exact .inl rfl

end

/-! ### LAYER frames (R85, R86) -/

section
variable {s : State} (h : PacingLawful s)
include h

theorem refuseTag_pacing {p : StreamId} {stale : Bool} (started : s.vin p = .started stale) (b : Bool) : PacingLawful (s.refuseTag p b) := by
  unfold State.refuseTag
  split
  · exact h.putVin_idle (by simp [started]) (by simp [started]) nofun nofun
  · exact badTag_pacing h started

theorem beginLayerFrame_pacing {p : StreamId} {stale : Bool} (started : s.vin p = .started stale) (target width height : Nat)
    (auto : Bool) : PacingLawful (s.beginLayerFrame p target width height auto) := by
  have ignored : PacingLawful (s.putVin p .ignored) := h.putVin_idle (by simp [started]) (by simp [started]) nofun nofun
  unfold State.beginLayerFrame
  split
  · exact ignored
  · rename_i n _
    dsimp only
    split
    · exact ignored.of_kept (report_kept _ _)
    · rename_i allowed
      simp only [not_or] at allowed
      obtain ⟨used, -, -, -, idle⟩ := allowed
      have idle : (s.layer n).vinLoad = none := by simpa using idle
      have at_port : ∀ q, ((s.putLayer n { s.layer n with vinLoad := some p, mark := 0 }).putVin p (.layer n 0 auto)).vin q =
          if p = q then .layer n 0 auto else s.vin q := putVin_vin _ _ _
      have at_layer : ∀ m, ((s.putLayer n { s.layer n with vinLoad := some p, mark := 0 }).putVin p (.layer n 0 auto)).layer m =
          if n = m then { s.layer n with vinLoad := some p, mark := 0 } else s.layer m := putLayer_layer _ _ _
      refine h.of_layer (fun i => ?_) at_layer (fun q => ?_) (fun m other q => ?_) (fun unused => absurd unused used)
        (fun c now => ⟨now, fun here => here ▸ h.clearing c now⟩) (fun o => placementsLawful_of_same (h.placed o) fun m => ?_)
      · rw [at_port]
        split
        · rename_i here
          subst here
          exact (h.ring p).of_idle (by simp [started]) nofun
        · exact h.ring i
      · rw [at_port]
        split
        · subst_vars
          exact ⟨fun _ => ⟨0, auto, rfl⟩, fun _ => rfl⟩
        · rename_i other
          rw [← h.loads n q, idle]
          exact ⟨fun e => absurd (Option.some.inj e) other, nofun⟩
      · rw [at_port]
        split
        · subst_vars
          rw [started]
          simp [other]
        · exact .rfl
      · rw [at_layer]
        split
        · subst_vars
          rfl
        · rfl

theorem readTagLine_pacing {p : StreamId} {stale : Bool} (started : s.vin p = .started stale) (line : List Byte) :
    PacingLawful (s.readTagLine p stale line) := by
  unfold State.readTagLine
  split
  · exact refuseTag_pacing h started stale
  · exact beginLayerFrame_pacing h started _ _ _ _
  · dsimp only
    split
    · exact h.putVin_idle (by simp [started]) (by simp [started]) nofun nofun
    · split
      · exact selectSlot_pacing h started _
      · exact badTag_pacing h started

theorem layerLine_pacing {p : StreamId} {n : Fin 24} {lines : Nat} {auto : Bool} (loading : s.vin p = .layer n lines auto)
    (line : List Byte) : PacingLawful (s.layerLine p n lines auto line) := by
  have written : ∀ m : FrameMemory, PacingLawful { s with mem := m } := fun m => h.of_kept (.of_same rfl rfl rfl rfl)
  unfold State.layerLine
  dsimp only
  split
  · generalize s.mem.write _ _ = m
    split
    · exact ((written m).unload (s := { s with mem := m }) loading (f := .ignored) nofun nofun (l := { s.layer n with vinLoad := none }) rfl
        fun _ => .inl rfl).of_kept (report_kept _ _)
    · refine (written m).of_stream (i := p) rfl (fun j other => ⟨rfl, putVin_vin_ne _ _ _ (Ne.symm other)⟩) (fun k => ?_) ?_
      · rw [putVin_vin_same, show State.vin { s with mem := m } p = _ from loading]
        simp
      · rw [putVin_vin_same]
        exact (h.ring p).of_idle (fun k short picture => by rw [loading] at picture; exact nomatch picture) nofun
  · exact h

/-- The frame in progress on a port ends: a picture's slot is settled, a layer's load is over (R62, R86). -/
theorem endVinFrame_pacing (p : StreamId) (early : Bool) : PacingLawful (s.endVinFrame p early) := by
  unfold State.endVinFrame
  dsimp only
  cases port : s.vin p with
  | picture k short => exact endPicture_pacing h port
  | layer n lines auto =>
    dsimp only
    split
    · have complete := h.unload port (f := .idle) nofun nofun (l := { s.layer n with mark := (s.layer n).planeSize, vinLoad := none }) rfl
        fun _ => .inl rfl
      have loaded := (complete.of_kept (repair_kept _ n (s.layer n).target)).of_kept (report_kept _ (loadedEvent n))
      show PacingLawful (if _ then _ else _)
      split
      · exact loaded.of_kept (requestFlip_kept _ _)
      · exact loaded
    · exact (h.unload port (f := .idle) nofun nofun (l := { s.layer n with vinLoad := none }) rfl fun _ => .inl rfl).of_kept (report_kept _ _)
  | idle | started | ignored => exact h.putVin_idle (by simp [port]) (by simp [port]) nofun nofun

omit h in
/-- A frame's end leaves its port IDLE. -/
theorem endVinFrame_vin (p : StreamId) (early : Bool) : (s.endVinFrame p early).vin p = .idle := by
  unfold State.endVinFrame
  dsimp only
  have idle : (s.putVin p .idle).vin p = .idle := putVin_vin_same _ _ _
  cases port : s.vin p with
  | picture k short => exact (endPicture_vin _ _ _ _ _).trans idle
  | layer n lines auto =>
    dsimp only
    split
    · exact (congrArg (·.sel (streamNo p)) ((completeLayerFrame_changes _ n auto).at .vin)).trans idle
    · exact idle
  | idle | started | ignored => exact idle

theorem execVinFrameStart_pacing (p : StreamId) {t : State} (e : execVinFrameStart p s = .next t) : PacingLawful t := by
  cases e
  have idle := endVinFrame_vin (s := s) p true
  exact (endVinFrame_pacing h p true).putVin_idle (by simp [idle]) (by simp [idle]) nofun nofun

theorem execVinLine0Complete_pacing (p : StreamId) (line : List Byte) {t : State} (e : execVinLine0Complete p line s = .next t) :
    PacingLawful t := by
  unfold execVinLine0Complete at e
  split at e <;> cases e
  · exact readTagLine_pacing h ‹_› line
  all_goals exact h

theorem execVinPictureLine_pacing (p : StreamId) (line : List Byte) {t : State} (e : execVinPictureLine p line s = .next t) :
    PacingLawful t := by
  unfold execVinPictureLine at e
  split at e <;> cases e
  · exact pictureLine_pacing h ‹_› line
  · exact h
  · exact layerLine_pacing h ‹_› line
  all_goals exact h

end

/-! ### Placements (R77, R78) -/

/-- A placement made on an output that has room for it, at a depth no other layer has (R77). -/
theorem placementsLawful_of_placed {s t : State} {o : Output} (h : s.placementsLawful o) {n : Fin 24} {x : Placement}
    (now : (t.layer n).placements.sel (outputNo o) = some x)
    (others : ∀ m, m ≠ n → (t.layer m).placements.sel (outputNo o) = (s.layer m).placements.sel (outputNo o))
    (room : (s.layer n).placements.sel (outputNo o) = none → s.placedOn o < 6)
    (apart : ∀ m y, m ≠ n → (s.layer m).placements.sel (outputNo o) = some y → y.z ≠ x.z) : t.placementsLawful o := by
  obtain ⟨six, differ⟩ := h
  obtain ⟨rest, order, absent⟩ : ∃ rest, (List.finRange 24).Perm (n :: rest) ∧ n ∉ rest :=
    ⟨_, List.perm_cons_erase (List.mem_finRange n), fun listed => ((List.nodup_finRange 24).mem_erase_iff.1 listed).1 rfl⟩
  have same : ∀ m ∈ rest, (t.layer m).placements.sel (outputNo o) = (s.layer m).placements.sel (outputNo o) := fun m listed =>
    others m fun here => absent (here ▸ listed)
  have counted : s.placedOn o = ((n :: rest).filter fun m => ((s.layer m).placements.sel (outputNo o)).isSome).length :=
    (order.filter _).length_eq
  constructor
  · have few : (rest.filter fun m => ((s.layer m).placements.sel (outputNo o)).isSome).length < 6 := by
      rw [List.filter_cons] at counted
      split at counted
      · rw [List.length_cons] at counted
        omega
      · rename_i unplaced
        exact counted ▸ room (by simpa using unplaced)
    unfold State.placedOn
    rw [(order.filter _).length_eq, List.filter_cons_of_pos (by rw [now]; rfl), List.length_cons,
      List.filter_congr fun m listed => by rw [same m listed]]
    omega
  · rw [(order.filterMap _).nodup_iff] at differ ⊢
    rw [List.filterMap_cons_some (by rw [now]; rfl), List.nodup_cons, List.filterMap_congr fun m listed => by rw [same m listed]]
    refine ⟨fun taken => ?_, differ.sublist ?_⟩
    · obtain ⟨m, listed, depth⟩ := List.mem_filterMap.1 taken
      obtain ⟨y, at_m, depth⟩ := Option.map_eq_some_iff.1 depth
      exact apart m y (fun here => absent (here ▸ listed)) at_m depth
    · rw [List.filterMap_cons]
      split
      · exact .refl _
      · exact List.sublist_cons_self _ _

theorem setLayer_placements (f : SetLayer) (old : Table (Option Placement) 3) (o : Output) :
    (SetLayer.placements f old).sel (outputNo o) = placementAfter (old.sel (outputNo o)) (SetLayer.part f o) := by
  cases o <;> simp [SetLayer.placements, SetLayer.part, outputNo, Table.sel_upd]

/-- SET LAYER that is not refused leaves the placements of every output lawful (R78). -/
theorem setLayer_placed {s t : State} {n : Fin 24} {f : SetLayer} (allowed : s.setLayerRefusal n f = none) {o : Output}
    (h : s.placementsLawful o) (now : (t.layer n).placements = SetLayer.placements f (s.layer n).placements)
    (others : ∀ m, m ≠ n → t.layer m = s.layer m) : t.placementsLawful o := by
  have fewer : (t.layer n).placements.sel (outputNo o) = (s.layer n).placements.sel (outputNo o) ∨
      (t.layer n).placements.sel (outputNo o) = none → t.placementsLawful o := fun here =>
    placementsLawful_of_fewer h fun m => by
      by_cases same : m = n
      · exact same ▸ here
      · exact .inl (by rw [others m same])
  rw [now, setLayer_placements] at fewer
  have in_list : o ∈ outputs := by cases o <;> decide
  obtain ⟨places, depths⟩ : s.outOfPlaces n f o = false ∧ s.depthTaken n f o = false := by
    unfold State.setLayerRefusal at allowed
    repeat' split at allowed
    all_goals first | contradiction | skip
    rename_i places depths
    exact ⟨by simpa using List.any_eq_false.1 (Bool.eq_false_iff.2 places) o in_list,
      by simpa using List.any_eq_false.1 (Bool.eq_false_iff.2 depths) o in_list⟩
  cases part : SetLayer.part f o with
  | none => exact fewer (.inl (by rw [part]; rfl))
  | some p =>
    cases p with
    | remove => exact fewer (.inr (by rw [part]; rfl))
    | undefined => exact fewer (.inl (by rw [part]; rfl))
    | place x y z alpha visible =>
      unfold State.outOfPlaces at places
      unfold State.depthTaken at depths
      rw [part] at places depths
      refine placementsLawful_of_placed (n := n) (x := placementOf x y z alpha visible) h (by rw [now, setLayer_placements, part]; rfl)
        (fun m other => by rw [others m other]) (fun unplaced => ?_) fun m y other at_m => ?_
      · rw [unplaced] at places
        simpa using places
      · have taken := List.any_eq_false.1 depths m (List.mem_finRange m)
        rw [at_m] at taken
        simpa [other, placementOf] using taken

/-! ### Layer commands (R76, R78, R81 to R83, R90, R92) -/

section
variable {s : State} (h : PacingLawful s)
include h

theorem execCreateLayer_pacing (b : Body CreateLayer) {t : State} (e : execCreateLayer b s = .next t) : PacingLawful t := by
  cases e
  refine requestWith_keeps pacingLawful_quiet (fun f t ht => ?_) b h
  split
  · exact ht
  · rename_i c _
    split
    · exact ht
    · rename_i allowed
      split
      · exact ht
      · exact ht
      · refine ⟨ht.ring, ht.loads, ht.unused, fun d now => ?_, ht.placed⟩
        cases now
        by_contra used
        exact allowed (.inl used)

theorem execLayerRunCleared_pacing {t : State} (e : execLayerRunCleared s = .next t) : PacingLawful t := by
  unfold execLayerRunCleared at e
  split at e
  · cases e
    exact h
  · rename_i c clearing
    cases e
    have unused := h.clearing c clearing
    have idle := h.unused _ unused
    have cleared : PacingLawful (s.finishClearing c) := by
      refine h.of_layer h.ring (finishClearing_layer s c) (fun p => ?_) (fun _ _ _ => .rfl) (fun _ => rfl)
        (fun d now => nomatch (show (none : Option Clearing) = some d from now))
        (fun o => placementsLawful_of_fewer (h.placed o) fun m => ?_)
      · show none = some p ↔ ∃ lines auto, s.vin p = .layer c.layer lines auto
        rw [← h.loads, idle]
      · rw [finishClearing_layer]
        split
        · right
          cases o <;> rfl
        · exact .inl rfl
    exact cleared.of_changes (answer_changes _ _ _ _)

theorem deleteLayer_pacing {n : Fin 24} (used : (s.layer n).state ≠ .unused) : PacingLawful (s.deleteLayer n) := by
  have none_placed : ∀ k, Layer.initial.placements.sel k = (s.layer n).placements.sel k ∨ Layer.initial.placements.sel k = none :=
    fun k => .inr (by revert k; decide)
  have gone : PacingLawful (State.putLayer (match (s.layer n).vinLoad with
      | some p => s.putVin p .ignored
      | none => s) n .initial) := by
    cases load : (s.layer n).vinLoad with
    | some p =>
      obtain ⟨lines, auto, loading⟩ := (h.loads n p).1 load
      exact h.unload loading (f := .ignored) nofun nofun rfl none_placed
    | none =>
      have at_layer : ∀ m, (s.putLayer n .initial).layer m = if n = m then .initial else s.layer m := putLayer_layer _ _ _
      refine h.of_layer h.ring at_layer (fun p => ?_) (fun _ _ _ => .rfl) (fun _ => rfl) (fun c now => ⟨now, fun _ => rfl⟩)
        (fun o => placementsLawful_of_fewer (h.placed o) fun m => ?_)
      · show none = some p ↔ ∃ lines auto, s.vin p = .layer n lines auto
        rw [← h.loads, load]
      · rw [at_layer]
        split
        · subst_vars
          exact none_placed _
        · exact .inl rfl
  unfold State.deleteLayer
  dsimp only
  generalize State.putLayer _ n .initial = u at gone ⊢
  exact (gone.of_changes (freeLayer_changes u _ _)).of_changes (mapFrames_changes _ _)

theorem execDeleteLayer_pacing (b : Body Nat) {t : State} (e : execDeleteLayer b s = .next t) : PacingLawful t := by
  cases e
  refine requestWith_keeps pacingLawful_quiet (fun k t ht => withLayer_pacing ht fun n => ?_) b h
  split
  · exact ht
  · exact deleteLayer_pacing ht ‹_›

theorem setLayer_pacing {n : Fin 24} {f : SetLayer} (allowed : s.setLayerRefusal n f = none) : PacingLawful (s.setLayer n f) := by
  let l : Layer := { s.layer n with
    kind := (SetLayer.kindAfter f (s.layer n).kind).getD (s.layer n).kind
    permitted := f.permitted.getD (s.layer n).permitted
    placements := SetLayer.placements f (s.layer n).placements }
  have at_layer : ∀ m, (s.putLayer n l).layer m = if n = m then l else s.layer m := putLayer_layer _ _ _
  have stored : PacingLawful (s.putLayer n l) :=
    h.of_layer h.ring at_layer (h.loads n) (fun _ _ _ => .rfl) (h.unused n) (fun c now => ⟨now, by rintro rfl; exact h.clearing c now⟩)
      fun o => setLayer_placed allowed (h.placed o) (by rw [at_layer, if_pos rfl]) fun m other => by rw [at_layer, if_neg (Ne.symm other)]
  exact stored.of_kept (settleFlips_kept _)

theorem execSetLayer_pacing (b : Body SetLayer) {t : State} (e : execSetLayer b s = .next t) : PacingLawful t := by
  cases e
  refine requestWith_keeps pacingLawful_quiet (fun f t ht => withLayer_pacing ht fun n => ?_) b h
  split
  · exact ht
  · split
    · exact ht
    · split
      · exact ht
      · rename_i allowed
        dsimp only
        exact setLayer_pacing ht allowed

omit h in
theorem loadBlock_kept (s : State) (n : Fin 24) (offset : Nat) (data : List Byte) : PortsKept s (s.loadBlock n offset data) := by
  unfold State.loadBlock
  dsimp only
  generalize s.mem.write _ _ = m
  have put : PortsKept s (State.putLayer { s with mem := m } n { s.layer n with mark := raiseMark (s.layer n).mark offset data.length }) :=
    (putLayer_kept (s := { s with mem := m }) (n := n)
      (l := { s.layer n with mark := raiseMark (s.layer n).mark offset data.length }) rfl rfl .rfl).after rfl rfl rfl rfl
  exact .ite ((put.trans (report_kept _ _)).trans (repair_kept _ _ _)) put

theorem execLoadBlock_pacing (b : Body LoadBlock) {t : State} (e : execLoadBlock b s = .next t) : PacingLawful t := by
  cases e
  refine requestWith_keeps pacingLawful_quiet (fun f t ht => withLayer_pacing ht fun n => ?_) b h
  dsimp only
  repeat' split
  all_goals first | exact ht | exact ht.of_kept (loadBlock_kept t n _ _)

theorem execPresent_pacing (b : Body Nat) {t : State} (e : execPresent b s = .next t) : PacingLawful t := by
  cases e
  refine requestWith_keeps pacingLawful_quiet (fun k t ht => withLayer_pacing ht fun n => ?_) b h
  dsimp only
  split
  · exact ht
  · split
    · exact ht
    · exact ht.of_kept (requestFlip_kept _ _)

omit h in
theorem designate_kept (s : State) (c : Card) (n : Option (Fin 24)) : PortsKept s (s.designate c n) :=
  (settleFlips_kept _).after rfl rfl rfl rfl

theorem execSetCard_pacing (b : Body SetCard) {t : State} (e : execSetCard b s = .next t) : PacingLawful t := by
  cases e
  refine requestWith_keeps pacingLawful_quiet (fun f t ht => ?_) b h
  split
  · exact ht
  · dsimp only
    exact ht.of_kept (designate_kept _ _ _)
  · refine withLayer_pacing ht fun n => ?_
    split
    · exact ht
    · dsimp only
      exact ht.of_kept (designate_kept _ _ _)

end

end Sys2Proof.Machine
end

section
/-! PROOFS. Every step keeps the frame rings, the VIN ports' loads and the placements lawful: requests that change views, start-up,
and every command and idle step together (R50, R62, R77, R85). -/

namespace Sys2Proof.Machine

set_option Elab.async false

open Sys2Proof

/-! ### Requests that reach the ports through views alone -/

section
variable {s : State} (h : PacingLawful s)
include h

theorem requestWith_pacing {α : Type} {code : Byte} {block : α → State → State × Reply}
    (kept : ∀ f t, PortsKept t (block f t).1) (b : Body α) : PacingLawful (requestWith code b block s) :=
  requestWith_keeps pacingLawful_quiet (fun f t ht => ht.of_kept (kept f t)) b h

theorem execSetRule_pacing (b : Body SetRule) {t : State} (e : execSetRule b s = .next t) : PacingLawful t := by
  cases e
  refine requestWith_pacing h (fun f t => ?_) b
  split
  · exact .refl t
  · split
    · exact .refl t
    · exact storeRule_kept _ _ _

theorem execClearRule_pacing (b : Body Nat) {t : State} (e : execClearRule b s = .next t) : PacingLawful t := by
  cases e
  refine requestWith_pacing h (fun k t => ?_) b
  split
  · exact .refl t
  · exact emptyRule_kept _ _

theorem execSetReverseSource_pacing (b : Body SetReverseSource) {t : State} (e : execSetReverseSource b s = .next t) :
    PacingLawful t := by
  cases e
  refine requestWith_pacing h (fun f t => ?_) b
  split
  · exact .refl t
  · exact takeReverseSource_kept _ _ _

theorem execSetOutput_pacing (b : Body SetOutput) {t : State} (e : execSetOutput b s = .next t) : PacingLawful t := by
  cases e
  refine requestWith_pacing h (fun f t => ?_) b
  unfold withOutput
  split
  · exact .refl t
  · dsimp only
    split
    · exact .refl t
    · split
      · exact .refl t
      · split
        · exact .refl t
        · exact setOutput_kept _ _ _ _

theorem execShowCamera_pacing (b : Body Members) {t : State} (e : execShowCamera b s = .next t) : PacingLawful t := by
  cases e
  refine requestWith_pacing h (fun f t => ?_) b
  split
  · exact .refl t
  · split
    · exact .refl t
    · exact .foldl (fun u o => showOn_kept u o f.set) _ _

theorem execReleaseView_pacing (b : Body Members) {t : State} (e : execReleaseView b s = .next t) : PacingLawful t := by
  cases e
  refine requestWith_pacing h (fun f t => ?_) b
  split
  · exact .refl t
  · exact .foldl (fun u o => releaseOn_kept u o f.set) _ _

theorem execSetViewPolicy_pacing (b : Body SetViewPolicy) {t : State} (e : execSetViewPolicy b s = .next t) : PacingLawful t := by
  cases e
  refine requestWith_pacing h (fun f t => ?_) b
  split
  · exact .refl t
  · exact setPolicy_kept _ _

end

/-! ### Start-up and the request list -/

/-- A start-up begins with both streams CLOSED, both ports IDLE and every layer UNUSED (R72, R94). -/
theorem startUp_pacing (s : State) (cause : ResetCause) : PacingLawful (s.startUp cause) := by
  have stream : ∀ i, (s.startUp cause).stream i = .initial := by
    rintro (_ | _) <;> rfl
  have vin : ∀ i, (s.startUp cause).vin i = .idle := by
    rintro (_ | _) <;> rfl
  have layer : ∀ n, (s.startUp cause).layer n = .initial := fun n =>
    (show LayerStore.initial.layers.sel n = .initial by revert n; decide)
  have unplaced : ∀ k, Layer.initial.placements.sel k = none := by decide
  refine ⟨fun i => ?_, fun n p => ?_, fun n _ => by rw [layer]; rfl, fun c now => ?_, fun o => ?_⟩
  · rw [stream, vin]
    exact ringLaw_fresh (n := 0) rfl rfl (fun _ => rfl) nofun
  · rw [layer, vin]
    exact ⟨nofun, nofun⟩
  · exact nomatch (show (none : Option Clearing) = some c from now)
  · unfold State.placementsLawful State.placedOn
    simp [layer, unplaced]

theorem takeGood_pacing {s : State} (h : PacingLawful s) (tag code : Byte) (body : List Byte) : PacingLawful (s.takeGood tag code body) := by
  unfold State.takeGood
  repeat' split
  all_goals first | exact h.of_changes (enlist_changes _ _ _ _) | exact startUp_pacing _ _

theorem takeFrame_pacing {s : State} (h : PacingLawful s) (frame : List Byte) : PacingLawful (s.takeFrame frame) := by
  unfold State.takeFrame
  split
  · exact h
  · exact h.of_changes (enlist_changes _ _ _ _)
  · exact takeGood_pacing h _ _ _

/-! ### Every step -/

theorem endSelfTest_kept (s : State) (b : Bool) : PortsKept s (s.endSelfTest b) := by
  unfold State.endSelfTest
  split
  · exact .refl s
  · rename_i x _
    dsimp only
    have handed : PortsKept s (State.handDue { s with mem := s.mem.patternPages x.pages x.late } .selfTest) :=
      (handDue_kept _ _).after rfl rfl rfl rfl
    generalize State.handDue _ Reader.selfTest = u at handed ⊢
    exact handed.trans (.of_same rfl rfl rfl rfl)

theorem paceTimerTick_kept (s : State) : PortsKept s (streamIds.foldl State.timerPace s) :=
  .foldl (fun t i => .ite (pace_kept t i _) (.refl t)) _ s

/-- Every command keeps the laws: those whose footprint leaves rings, ports and layers out, by their frames; the others by what
they make of them. -/
theorem exec_pacing (c : Instr) {s t : State} (h : PacingLawful s) (e : exec c s = .next t) : PacingLawful t := by
  have quiet : ([Piece.rings, .vin, .layers, .clearing].all fun p => !(footprint c).contains p) = true → PacingLawful t := by
    obtain ⟨u, eu, frame⟩ := exec_changes c s
    obtain rfl : u = t := Host.Outcome.next.inj (eu.symm.trans e)
    exact fun out => h.of_changes frame out
  cases c with
  | powerOn => cases e; exact startUp_pacing s _
  | resetLine => cases e; exact startUp_pacing s _
  | enterRunning => cases e; exact h.of_kept (enterRunning_kept s)
  | resetPart b => cases e; exact frameEnds_keeps pacingLawful_quiet (fun t ht => takeGood_pacing ht _ _ _) h
  | requestTaken f => cases e; exact frameEnds_keeps pacingLawful_quiet (fun t ht => takeFrame_pacing ht _) h
  | transactionEnd r =>
    change execTransactionEnd r s = _ at e
    unfold execTransactionEnd at e
    split at e <;> cases e
    · split
      · exact h.of_changes (setTransaction_changes _ _)
      · exact takeFrame_pacing (h.of_changes (setTransaction_changes _ _)) _
    · exact takeFrame_pacing h _
  | setRule b => exact execSetRule_pacing h b e
  | clearRule b => exact execClearRule_pacing h b e
  | setReverseSource b => exact execSetReverseSource_pacing h b e
  | openStream b => exact execOpenStream_pacing h b e
  | closeStream b => exact execCloseStream_pacing h b e
  | setClock b => exact execSetClock_pacing h b e
  | runStream b => exact execRunStream_pacing h b e
  | pauseStream b => exact execPauseStream_pacing h b e
  | flushStream b => exact execFlushStream_pacing h b e
  | setStream b => exact execSetStream_pacing h b e
  | createLayer b => exact execCreateLayer_pacing h b e
  | layerRunCleared => exact execLayerRunCleared_pacing h e
  | deleteLayer b => exact execDeleteLayer_pacing h b e
  | setLayer b => exact execSetLayer_pacing h b e
  | loadBlock b => exact execLoadBlock_pacing h b e
  | present b => exact execPresent_pacing h b e
  | setCard b => exact execSetCard_pacing h b e
  | setOutput b => exact execSetOutput_pacing h b e
  | showCamera b => exact execShowCamera_pacing h b e
  | releaseView b => exact execReleaseView_pacing h b e
  | setViewPolicy b => exact execSetViewPolicy_pacing h b e
  | selfTestEnd b => cases e; exact h.of_kept (endSelfTest_kept s b)
  | busFrame r => cases e; exact h.of_kept (receive_kept s r)
  | signalHeld i => cases e; exact h.of_kept (signalHeld_kept s i)
  | signalLost i => cases e; exact h.of_kept (signalLost_kept s i)
  | debounceExpiry => cases e; exact h.of_kept (debounced_kept s)
  | lingerTimerExpiry o => cases e; exact h.of_kept (lingerDue_kept s o)
  | refreshEvent o => cases e; exact h.of_kept (refresh_kept s o)
  | paceTimerTick => cases e; exact h.of_kept (.ite (paceTimerTick_kept s) (.refl s))
  | vinFrameStart p => exact execVinFrameStart_pacing h p e
  | vinLine0Complete p line => exact execVinLine0Complete_pacing h p line e
  | vinPictureLine p line => exact execVinPictureLine_pacing h p line e
  | vinFrameEnd p => cases e; exact endVinFrame_pacing h p false
  | outputSamplePeriod => cases e; exact (h.of_kept (handDue_kept s .chime)).of_changes (samplePeriod_rest _)
  | _ => exact quiet rfl

/-- A stream's clock is all that time changes in its record (R57, log 1). -/
theorem tick_kept (s : State) : PortsKept s s.tick := by
  have clocked : ∀ r : Stream, r.tick.ring = r.ring ∧ r.tick.slotCount = r.slotCount ∧ r.tick.lastStamp = r.lastStamp ∧
      r.tick.state = r.state := by
    intro r
    unfold Stream.tick
    split
    · dsimp only
      split <;> exact ⟨rfl, rfl, rfl, rfl⟩
    · exact ⟨rfl, rfl, rfl, rfl⟩
  refine ⟨fun i f law => ?_, rfl, fun n => ⟨rfl, rfl, .rfl⟩, rfl⟩
  have ticked : s.tick.stream i = (s.stream i).tick := by cases i <;> simp [State.tick, State.stream, Table.sel_upd, streamNo]
  obtain ⟨ring, count, last, state⟩ := clocked (s.stream i)
  rw [ticked]
  exact law.of_same ring count last fun closed => state ▸ closed

theorem idle_kept (s : State) : PortsKept s s.idle := by
  unfold State.idle
  split
  · exact tick_kept s
  · have ticked : PortsKept s { s.tick with free := s.free + 1 } := (tick_kept s).trans (.of_same rfl rfl rfl rfl)
    refine .ite ?_ ticked
    unfold State.endStep
    split
    · exact ticked.trans ((doStep_kept _ _).after rfl rfl rfl rfl)
    · exact ticked

/-- Settles O57: the laws, said slot by slot and layer by layer, are kept by idle time and by every command. -/
theorem ringsPortsAndPlacementsStayLawful : Obligations.RingsPortsAndPlacementsStayLawful := by
  intro s t lawful e
  have h : PacingLawful s := pacingLawful_iff.2 lawful
  refine pacingLawful_iff.1 ?_
  unfold step at e
  split at e
  · cases e
    exact h.of_kept (idle_kept s)
  · rename_i c rest _
    exact exec_pacing c (s := { s with pending := rest }) (h.of_kept (.of_same rfl rfl rfl rfl)) e

end Sys2Proof.Machine
end

section
/-! PROOFS. Which streams a pace timer tick and a refresh event pace, and what a pace event makes of one (R64 to R68). -/

namespace Sys2Proof.Machine

set_option Elab.async false

open Sys2Proof

/-! ### What a pace event makes of its stream -/

/-- The starvation test of a pace event (R66). -/
def Stream.starving (r : Stream) (x : Choice) : Prop :=
  x.starved = true ∧ r.endMark = false ∧ ∀ k stamp, showingSlot x.ring = some (k, stamp) → stamp + 2000 < r.clock

theorem starving_iff {r : Stream} {x : Choice} :
    (x.starved && !r.endMark && starves r.clock x.ring) = true ↔ r.starving x := by
  unfold Stream.starving starves
  rw [Bool.and_eq_true, Bool.and_eq_true, Bool.not_eq_true', and_assoc]
  cases showingSlot x.ring with
  | none => simp
  | some p =>
    obtain ⟨k, stamp⟩ := p
    simp

/-- The reports of a pace event before the starvation test: late drops (R68). -/
theorem tookFrame_stream (s : State) (i : StreamId) (x : Choice) (j : StreamId) :
    (s.tookFrame i x).stream j = if i = j then (s.stream i).took x else s.stream j := by
  unfold State.tookFrame
  split
  · exact putStream_stream _ _ _ _
  · rw [report_stream]
    exact putStream_stream _ _ _ _

theorem tookFrame_tells (s : State) (i : StreamId) (x : Choice) (late : x.late ≠ 0) : (6, (streamNo i).1) ∈ (s.tookFrame i x).noticeKeys := by
  unfold State.tookFrame
  rw [if_neg late, mem_noticeKeys_report]
  exact .inr rfl

theorem pace_stream_ne (s : State) {i j : StreamId} (e : Nat) (other : j ≠ i) : (s.pace i e).stream j = s.stream j := by
  by_cases running : (s.stream i).state = .running
  · rw [pace_eq running]
    dsimp only
    split
    · rw [setStreamState_stream, if_neg (Ne.symm other), tookFrame_stream, if_neg (Ne.symm other)]
    · rw [tookFrame_stream, if_neg (Ne.symm other)]
  · rw [pace_idle running]

/-- A pace event does to a RUNNING stream what R65, R66 and R68 say. -/
theorem pace_paced {s : State} {i : StreamId} (running : (s.stream i).state = .running) (e : Nat) :
    Paced (s.pace i e) i (s.stream i) (s.shownTo i) e := by
  rw [pace_eq running]
  dsimp only
  generalize choice : (s.stream i).choice (s.shownTo i) e = x
  have took : (s.tookFrame i x).stream i = (s.stream i).took x := (tookFrame_stream s i x i).trans (if_pos rfl)
  have late := tookFrame_tells s i x
  unfold Stream.choice at choice
  unfold Paced
  dsimp only
  rw [choice]
  generalize s.tookFrame i x = t at took late
  by_cases starving : (s.stream i).starving x
  · rw [if_pos (starving_iff.2 starving)]
    have record : (t.setStreamState i .starved).stream i = { (s.stream i).took x with state := .starved, clockRunning := false } := by
      rw [setStreamState_stream, if_pos rfl, took]
      rfl
    have told : ∀ k, k ∈ t.noticeKeys ∨ k = (5, (streamNo i).1) → k ∈ (t.setStreamState i .starved).noticeKeys := fun k queued => by
      unfold State.setStreamState
      exact mem_noticeKeys_report.2 queued
    rw [record]
    exact ⟨fun _ => ⟨rfl, rfl⟩, fun fed => absurd starving fed, rfl, fun dropped => told _ (.inl (late dropped)), fun _ => told _ (.inr rfl)⟩
  · rw [if_neg (fun now => starving (starving_iff.1 now)), took]
    exact ⟨fun now => absurd now starving, fun _ => ⟨running, rfl⟩, rfl, late, fun now => absurd now starving⟩

/-- What a pace event made of a stream stands after steps that leave the stream's record and take back no notice. -/
theorem Paced.later {t u : State} {i : StreamId} {r : Stream} {holds : OutputSet} {e : Nat} (h : Paced t i r holds e)
    (stream : u.stream i = t.stream i) (told : ∀ k, k ∈ t.noticeKeys → k ∈ u.noticeKeys) : Paced u i r holds e := by
  obtain ⟨starved, fed, record, late, reported⟩ := h
  unfold Paced
  dsimp only
  rw [stream]
  exact ⟨starved, fed, record, fun n => told _ (late n), fun n => told _ (reported n)⟩

theorem pace_told (s : State) (i : StreamId) (e : Nat) {k : Nat × Nat} (queued : k ∈ s.noticeKeys) : k ∈ (s.pace i e).noticeKeys :=
  (pace_tells s i e).has queued

/-! ### The pace timer (R64) -/

section
variable (s : State) (i : StreamId)

theorem pace_out (e : Nat) (o : Output) : (s.pace i e).out o = s.out o := out_of_changes (pace_changes s i e) o

theorem timerPace_out (o : Output) : (s.timerPace i).out o = s.out o := by
  unfold State.timerPace
  split
  · exact pace_out s i _ o
  · rfl

theorem lead_of_outs {t : State} (outs : ∀ o, t.out o = s.out o) : t.lead i = s.lead i := by
  unfold State.lead
  simp only [outs]

theorem shownTo_of_outs {t : State} (outs : ∀ o, t.out o = s.out o) (stream : t.stream i = s.stream i) : t.shownTo i = s.shownTo i := by
  unfold State.shownTo State.scanning
  simp only [outs, stream]

theorem timerPace_stream_ne {j : StreamId} (other : j ≠ i) : (s.timerPace i).stream j = s.stream j := by
  unfold State.timerPace
  split
  · exact pace_stream_ne s _ other
  · rfl

theorem timerPace_told {k : Nat × Nat} (queued : k ∈ s.noticeKeys) : k ∈ (s.timerPace i).noticeKeys := by
  unfold State.timerPace
  split
  · exact pace_told s i _ queued
  · exact queued

theorem timerPace_idle (other : (s.stream i).state ≠ .running ∨ (s.lead i).isSome = true) : s.timerPace i = s := by
  unfold State.timerPace
  split
  · rename_i free
    refine pace_idle (other.resolve_right fun led => ?_) _
    rw [Option.isNone_iff_eq_none.1 free] at led
    exact nomatch led
  · rfl

theorem timerPace_paced (running : (s.stream i).state = .running) (free : s.lead i = none) :
    Paced (s.timerPace i) i (s.stream i) (s.shownTo i) 166 := by
  unfold State.timerPace
  rw [if_pos (by rw [free]; rfl)]
  exact pace_paced running _

/-- A tick of the pace timer, which paces stream A first: each stream is paced, or not, as it stands before the tick. -/
theorem paceTick_streams :
    ((s.stream i).state ≠ .running ∨ (s.lead i).isSome = true → (streamIds.foldl State.timerPace s).stream i = s.stream i) ∧
    ((s.stream i).state = .running → s.lead i = none →
      Paced (streamIds.foldl State.timerPace s) i (s.stream i) (s.shownTo i) 166) := by
  show (_ → ((s.timerPace .a).timerPace .b).stream i = _) ∧ (_ → _ → Paced ((s.timerPace .a).timerPace .b) i _ _ _)
  cases i with
  | a =>
    have after : ((s.timerPace .a).timerPace .b).stream .a = (s.timerPace .a).stream .a := timerPace_stream_ne _ _ nofun
    exact ⟨fun other => after.trans (by rw [timerPace_idle s .a other]),
      fun running free => (timerPace_paced s .a running free).later after fun _ => timerPace_told _ _⟩
  | b =>
    have outs := timerPace_out s .a
    have stream : (s.timerPace .a).stream .b = s.stream .b := timerPace_stream_ne _ _ nofun
    have lead := lead_of_outs s .b outs
    have shown := shownTo_of_outs s .b outs stream
    refine ⟨fun other => ?_, fun running free => ?_⟩
    · rw [timerPace_idle _ .b (by rwa [stream, lead]), stream]
    · have paced := timerPace_paced (s.timerPace .a) .b (by rwa [stream]) (by rwa [lead])
      rwa [stream, shown] at paced

end

/-! ### Refresh events (R64, R67) -/

section
variable (s : State) (o : Output)

/-- The stream an output leads, after its frame has ended (R64). -/
theorem endFrame_ledBy (i : StreamId) : (s.endFrame o).ledBy o = some i ↔ s.lead i = some o := by
  have lead : ∀ i, (s.endFrame o).lead i = s.lead i := by
    intro i
    unfold State.lead
    simp only [endFrame_out]
  unfold State.ledBy
  rw [(endFrame_out s o o).2]
  constructor
  · intro led
    split at led
    · split at led
      · cases led
        rename_i leads
        rwa [lead] at leads
      · exact nomatch led
    · exact nomatch led
  · intro leads
    have source : (s.out o).source = some i := by
      have picked := List.find?_some leads
      simp at picked
      exact picked.2
    rw [source]
    dsimp only
    rw [lead, if_pos leads]

theorem endFrame_timing {s : State} {o : Output} (normal : (s.out o).owner = .normal) :
    ((s.endFrame o).out o).activeTiming = (s.out o).hostTiming := by
  unfold State.endFrame
  dsimp only
  rw [((releaseScan_changes _ o).at .outRun (by decide) o).1, putOut_out_same, if_pos normal]

theorem endFrame_shownTo (i : StreamId) (p : Output) : ((s.endFrame o).shownTo i).has p =
    (decide (p ≠ o) && (match showingSlot ((s.stream i).ring.map (Slot.release o)) with
      | some (k, _) => (s.scanning i k).has p
      | none => false)) := by
  have ring : ((s.endFrame o).stream i).ring = (s.stream i).ring.map (Slot.release o) := by rw [endFrame_stream]
  rw [← ring]
  unfold State.shownTo
  cases showingSlot ((s.endFrame o).stream i).ring with
  | some x => exact endFrame_scanning s o i x.1 p
  | none => cases p <;> simp [OutputSet.none, OutputSet.has]

/-- What follows the pace of a refresh event leaves the streams' records and takes back no notice. -/
theorem refresh_quiet {s : State} {o : Output} (on : (s.out o).owner ≠ .off) (quiet : QuietAt s o) :
    s.refresh o = finishRefresh (match (s.endFrame o).ledBy o with
      | some i => (s.endFrame o).pace i (leadWindow ((s.endFrame o).out o).activeTiming.refresh)
      | none => s.endFrame o) o := by
  have still : QuietAt (s.endFrame o) o := quiet.fewer (.of_changes (endFrame_changes s o))
  have paced : (s.endFrame o).handAndPace o = match (s.endFrame o).ledBy o with
      | some i => (s.endFrame o).pace i (leadWindow ((s.endFrame o).out o).activeTiming.refresh)
      | none => s.endFrame o := by
    unfold State.handAndPace
    rw [still.handDue]
    split
    · rename_i led
      rw [led]
    · rename_i i led
      rw [led]
      dsimp only
      rw [if_neg]
      unfold State.clashes
      rw [Bool.and_eq_true, not_and]
      intro _ clash
      obtain ⟨c, held, reads⟩ := List.any_eq_true.1 clash
      rw [Bool.and_eq_true, decide_eq_true_eq] at reads
      exact still c held reads.1
  unfold State.refresh
  rw [if_neg on, paced]
  rfl

theorem finishRefresh_stream (t : State) (i : StreamId) : (finishRefresh t o).stream i = t.stream i :=
  congrArg (·.sel (streamNo i)) ((finishRefresh_changes t o).at .rings)

/-- A stream's ring and record after a refresh event at which nothing is handed over (R64, R67). -/
theorem refresh_streams {s : State} {o : Output} (on : (s.out o).owner ≠ .off) (quiet : QuietAt s o) (i : StreamId) :
    let r := { s.stream i with ring := (s.stream i).ring.map (Slot.release o) }
    (r.state ≠ .running ∨ s.lead i ≠ some o → (s.refresh o).stream i = r) ∧
    (r.state = .running → s.lead i = some o →
      Paced (s.refresh o) i r ((s.endFrame o).shownTo i) (if (s.out o).hostTiming.refresh = 50 then 100 else 83)) := by
  have record := endFrame_stream s o i
  dsimp only
  rw [← record, refresh_quiet on quiet]
  have runs : ((s.endFrame o).stream i).state = (s.stream i).state := by rw [record]
  constructor
  · intro other
    rw [finishRefresh_stream]
    cases led : (s.endFrame o).ledBy o with
    | none => rfl
    | some j =>
      dsimp only
      by_cases here : i = j
      · subst here
        have stopped := other.resolve_right (not_not_intro ((endFrame_ledBy s o i).1 led))
        rw [pace_idle (by rwa [runs])]
      · exact pace_stream_ne _ _ here
  · intro running leads
    have normal : (s.out o).owner = .normal := by
      have picked := List.find?_some leads
      simp at picked
      exact picked.1
    rw [(endFrame_ledBy s o i).2 leads]
    dsimp only
    rw [endFrame_timing normal]
    refine (pace_paced (by rwa [runs]) (leadWindow (s.out o).hostTiming.refresh)).later (finishRefresh_stream o _ i) fun k => ?_
    exact finishRefresh_noticeKeys o

end

/-- Settles O29. -/
theorem paceTimerPacesStreamsWithoutALead : Obligations.PaceTimerPacesStreamsWithoutALead := by
  refine ⟨fun s stopped => ?_, fun s started => ?_, fun s o on quiet => ?_⟩
  · show execPaceTimerTick s = _
    unfold execPaceTimerTick
    rw [stopped]
    rfl
  · obtain ⟨t, made, changed⟩ := exec_changes .paceTimerTick s
    refine ⟨t, made, changed, ?_⟩
    have ticked : t = streamIds.foldl State.timerPace s := by
      have made : execPaceTimerTick s = .next t := made
      unfold execPaceTimerTick at made
      rw [if_pos started] at made
      exact (Host.Outcome.next.inj made).symm
    rw [ticked]
    exact paceTick_streams s
  · obtain ⟨t, made, changed⟩ := exec_changes (.refreshEvent o) s
    refine ⟨t, made, changed, ?_⟩
    obtain rfl : s.refresh o = t := Host.Outcome.next.inj made
    intro i
    obtain ⟨unpaced, paced⟩ := refresh_streams on quiet i
    exact ⟨unpaced, fun running leads => ⟨_, endFrame_shownTo s o i, paced running leads⟩⟩

end Sys2Proof.Machine
end

section
/-! PROOFS. Picture frames on a VIN port, from the tag line to the frame's end (R60 to R63). -/

namespace Sys2Proof.Machine

set_option Elab.async false

open Sys2Proof

/-! ### Tag lines (R60, R61) -/

theorem readTag_bad (line : List Byte) : readTag line = .bad ↔ (line.length < 32 ∨ line.getD 0 0 ≠ 0xC3#8 ∨ line.getD 1 0 ≠ 0x5A#8 ∨
    (check (line.take 16)).toNat ≠ (line.getD 16 0).toNat * 256 + (line.getD 17 0).toNat ∨
    (line.getD 2 0 ≠ 1#8 ∧ line.getD 2 0 ≠ 2#8)) := by
  unfold readTag
  have second : u16At line 16 = (line.getD 16 0).toNat * 256 + (line.getD 17 0).toNat := rfl
  have at_byte : ∀ i, byteAt line i = line.getD i 0 := fun _ => rfl
  simp only [second, at_byte]
  split
  · rename_i wrong
    refine iff_of_true rfl ?_
    rcases wrong with short | mark | mark' | sum
    · exact .inl short
    · exact .inr (.inl mark)
    · exact .inr (.inr (.inl mark'))
    · exact .inr (.inr (.inr (.inl sum)))
  · rename_i good
    simp only [not_or] at good
    obtain ⟨long, mark, mark', sum⟩ := good
    simp only [long, mark, mark', sum, false_or]
    by_cases picture : line.getD 2 0 = 1#8
    · rw [if_pos picture]
      exact iff_of_false nofun fun other => other.1 picture
    · rw [if_neg picture]
      by_cases layer : line.getD 2 0 = 2#8
      · rw [if_pos layer]
        exact iff_of_false nofun fun other => other.2 layer
      · rw [if_neg layer]
        exact iff_of_true rfl ⟨picture, layer⟩

/-- The first EMPTY unheld slot in ring order is the one taken (R61). -/
theorem usableSlot_eq {ring : List Slot} {k n d : Nat} (less : d < n) (free : ring[(k + d) % ring.length]? = some Slot.free)
    (before : ∀ e, e < d → ring[(k + e) % ring.length]? ≠ some Slot.free) : usableSlot ring k n = some ((k + d) % ring.length) := by
  cases found : usableSlot ring k n with
  | none => exact absurd free (usableSlot_none found d less)
  | some j =>
    obtain ⟨empty, e, -, rfl, earlier⟩ := usableSlot_some found
    rcases Nat.lt_trichotomy d e with lt | rfl | gt
    · exact absurd free (earlier d lt)
    · rfl
    · exact absurd empty (before e gt)

theorem usableSlot_eq_none {ring : List Slot} {k n : Nat} (full : ∀ d, d < n → ring[(k + d) % ring.length]? ≠ some Slot.free) :
    usableSlot ring k n = none := by
  cases found : usableSlot ring k n with
  | none => rfl
  | some j =>
    obtain ⟨empty, d, less, rfl, -⟩ := usableSlot_some found
    exact absurd empty (full d less)

section
variable {s : State} {p : StreamId}

theorem line0_eq {stale : Bool} (started : s.vin p = .started stale) (line : List Byte) :
    exec (.vinLine0Complete p line) s = .next (s.readTagLine p stale line) := by
  show execVinLine0Complete p line s = _
  unfold execVinLine0Complete
  rw [started]

/-- A frame that is not for a layer is ignored while its stream is CLOSED, or was when the frame began (R52, R60). -/
theorem readTagLine_outside {stale : Bool} {line : List Byte} (other : ∀ target w h auto, readTag line ≠ .layer target w h auto)
    (outside : stale = true ∨ (s.stream p).state = .closed) : s.readTagLine p stale line = s.putVin p .ignored := by
  have quiet : (stale || decide ((s.stream p).state = .closed)) = true := by simpa using outside
  unfold State.readTagLine State.refuseTag
  cases tagged : readTag line with
  | bad => exact if_pos quiet
  | layer target w h auto => exact absurd tagged (other target w h auto)
  | picture target w h tag => exact if_pos quiet

/-- A bad tag, or a picture of another target or size, on the port of an open stream (R60). -/
theorem readTagLine_bad {stale : Bool} {line : List Byte}
    (bad : readTag line = .bad ∨ ∃ target w h tag, readTag line = .picture target w h tag ∧
      ¬ (target = (streamNo p).1 ∧ w = (s.stream p).width ∧ h = (s.stream p).height))
    (inside : ¬ (stale = true ∨ (s.stream p).state = .closed)) : s.readTagLine p stale line = s.badTag p := by
  have heard : ¬ (stale || decide ((s.stream p).state = .closed)) = true := by simpa using inside
  unfold State.readTagLine State.refuseTag
  rcases bad with tagged | ⟨target, w, h, tag, tagged, other⟩
  · rw [tagged]
    exact if_neg heard
  · rw [tagged]
    dsimp only
    rw [if_neg heard, if_neg (by rwa [streamOf_eq_some, eq_comm (a := (streamNo p).1)])]

theorem readTagLine_good {line : List Byte} {tag : FrameTag}
    (tagged : readTag line = .picture (streamNo p).1 (s.stream p).width (s.stream p).height tag) (opened : (s.stream p).state ≠ .closed) :
    s.readTagLine p false line = s.selectSlot p tag := by
  unfold State.readTagLine
  rw [tagged]
  dsimp only
  rw [if_neg (by simpa using opened), if_pos ⟨streamOf_eq_some.2 rfl, rfl, rfl⟩]

/-! ### Ends of frames (R62, R63) -/

theorem shortPicture_noted (k : Nat) : Noted s (s.shortPicture p k) (.streamTrouble p { shortFrame := true }) := rfl

theorem completePicture_noted {k : Nat} {tag : FrameTag} (late : outOfOrder tag (s.stream p).lastStamp = true) :
    Noted s (s.completePicture p k tag) (.streamTrouble p { lateDrop := true }) := by
  unfold Noted State.completePicture
  dsimp only
  rw [if_pos late]
  rfl

theorem outOfOrder_iff {tag : FrameTag} {last : Option Nat} :
    outOfOrder tag last = true ↔ ¬ (tag.discontinuity = true ∨ ∀ v, last = some v → v < tag.stamp) := by
  unfold outOfOrder
  cases last <;> cases tag.discontinuity <;> simp

theorem sequenceGap_iff {tag : FrameTag} {last : Option Nat} :
    sequenceGap tag last = true ↔ tag.discontinuity = false ∧ ∃ q, last = some q ∧ tag.sequence ≠ (q + 1) % 65536 := by
  unfold sequenceGap
  cases last <;> cases tag.discontinuity <;> simp

/-- What the end of the frame in slot `k` makes of its stream, as R62 and R63 say, in a state that follows. -/
theorem endPicture_outcome {k lines : Nat} {tag : FrameTag} {short : Bool} (at_k : (s.stream p).ring[k]? = some (.filling tag lines))
    {t : State} (stream : t.stream p = (s.endPicture p k short).stream p)
    (notices : t.link.notices = (s.endPicture p k short).link.notices) :
    let r := s.stream p
    let whole := short = false ∧ r.height ≤ lines
    let inOrder := tag.discontinuity = true ∨ ∀ v, r.lastStamp = some v → v < tag.stamp
    let gap := tag.discontinuity = false ∧ ∃ q, r.lastSequence = some q ∧ tag.sequence ≠ (q + 1) % 65536
    (¬ whole → t.stream p = r.cutShort k ∧ Noted s t (.streamTrouble p { shortFrame := true })) ∧
    (whole → ¬ inOrder → t.stream p = r.droppedLate k ∧ Noted s t (.streamTrouble p { lateDrop := true })) ∧
    (whole → inOrder → t.stream p = r.completed k tag ∧
      (gap → (t.stream p).counters = { r.counters with seqGap := satInc r.counters.seqGap }) ∧
      (¬ gap → (t.stream p).counters = r.counters)) := by
  intro r whole inOrder gap
  have record := endPicture_stream s p at_k short p
  rw [if_pos rfl] at record
  rw [record] at stream
  have made := endPicture_eq s p at_k short
  have whole_iff : (!short && decide (r.height ≤ lines)) = true ↔ whole := by simp [whole]
  refine ⟨fun cut => ?_, fun complete late => ?_, fun complete ordered => ?_⟩
  · rw [Bool.eq_false_iff.2 fun now => cut (whole_iff.1 now)] at made stream
    unfold Noted
    rw [stream, notices, made]
    exact ⟨rfl, shortPicture_noted k⟩
  · rw [whole_iff.2 complete] at made stream
    have late := outOfOrder_iff.2 late
    unfold Noted
    rw [notices, made]
    exact ⟨stream.trans (by unfold Stream.ended; rw [if_pos rfl, if_pos late]), completePicture_noted late⟩
  · rw [whole_iff.2 complete] at stream
    have stream : t.stream p = r.completed k tag :=
      stream.trans (by unfold Stream.ended; rw [if_pos rfl, if_neg fun late => outOfOrder_iff.1 late ordered])
    refine ⟨stream, fun gapped => ?_, fun even => ?_⟩
    · rw [stream]
      unfold Stream.completed
      rw [if_pos (sequenceGap_iff.2 gapped)]
    · rw [stream]
      unfold Stream.completed
      rw [if_neg fun gapped => even (sequenceGap_iff.1 gapped)]

theorem endVinFrame_picture {k : Nat} {short : Bool} (writing : s.vin p = .picture k short) (early : Bool) :
    s.endVinFrame p early = (s.putVin p .idle).endPicture p k short := by
  unfold State.endVinFrame
  dsimp only
  rw [writing]

theorem endVinFrame_quiet (picture : ∀ k short, s.vin p ≠ .picture k short) (layer : ∀ n lines auto, s.vin p ≠ .layer n lines auto)
    (early : Bool) : s.endVinFrame p early = s.putVin p .idle := by
  unfold State.endVinFrame
  dsimp only
  cases port : s.vin p with
  | picture k short => exact absurd port (picture k short)
  | layer n lines auto => exact absurd port (layer n lines auto)
  | idle | started | ignored => rfl

/-! ### The clauses of the obligation -/

theorem frameStart_waits (picture : ∀ k short, s.vin p ≠ .picture k short) (layer : ∀ n lines auto, s.vin p ≠ .layer n lines auto) :
    Makes (.vinFrameStart p) s [.vin] fun t => t.vin p = .started false ∧ ∀ q, q ≠ p → t.vin q = s.vin q := by
  refine ⟨(s.putVin p .idle).putVin p (.started false), ?_, (putVin_changes _ _ _).trans (putVin_changes _ _ _), putVin_vin_same _ _ _,
    fun q other => ?_⟩
  · show execVinFrameStart p s = _
    unfold execVinFrameStart
    rw [endVinFrame_quiet picture layer]
  · rw [putVin_vin_ne _ _ _ (Ne.symm other), putVin_vin_ne _ _ _ (Ne.symm other)]

theorem tagLine_refused {stale : Bool} (started : s.vin p = .started stale) (line : List Byte) :
    let r := s.stream p
    let outside := stale = true ∨ r.state = .closed
    let bad := readTag line = .bad ∨ ∃ target w h tag, readTag line = .picture target w h tag ∧
      ¬ (target = (streamNo p).1 ∧ w = r.width ∧ h = r.height)
    ((∀ target w h auto, readTag line ≠ .layer target w h auto) → outside → Makes (.vinLine0Complete p line) s [.vin] fun t =>
      t.vin p = .ignored ∧ ∀ q, q ≠ p → t.vin q = s.vin q) ∧
    (bad → ¬ outside → Makes (.vinLine0Complete p line) s [.rings, .vin, .notices] fun t =>
      t.vin p = .ignored ∧ t.stream p = r.tagRefused ∧
      (∀ q, q ≠ p → t.stream q = s.stream q ∧ t.vin q = s.vin q) ∧ Noted s t (.streamTrouble p { badTag := true })) := by
  have made := line0_eq started line
  refine ⟨fun other outside => ?_, fun bad inside => ?_⟩
  · exact ⟨_, made.trans (by rw [readTagLine_outside other outside]), putVin_changes _ _ _, putVin_vin_same _ _ _,
      fun q apart => putVin_vin_ne _ _ _ (Ne.symm apart)⟩
  · refine ⟨_, made.trans (by rw [readTagLine_bad bad inside]), badTag_changes s p, ?_, ?_, fun q apart => ?_, rfl⟩
    · rw [badTag_vin, if_pos rfl]
    · rw [badTag_stream, if_pos rfl]
    · rw [badTag_stream, badTag_vin, if_neg (Ne.symm apart), if_neg (Ne.symm apart)]
      exact ⟨rfl, rfl⟩

theorem tagLine_accepted {line : List Byte} {tag : FrameTag} (started : s.vin p = .started false)
    (tagged : readTag line = .picture (streamNo p).1 (s.stream p).width (s.stream p).height tag) (opened : (s.stream p).state ≠ .closed) :
    let r := s.stream p
    (∀ d, d < r.ring.length → r.ring[(r.lastWritten + 1 + d) % r.ring.length]? = some Slot.free →
      (∀ e, e < d → r.ring[(r.lastWritten + 1 + e) % r.ring.length]? ≠ some Slot.free) →
      Makes (.vinLine0Complete p line) s [.rings, .vin] fun t =>
        t.vin p = .picture ((r.lastWritten + 1 + d) % r.ring.length) false ∧
        t.stream p = r.begun ((r.lastWritten + 1 + d) % r.ring.length) tag ∧
        ∀ q, q ≠ p → t.stream q = s.stream q ∧ t.vin q = s.vin q) ∧
    ((∀ d, d < r.ring.length → r.ring[(r.lastWritten + 1 + d) % r.ring.length]? ≠ some Slot.free) →
      Makes (.vinLine0Complete p line) s [.rings, .vin, .notices] fun t =>
        t.vin p = .ignored ∧ t.stream p = r.overran ∧
        (∀ q, q ≠ p → t.stream q = s.stream q ∧ t.vin q = s.vin q) ∧ Noted s t (.streamTrouble p { overrun := true })) := by
  have made := (line0_eq started line).trans (by rw [readTagLine_good tagged opened])
  refine ⟨fun d less free before => ?_, fun full => ?_⟩
  · rw [selectSlot_some s p (usableSlot_eq less free before)] at made
    refine ⟨_, made, ((putStream_changes _ _ _).mono).trans ((putVin_changes _ _ _).mono), putVin_vin_same _ _ _, ?_, fun q apart => ?_⟩
    · rw [putVin_stream, putStream_stream_same]
    · rw [putVin_stream, putStream_stream_ne _ _ _ (Ne.symm apart), putVin_vin_ne _ _ _ (Ne.symm apart)]
      exact ⟨rfl, rfl⟩
  · have changed := selectSlot_changes s p tag
    rw [selectSlot_none s p (usableSlot_eq_none full)] at made changed
    refine ⟨_, made, changed, ?_, ?_, fun q apart => ?_, rfl⟩
    · rw [report_vin, putVin_vin_same]
    · rw [report_stream, putVin_stream, putStream_stream_same]
    · rw [report_stream, report_vin, putVin_stream, putStream_stream_ne _ _ _ (Ne.symm apart), putVin_vin_ne _ _ _ (Ne.symm apart)]
      exact ⟨rfl, rfl⟩

theorem lineAddress_eq (r : Stream) (run : Run) (k lines : Nat) : r.lineAddress run k lines =
    (run.base + k * ((r.width * r.height * 2 + 65535) / 65536)) * 65536 + lines * (r.width * 2) := by
  unfold Stream.lineAddress
  rw [slotPages_eq]
  rfl

theorem line_written {k lines : Nat} {tag : FrameTag} {run : Run} (writing : s.vin p = .picture k false)
    (at_k : (s.stream p).ring[k]? = some (.filling tag lines)) (placed : s.fmm.runOf (.stream p) = some run)
    (room : lines < (s.stream p).height) (line : List Byte) {a : Nat} (address : (s.stream p).lineAddress run k lines = a) :
    let r := s.stream p
    let bytes := line.take (r.width * 2)
    a + bytes.length ≤ 134217728 →
    Makes (.vinPictureLine p line) s [.memory, .rings, .vin] fun t =>
      (∀ x, t.mem.read x = if a ≤ x ∧ x < a + bytes.length then bytes.getD (x - a) 0#8 else s.mem.read x) ∧
      t.stream p = r.lined k tag lines ∧
      t.vin p = .picture k (decide (line.length / 2 < r.width)) ∧ ∀ q, q ≠ p → t.stream q = s.stream q ∧ t.vin q = s.vin q := by
  intro r bytes fits
  have made : exec (.vinPictureLine p line) s = .next (s.pictureLine p k line) := by
    show execVinPictureLine p line s = _
    unfold execVinPictureLine
    rw [writing]
  refine ⟨_, made, pictureLine_changes s p k line, ?_⟩
  have read := fun x => memoryReadsWhatWasWritten s.mem a bytes x fits
  rw [pictureLine_eq s p at_k placed room, address]
  dsimp only
  have others : ∀ q, q ≠ p → (s.lined p k tag lines (s.mem.write a bytes)).stream q = s.stream q := fun q apart =>
    putStream_stream_ne _ _ _ (Ne.symm apart)
  have own : (s.lined p k tag lines (s.mem.write a bytes)).stream p = r.lined k tag lines := putStream_stream_same _ _ _
  split
  · rename_i narrow
    rw [decide_eq_true narrow]
    exact ⟨read, own, putVin_vin_same _ _ _, fun q apart => ⟨others q apart, putVin_vin_ne _ _ _ (Ne.symm apart)⟩⟩
  · rename_i wide
    rw [decide_eq_false wide]
    exact ⟨read, own, writing, fun q apart => ⟨others q apart, rfl⟩⟩

theorem frame_ends {k lines : Nat} {tag : FrameTag} {short : Bool} {c : Instr} {after : VinFrame} (writing : s.vin p = .picture k short)
    (at_k : (s.stream p).ring[k]? = some (.filling tag lines))
    (ends : (c = .vinFrameEnd p ∧ after = .idle) ∨ (c = .vinFrameStart p ∧ after = .started false)) :
    ∃ t, exec c s = .next t ∧ Changes [.vin, .rings, .notices] s t ∧ t.vin p = after ∧
      (∀ q, q ≠ p → t.stream q = s.stream q ∧ t.vin q = s.vin q) ∧
      t.stream p = ((s.putVin p .idle).endPicture p k short).stream p ∧
      t.link.notices = ((s.putVin p .idle).endPicture p k short).link.notices := by
  have changed : Changes [.vin, .rings, .notices] s ((s.putVin p .idle).endPicture p k short) :=
    ((putVin_changes s p .idle).mono).trans ((endPicture_changes _ p k short).mono)
  have others : ∀ q, q ≠ p → ((s.putVin p .idle).endPicture p k short).stream q = s.stream q ∧
      ((s.putVin p .idle).endPicture p k short).vin q = s.vin q := fun q apart => by
    rw [endPicture_stream (s.putVin p .idle) p at_k, if_neg (Ne.symm apart), endPicture_vin, putVin_vin_ne _ _ _ (Ne.symm apart)]
    exact ⟨rfl, rfl⟩
  rcases ends with ⟨rfl, rfl⟩ | ⟨rfl, rfl⟩
  · refine ⟨_, congrArg Host.Outcome.next (endVinFrame_picture writing false), changed, ?_, others, rfl, rfl⟩
    rw [endPicture_vin, putVin_vin_same]
  · refine ⟨_, congrArg (fun t => Host.Outcome.next (State.putVin t p (.started false))) (endVinFrame_picture writing true),
      changed.trans ((putVin_changes _ _ _).mono), putVin_vin_same _ _ _, fun q apart => ⟨(others q apart).1, ?_⟩, rfl, rfl⟩
    rw [putVin_vin_ne _ _ _ (Ne.symm apart)]
    exact (others q apart).2

end

/-- Settles O30. -/
theorem pictureFramesFillAndCompleteSlots : Obligations.PictureFramesFillAndCompleteSlots := by
  refine ⟨fun s p => frameStart_waits, readTag_bad, fun s p stale line started => tagLine_refused started line,
    fun s p line tag started tagged opened => tagLine_accepted started tagged opened,
    fun s p k lines tag run line writing at_k placed room => line_written writing at_k placed room line (lineAddress_eq _ run k lines),
    fun s p k lines tag short c after writing at_k ends => ?_⟩
  obtain ⟨t, made, changed, port, others, stream, notices⟩ := frame_ends writing at_k ends
  obtain ⟨cut, late, complete⟩ := endPicture_outcome (s := s.putVin p .idle) at_k stream notices
  refine ⟨t, made, changed, port, others, cut, late, fun whole inOrder => ?_⟩
  obtain ⟨record, gapped, even⟩ := complete whole inOrder
  refine ⟨?_, ?_, ?_, ?_, ?_, ?_, gapped, even⟩
  · rw [record]
    unfold Stream.completed
    dsimp only
    congr 1
    cases tag.discontinuity with
    | true => exact List.map_congr_left fun x _ => by cases x <;> rfl
    | false => exact (List.map_id _).symm.trans (List.map_congr_left fun x _ => by cases x <;> rfl)
  all_goals rw [record]; rfl

end Sys2Proof.Machine
end

section
/-! PROOFS. Requests of a stream, and film sound (R51, R54 to R59, R69, R70). -/

namespace Sys2Proof.Machine

set_option Elab.async false

open Sys2Proof

/-! ### Requests of a stream -/

/-- The state after FLUSH STREAM (R56). -/
def State.flushStream (s : State) (i : StreamId) : State :=
  (s.putVin i (s.vin i).dropPicture).putStream i { s.stream i with
    ring := (s.stream i).ring.map Slot.emptied, lastStamp := none, lastSequence := none }

/-- A slot after FLUSH STREAM (R56). -/
theorem emptied_eq (x : Slot) : x.emptied = match x with
    | .ready _ _ => .empty OutputSet.none
    | .filling _ _ => .empty OutputSet.none
    | .showing a b => .showing a b
    | .empty holds => .empty holds := by
  cases x <;> rfl

section
variable {s : State} {i : StreamId}

/-- A request of one stream that its block answers without a change. -/
theorem stream_kept {c : Instr} {code : Byte} {α : Type} {f : α} {number : α → Nat} {act : α → State → StreamId → State × Reply} {r : Result}
    (he : exec c s = .next (requestWith code (.whole f) (fun f t => withStream (number f) t (act f t)) s)) (hc : codeOf c = code)
    (named : (streamNo i).1 = number f) (acts : act f (s.taking code) i = (s.taking code, .plain r)) :
    Answers c s r .empty [] fun _ => True :=
  answers_of_whole_refusal he hc ((withStream_some named _ _).trans acts)

/-- A request that changes a stream's state: the change is reported (R51, R54, R55). -/
theorem stream_turns {c : Instr} {code : Byte} {α : Type} {f : α} {number : α → Nat} {act : α → State → StreamId → State × Reply}
    {x : StreamState}
    (he : exec c s = .next (requestWith code (.whole f) (fun f t => withStream (number f) t (act f t)) s)) (hc : codeOf c = code)
    (named : (streamNo i).1 = number f) (acts : act f (s.taking code) i = ((s.taking code).setStreamState i x, .plain .done)) :
    Answers c s .done .empty [.rings, .notices] fun t =>
      t.stream i = { s.stream i with state := x, clockRunning := decide (x = .running) } ∧ (∀ j, j ≠ i → t.stream j = s.stream j) ∧
      Noted s t (.streamState i x) := by
  refine answers_of_whole he hc ((withStream_some named _ _).trans acts) (setStreamState_changes _ _ _) ⟨?_, fun j other => ?_, ?_⟩
  · rw [answer_stream, setStreamState_stream, if_pos rfl, taking_stream]
  · rw [answer_stream, setStreamState_stream, if_neg (Ne.symm other), taking_stream]
  · unfold Noted
    rw [answer_notices, setStreamState_notices, taking_notices]

/-- A request that changes a stream's record and nothing else. -/
theorem stream_put {c : Instr} {code : Byte} {α : Type} {f : α} {number : α → Nat} {act : α → State → StreamId → State × Reply}
    {x : Stream} {r : Result}
    (he : exec c s = .next (requestWith code (.whole f) (fun f t => withStream (number f) t (act f t)) s)) (hc : codeOf c = code)
    (named : (streamNo i).1 = number f) (acts : act f (s.taking code) i = ((s.taking code).putStream i x, .plain r)) :
    Answers c s r .empty [.rings] fun t => t.stream i = x ∧ ∀ j, j ≠ i → t.stream j = s.stream j := by
  refine answers_of_whole he hc ((withStream_some named _ _).trans acts) (putStream_changes _ _ _) ⟨?_, fun j other => ?_⟩
  · rw [answer_stream, putStream_stream_same]
  · rw [answer_stream, putStream_stream_ne _ _ _ (Ne.symm other), taking_stream]

theorem runStream_starts (waits : (s.stream i).state = .priming ∨ (s.stream i).state = .paused) :
    Answers (.runStream (.whole (streamNo i).1)) s .done .empty [.rings, .notices] fun t =>
      t.stream i = { s.stream i with state := .running, clockRunning := true } ∧ (∀ j, j ≠ i → t.stream j = s.stream j) ∧
      Noted s t (.streamState i .running) := by
  refine stream_turns (x := .running) rfl rfl rfl ?_
  rw [taking_stream]
  rcases waits with state | state <;> rw [state]

theorem runStream_idle (runs : (s.stream i).state = .running ∨ (s.stream i).state = .starved) :
    Answers (.runStream (.whole (streamNo i).1)) s .done .empty [] fun _ => True := by
  refine stream_kept rfl rfl rfl ?_
  rw [taking_stream]
  rcases runs with state | state <;> rw [state]

theorem pauseStream_stops (runs : (s.stream i).state = .running ∨ (s.stream i).state = .starved) :
    Answers (.pauseStream (.whole (streamNo i).1)) s .done .empty [.rings, .notices] fun t =>
      t.stream i = { s.stream i with state := .paused, clockRunning := false } ∧ (∀ j, j ≠ i → t.stream j = s.stream j) ∧
      Noted s t (.streamState i .paused) := by
  refine stream_turns (x := .paused) rfl rfl rfl ?_
  rw [taking_stream]
  rcases runs with state | state <;> rw [state]

theorem pauseStream_idle (state : (s.stream i).state = .paused) :
    Answers (.pauseStream (.whole (streamNo i).1)) s .done .empty [] fun _ => True := by
  refine stream_kept rfl rfl rfl ?_
  rw [taking_stream, state]

theorem pauseStream_early (state : (s.stream i).state = .priming) : TurnsAway (.pauseStream (.whole (streamNo i).1)) s .notNow := by
  refine stream_kept rfl rfl rfl ?_
  rw [taking_stream, state]

theorem closed_refuses (state : (s.stream i).state = .closed) :
    TurnsAway (.runStream (.whole (streamNo i).1)) s .notNow ∧ TurnsAway (.pauseStream (.whole (streamNo i).1)) s .notNow ∧
    TurnsAway (.flushStream (.whole (streamNo i).1)) s .notNow ∧
    ∀ v, TurnsAway (.setClock (.whole ⟨(streamNo i).1, v⟩)) s .notNow := by
  refine ⟨stream_kept rfl rfl rfl ?_, stream_kept rfl rfl rfl ?_, stream_kept rfl rfl rfl ?_, fun v => stream_kept rfl rfl rfl ?_⟩
  · rw [taking_stream, state]
  · rw [taking_stream, state]
  · exact if_pos (by rwa [taking_stream])
  · exact if_pos (by rwa [taking_stream])

theorem setClock_sets (opened : (s.stream i).state ≠ .closed) (v : BitVec 32) :
    Answers (.setClock (.whole ⟨(streamNo i).1, v⟩)) s .done .empty [.rings] fun t =>
      t.stream i = { s.stream i with clock := v.toNat, fraction := 0 } ∧ ∀ j, j ≠ i → t.stream j = s.stream j := by
  refine stream_put rfl rfl rfl ?_
  dsimp only
  rw [taking_stream, if_neg opened]

theorem flushStream_flushes (opened : (s.stream i).state ≠ .closed) :
    Answers (.flushStream (.whole (streamNo i).1)) s .done .empty [.rings, .vin] fun t =>
      (t.stream i).ring.length = (s.stream i).ring.length ∧
      (∀ (k : Nat) (x : Slot), (s.stream i).ring[k]? = some x → (t.stream i).ring[k]? = some (match x with
        | .ready _ _ => .empty OutputSet.none
        | .filling _ _ => .empty OutputSet.none
        | .showing a b => .showing a b
        | .empty holds => .empty holds)) ∧
      t.stream i = { s.stream i with ring := (t.stream i).ring, lastStamp := none, lastSequence := none } ∧
      t.vin i = (match s.vin i with
        | .picture _ _ => .ignored
        | x => x) ∧
      ∀ j, j ≠ i → t.stream j = s.stream j ∧ t.vin j = s.vin j := by
  let u := (s.taking 0x35#8).flushStream i
  have acts : (if (s.taking 0x35#8 |>.stream i).state = .closed then (s.taking 0x35#8, Reply.plain .notNow) else (u, .plain .done)) =
      (u, .plain .done) := if_neg (by rwa [taking_stream])
  have own : u.stream i = { s.stream i with
      ring := (s.stream i).ring.map Slot.emptied, lastStamp := none, lastSequence := none } := by
    show ((s.taking 0x35#8).flushStream i).stream i = _
    unfold State.flushStream
    rw [putStream_stream_same, taking_stream]
  refine answers_of_whole (u := u) rfl rfl ((withStream_some rfl _ _).trans acts)
    (((putVin_changes _ _ _).mono).trans ((putStream_changes _ _ _).mono)) ?_
  rw [answer_stream, own]
  refine ⟨List.length_map _, fun k x at_k => ?_, rfl, ?_, fun j other => ⟨?_, ?_⟩⟩
  · dsimp only
    rw [List.getElem?_map, at_k, ← emptied_eq]
    rfl
  · rw [answer_vin]
    show (State.flushStream _ i).vin i = _
    unfold State.flushStream
    rw [putStream_vin, putVin_vin_same, taking_vin]
    rfl
  · rw [answer_stream]
    show (State.flushStream _ i).stream j = _
    unfold State.flushStream
    rw [putStream_stream_ne _ _ _ (Ne.symm other), putVin_stream, taking_stream]
  · rw [answer_vin]
    show (State.flushStream _ i).vin j = _
    unfold State.flushStream
    rw [putStream_vin, putVin_vin_ne _ _ _ (Ne.symm other), taking_vin]

theorem clampNat_map (l : Option Nat) : l.map (clampNat 0 100) = l.map fun v => min 100 v := by
  cases l with
  | none => rfl
  | some v =>
    simp only [Option.map_some, clampNat_eq (Nat.zero_le 100), Nat.zero_max]

theorem clampInt_map (x : Option Int) : x.map (clampInt (-1000) 1000) = x.map fun v => max (-1000) (min 1000 v) := by
  cases x with
  | none => rfl
  | some v => simp only [Option.map_some, clampInt_eq (by decide : (-1000 : Int) ≤ 1000)]

theorem setStream_stores (l : Option Nat) (x : Option Int) :
    let l' := l.map fun v => min 100 v
    let x' := x.map fun v => max (-1000) (min 1000 v)
    Answers (.setStream (.whole ⟨(streamNo i).1, false, l, x⟩)) s (if l' = l ∧ x' = x then .done else .adjusted) .empty [.rings] fun t =>
      t.stream i = { s.stream i with tolerance := l'.getD (s.stream i).tolerance, trim := x'.getD (s.stream i).trim } ∧
      ∀ j, j ≠ i → t.stream j = s.stream j := by
  intro l' x'
  refine stream_put rfl rfl rfl ?_
  dsimp only
  rw [taking_stream, if_neg (nofun : ¬ false = true), clampNat_map, clampInt_map]
  have outcome : doneOr (decide (l' ≠ l ∨ x' ≠ x)) = if l' = l ∧ x' = x then .done else .adjusted :=
    doneOr_ite (by rw [decide_eq_false_iff_not, not_or, not_not, not_not])
  rw [← outcome]

end

/-- Settles O27. -/
theorem streamRequestsSetClockAndState : Obligations.StreamRequestsSetClockAndState := by
  refine ⟨fun s k _ high => ?_, fun s i _ => ⟨runStream_starts, fun runs => ⟨runStream_idle runs, pauseStream_stops runs⟩,
    pauseStream_idle, pauseStream_early, closed_refuses, fun opened => ⟨setClock_sets opened, flushStream_flushes opened⟩, fun l x => ?_,
    setStream_stores⟩⟩
  · exact ⟨answers_of_whole_refusal rfl rfl (withStream_none high _ _), answers_of_whole_refusal rfl rfl (withStream_none high _ _),
      answers_of_whole_refusal rfl rfl (withStream_none high _ _), fun _ => answers_of_whole_refusal rfl rfl (withStream_none high _ _),
      fun _ _ _ => answers_of_whole_refusal rfl rfl (withStream_none high _ _)⟩
  · exact stream_kept rfl rfl rfl (if_pos rfl)

/-! ### Film sound (R69, R70) -/

section
variable (s : State) (i : StreamId)

/-- The pairs a present input hands the Mixer (R69). -/
theorem filmSamples_present {s : State} (present : s.pacer.audio = .present) (x : StereoIn) :
    s.filmSamples i x = if (s.stream i).state = .running then x else ⟨0, 0⟩ := by
  unfold State.filmSamples
  simp only [present, and_true]

@[simp] theorem reportAudioLoss_pacer : (s.reportAudioLoss i).pacer = s.pacer := by
  unfold State.reportAudioLoss
  split <;> rfl

theorem reportAudioLoss_closed {s : State} {i : StreamId} (closed : (s.stream i).state = .closed) : s.reportAudioLoss i = s := if_pos closed

theorem reportAudioLoss_opened {s : State} {i : StreamId} (opened : (s.stream i).state ≠ .closed) :
    (6, (streamNo i).1) ∈ (s.reportAudioLoss i).noticeKeys := by
  unfold State.reportAudioLoss
  rw [if_neg opened]
  exact mem_noticeKeys_report.2 (.inr rfl)

theorem reportAudioLoss_told {k : Nat × Nat} (queued : k ∈ s.noticeKeys) : k ∈ (s.reportAudioLoss i).noticeKeys := by
  unfold State.reportAudioLoss
  split
  · exact queued
  · exact mem_noticeKeys_report.2 (.inl queued)

/-- A lost input is reported for each stream that is not CLOSED, and for no other (R70). -/
theorem audioLoss_reports : let t := streamIds.foldl State.reportAudioLoss s
    t.pacer = s.pacer ∧ ((s.stream i).state ≠ .closed → (6, (streamNo i).1) ∈ t.noticeKeys) ∧
    ((s.stream .a).state = .closed → (s.stream .b).state = .closed → t.link.notices = s.link.notices) := by
  show ((s.reportAudioLoss .a).reportAudioLoss .b).pacer = _ ∧ (_ → _ ∈ ((s.reportAudioLoss .a).reportAudioLoss .b).noticeKeys) ∧
    (_ → _ → ((s.reportAudioLoss .a).reportAudioLoss .b).link.notices = _)
  refine ⟨by rw [reportAudioLoss_pacer, reportAudioLoss_pacer], fun opened => ?_, fun closed closed' => ?_⟩
  · cases i with
    | a => exact reportAudioLoss_told _ .b (reportAudioLoss_opened opened)
    | b =>
      refine reportAudioLoss_opened ?_
      unfold State.stream at opened ⊢
      rwa [reportAudioLoss_pacer]
  · rw [reportAudioLoss_closed closed, reportAudioLoss_closed closed']

end

/-- Settles O32. -/
theorem filmSoundFollowsTheStreams : Obligations.FilmSoundFollowsTheStreams := by
  refine ⟨fun s al ar bl br => ?_, fun s present => ?_, fun s other => if_neg other⟩
  · obtain ⟨t, made, changed⟩ := exec_changes (.saiSamplePeriod al ar bl br) s
    refine ⟨t, made, changed, ?_⟩
    cases made
    refine ⟨rfl, ?_, ?_⟩
    · rw [Table.sel_put_ne _ _ (by decide), Table.sel_put_same]
      exact filmSamples_present .a rfl _
    · rw [Table.sel_put_same]
      exact filmSamples_present .b rfl _
  · obtain ⟨t, made, changed⟩ := exec_changes .audioInputLost s
    refine ⟨t, made, changed, ?_⟩
    obtain rfl := Host.Outcome.next.inj (made.symm.trans (if_pos present))
    have reports := fun i => audioLoss_reports { s with pacer := { s.pacer with
      audio := .lost, film := (s.pacer.film.put 0 ⟨0, 0⟩).put 1 ⟨0, 0⟩ } } i
    obtain ⟨pacer, -, quiet⟩ := reports .a
    refine ⟨by rw [pacer], fun k => ?_, fun i => (reports i).2.1, quiet⟩
    rw [pacer]
    dsimp only
    match k with
    | 0 => rw [Table.sel_put_ne _ _ (by decide), Table.sel_put_same]
    | 1 => rw [Table.sel_put_same]

end Sys2Proof.Machine
end

section
/-! PROOFS. Time passing on an empty queue: the stream clocks and the running timers (R57, log 1). -/

namespace Sys2Proof.Machine

set_option Elab.async false

open Sys2Proof

/-! ### Ticks one after another -/

theorem tickTimer_iterate (n : Nat) (t : Option Nat) : tickTimer^[n] t = t.map (· + n) := by
  induction n generalizing t with
  | zero => cases t <;> rfl
  | succ n ih =>
    rw [Function.iterate_succ_apply, ih]
    cases t with
    | none => rfl
    | some k => simp only [tickTimer, Option.map_some, Nat.add_assoc, Nat.add_comm 1 n]

theorem signalTick_iterate (n : Nat) (x : Signal) : Signal.tick^[n] x = { x with timer := x.timer.map (· + n) } := by
  rw [← tickTimer_iterate]
  induction n generalizing x with
  | zero => rfl
  | succ n ih => rw [Function.iterate_succ_apply, ih]; rfl

theorem outTick_iterate (n : Nat) (r : OutputRec) : OutputRec.tick^[n] r = { r with linger := r.linger.map (· + n) } := by
  rw [← tickTimer_iterate]
  induction n generalizing r with
  | zero => rfl
  | succ n ih => rw [Function.iterate_succ_apply, ih]; rfl

/-- The camera's record after 100 µs more. -/
def Camera.tick (c : Camera) : Camera := { c with timer := tickTimer c.timer }

theorem camTick_iterate (n : Nat) (c : Camera) : Camera.tick^[n] c = { c with timer := c.timer.map (· + n) } := by
  rw [← tickTimer_iterate]
  induction n generalizing c with
  | zero => rfl
  | succ n ih => rw [Function.iterate_succ_apply, ih]; rfl

/-- The receiver's record after 100 µs more. -/
def Receiver.tick (r : Receiver) : Receiver :=
  { r with
    signals := (List.finRange 7).foldl (fun t i => t.upd i Signal.tick) r.signals
    debounce := tickTimer r.debounce }

theorem recvTick_iterate (n : Nat) (r : Receiver) :
    Receiver.tick^[n] r = { r with signals := (Receiver.tick^[n] r).signals, debounce := r.debounce.map (· + n) } := by
  rw [← tickTimer_iterate]
  induction n generalizing r with
  | zero => rfl
  | succ n ih => rw [Function.iterate_succ_apply, ih]; rfl

/-! ### A stream's clock (R57) -/

theorem streamTick_stopped (n : Nat) {r : Stream} (stopped : r.clockRunning = false) : Stream.tick^[n] r = r := by
  refine Function.iterate_fixed ?_ n
  unfold Stream.tick
  rw [stopped]
  rfl

/-- Time changes a stream's clock and fraction alone. -/
theorem streamTick_rest (r : Stream) : r.tick = { r with clock := r.tick.clock, fraction := r.tick.fraction } := by
  unfold Stream.tick
  split
  · dsimp only
    split <;> rfl
  · rfl

theorem streamTick_iterate_rest (n : Nat) (r : Stream) :
    Stream.tick^[n] r = { r with clock := (Stream.tick^[n] r).clock, fraction := (Stream.tick^[n] r).fraction } := by
  induction n with
  | zero => rfl
  | succ n ih =>
    rw [Function.iterate_succ_apply']
    generalize Stream.tick^[n] r = x at ih ⊢
    refine (streamTick_rest x).trans ?_
    generalize x.tick = y
    rw [ih]

/-- A stream's clock as a number of millionths of a unit. -/
def Stream.elapsed (r : Stream) : Int := r.clock * 1000000 + r.fraction

/-- A tick of a running clock adds 1 + trim / 1,000,000 units while the clock stays below its largest value, where it stays. -/
theorem streamTick_elapsed {r : Stream} (running : r.clockRunning = true) (low : -1000 ≤ r.trim) (legal : r.fraction < 1000000) :
    (r.elapsed + (1000000 + r.trim) < Config.clockMax * 1000000 →
      r.tick.elapsed = r.elapsed + (1000000 + r.trim) ∧ r.tick.fraction < 1000000) ∧
    (Config.clockMax * 1000000 ≤ r.elapsed + (1000000 + r.trim) → r.tick.clock = Config.clockMax) := by
  unfold Stream.elapsed Stream.tick Config.clockMax
  rw [if_pos running]
  dsimp only
  obtain ⟨acc, total⟩ : ∃ acc : Nat, (r.fraction : Int) + 1000000 + r.trim = acc := Int.eq_ofNat_of_zero_le (by omega)
  rw [total, Int.toNat_natCast]
  constructor
  · intro below
    rw [if_pos (by omega)]
    dsimp only
    omega
  · intro above
    rw [if_neg (by omega)]

/-- A running clock after `n` ticks (R57). -/
theorem streamTick_iterate {r : Stream} (running : r.clockRunning = true) (low : -1000 ≤ r.trim) (legal : r.fraction < 1000000) (n : Nat) :
    (r.elapsed + n * (1000000 + r.trim) < Config.clockMax * 1000000 →
      (Stream.tick^[n] r).elapsed = r.elapsed + n * (1000000 + r.trim) ∧ (Stream.tick^[n] r).fraction < 1000000) ∧
    (Config.clockMax * 1000000 ≤ r.elapsed + n * (1000000 + r.trim) → r.clock ≤ Config.clockMax →
      (Stream.tick^[n] r).clock = Config.clockMax) := by
  induction n with
  | zero =>
    unfold Stream.elapsed Config.clockMax
    simp only [Function.iterate_zero_apply]
    omega
  | succ n ih =>
    obtain ⟨below, above⟩ := ih
    have rest := streamTick_iterate_rest n r
    rw [Function.iterate_succ_apply']
    generalize Stream.tick^[n] r = x at rest below above ⊢
    have runs : x.clockRunning = true := by rw [rest]; exact running
    have trim : x.trim = r.trim := by rw [rest]
    have more : r.elapsed + ((n + 1 : Nat) : Int) * (1000000 + r.trim) = r.elapsed + n * (1000000 + r.trim) + (1000000 + r.trim) := by
      push_cast
      ring
    rw [more]
    by_cases room : r.elapsed + n * (1000000 + r.trim) < Config.clockMax * 1000000
    · obtain ⟨exact_now, fraction⟩ := below room
      have next := streamTick_elapsed runs (trim ▸ low) fraction
      rw [exact_now, trim] at next
      exact ⟨next.1, fun full _ => next.2 full⟩
    · refine ⟨fun less => absurd less (by omega), fun _ start => ?_⟩
      have full : x.clock = Config.clockMax := above (by omega) start
      unfold Stream.tick
      rw [if_pos runs]
      dsimp only
      rw [if_neg (by omega)]

/-! ### Idle steps -/

theorem tick_stream (s : State) (i : StreamId) : s.tick.stream i = (s.stream i).tick := by
  cases i <;> simp [State.tick, State.stream, Table.sel_upd, streamNo]

theorem tick_changes (s : State) : Changes [.rings, .signals, .reverse, .outRun, .camera] s s.tick := by
  intro p absent
  have same := same_refl s p
  cases p
  case owners | outSettings => intro o; rw [tick_out]; exact ⟨rfl, rfl, rfl, rfl⟩
  all_goals first | exact absurd (by decide) absent | exact same

theorem tick_iterate_changes (s : State) (n : Nat) :
    Changes [.rings, .signals, .reverse, .outRun, .camera] s (State.tick^[n] s) := by
  induction n with
  | zero => exact .refl _ s
  | succ n ih => rw [Function.iterate_succ_apply']; exact ih.trans (tick_changes _)

/-- A run goes on from the state its first step makes. -/
theorem run_next {M : Host.Core} {s u : M.State} (first : M.step s = .next u) (n : Nat) : M.run (n + 1) s = M.run n u := by
  rw [Host.Core.run, first]

/-- With no command waiting and no start-up step under way, time alone passes (log 1). -/
theorem run_idle (n : Nat) {s : State} (empty : s.pending = []) (started : s.part.phase = .starting → s.steps = []) :
    Host.Core.run Sys2Proof.core n s = .next (State.tick^[n] s) := by
  induction n generalizing s with
  | zero => rfl
  | succ n ih =>
    have under : s.stepUnderWay = none := by
      unfold State.stepUnderWay State.isRunning
      cases phase : s.part.phase with
      | running => rfl
      | starting => rw [started phase]; rfl
    have ticks : Sys2Proof.core.step s = .next s.tick := by
      show step s = _
      unfold step State.idle
      rw [empty, under]
      rfl
    exact (run_next ticks n).trans (ih empty started)

/-- What a piece of the state is after `n` ticks, by what one tick makes of it. -/
theorem tick_iterate {α : Type} {piece : State → α} {advance : α → α} (one : ∀ s, piece s.tick = advance (piece s)) (n : Nat)
    (s : State) : piece (State.tick^[n] s) = advance^[n] (piece s) :=
  Function.Semiconj.iterate_right (f := piece) one n s

/-- Settles O2. -/
theorem clockAdvancesExactly : Obligations.ClockAdvancesExactly := by
  intro s n empty started
  have recv : (State.tick^[n] s).recv = Receiver.tick^[n] s.recv := tick_iterate (piece := State.recv) (fun _ => rfl) n s
  refine ⟨_, run_idle n empty started, tick_iterate_changes s n, ?_, fun j => ?_, fun o => ?_, ?_, fun i => ?_⟩
  · rw [recv]
    exact recvTick_iterate n s.recv
  · exact (tick_iterate (piece := (State.signal · j)) (fun t => tick_signal t j) n s).trans (signalTick_iterate n _)
  · exact (tick_iterate (piece := (State.out · o)) (fun t => tick_out t o) n s).trans (outTick_iterate n _)
  · exact (tick_iterate (piece := State.cam) (advance := Camera.tick) (fun _ => rfl) n s).trans (camTick_iterate n _)
  · rw [show (State.tick^[n] s).stream i = Stream.tick^[n] (s.stream i) from
      tick_iterate (piece := (State.stream · i)) (fun t => tick_stream t i) n s]
    exact ⟨streamTick_iterate_rest n _, streamTick_stopped n, fun running low _ legal => streamTick_iterate running low legal n⟩

end Sys2Proof.Machine
end

section
/-! PROOFS. The pixels of an output frame: fit, conversion and blending (R109 to R111, R114). -/

namespace Sys2Proof.Machine

set_option Elab.async false

open Sys2Proof

/-! ### The fit (R109) -/

theorem fitPicture_eq (ws hs wo ho : Nat) : let f := fitPicture ws hs wo ho
    (wo * hs ≤ ho * ws → f.sw = wo ∧ f.sh = hs * wo / ws / 2 * 2) ∧ (ho * ws < wo * hs → f.sh = ho ∧ f.sw = ws * ho / hs / 2 * 2) ∧
    f.ox = (wo - f.sw) / 2 ∧ f.oy = (ho - f.sh) / 2 := by
  unfold fitPicture
  refine ⟨fun wide => ?_, fun tall => ?_, rfl, rfl⟩
  · simp only [if_pos wide, and_self]
  · simp only [if_neg (Nat.not_le.2 tall), and_self]

/-! ### Colours (R110) -/

/-- A colour given by its components as numbers, each clamped to 0 to 255 (R110). -/
def Rgb.clamped (r g b : Int) : Rgb :=
  ⟨BitVec.ofNat 8 (max 0 (min 255 r)).toNat, BitVec.ofNat 8 (max 0 (min 255 g)).toNat, BitVec.ofNat 8 (max 0 (min 255 b)).toNat⟩

theorem clamped_eq_component (r g b : Int) : Rgb.clamped r g b = ⟨component r, component g, component b⟩ := by
  unfold Rgb.clamped component
  simp only [clampInt_eq (by decide : (0 : Int) ≤ 255)]

/-- Components that are in range are not clamped. -/
theorem clamped_of_le {r g b : Nat} (hr : r ≤ 255) (hg : g ≤ 255) (hb : b ≤ 255) :
    Rgb.clamped r g b = ⟨BitVec.ofNat 8 r, BitVec.ofNat 8 g, BitVec.ofNat 8 b⟩ := by
  have same : ∀ n : Nat, n ≤ 255 → (max 0 (min 255 (n : Int))).toNat = n := by omega
  unfold Rgb.clamped
  rw [same r hr, same g hg, same b hb]

theorem yuvColour_eq (y u v : Nat) : yuvColour y u v = Rgb.clamped
    ((298 * ((y : Int) - 16) + 409 * ((v : Int) - 128) + 128) / 256)
    ((298 * ((y : Int) - 16) - 100 * ((u : Int) - 128) - 208 * ((v : Int) - 128) + 128) / 256)
    ((298 * ((y : Int) - 16) + 516 * ((u : Int) - 128) + 128) / 256) := by
  rw [clamped_eq_component]
  have shift : ∀ x : Int, x >>> (8 : Int) = x / 256 := fun x =>
    (Int.shiftRight_natCast_right x 8).trans (Int.shiftRight_eq_div_pow x 8)
  unfold yuvColour
  simp only [shift]

theorem read16_lt (m : FrameMemory) (a : Nat) : m.read16 a < 65536 := by
  have high := (m.read a).isLt
  have low := (m.read (a + 1)).isLt
  unfold FrameMemory.read16 be16
  omega

theorem rgb565Colour_eq {p : Nat} (short : p < 65536) : rgb565Colour p = Rgb.clamped
    ((p / 2048 * 255 / 31 : Nat)) ((p / 32 % 64 * 255 / 63 : Nat)) ((p % 32 * 255 / 31 : Nat)) := by
  rw [clamped_of_le (by omega) (by omega) (by omega)]
  unfold rgb565Colour
  rw [Nat.mod_eq_of_lt (by omega : p / 2048 < 32)]

theorem argb1555Colour_eq {p : Nat} (short : p < 65536) : argb1555Colour p = (if p < 32768 then 0 else 255, Rgb.clamped
    ((p / 1024 % 32 * 255 / 31 : Nat)) ((p / 32 % 32 * 255 / 31 : Nat)) ((p % 32 * 255 / 31 : Nat))) := by
  rw [clamped_of_le (by omega) (by omega) (by omega)]
  unfold argb1555Colour
  rw [if_congr (by omega : p / 32768 = 0 ↔ p < 32768) rfl rfl]

/-! ### Pictures, layers and the overlay (R110, R111, R114) -/

section
variable (m : FrameMemory)

theorem pictureColour_eq (page w : Nat) (format : PixelFormat) (col row : Nat) : m.pictureColour page w format col row =
    match format with
    | .rgb565 => Rgb.clamped ((m.read16 (page * 65536 + (row * w + col) * 2) / 2048 * 255 / 31 : Nat))
        ((m.read16 (page * 65536 + (row * w + col) * 2) / 32 % 64 * 255 / 63 : Nat))
        ((m.read16 (page * 65536 + (row * w + col) * 2) % 32 * 255 / 31 : Nat))
    | .yuv422 => yuvColour (m.read (page * 65536 + (row * w + col) * 2)).toNat
        (m.read (page * 65536 + (row * w + col / 2 * 2) * 2 + 1)).toNat
        (m.read (page * 65536 + (row * w + col / 2 * 2) * 2 + 3)).toNat := by
  cases format with
  | rgb565 => exact rgb565Colour_eq (read16_lt m _)
  | yuv422 => rfl

/-- A layer's pixel over the colour below, where the layer covers it (R111). -/
theorem over_eq (d : LayerDraw) (x y : Nat) (below : Rgb) : d.over m x y below =
    if 0 ≤ (x : Int) - d.x ∧ (x : Int) - d.x < d.width ∧ 0 ≤ (y : Int) - d.y ∧ (y : Int) - d.y < d.height then
      let n := ((y : Int) - d.y).toNat * d.width + ((x : Int) - d.x).toNat
      match d.format with
      | .argb8888 => blend ((m.read (d.page * 65536 + n * 4)).toNat * d.alpha / 255)
          ⟨m.read (d.page * 65536 + n * 4 + 1), m.read (d.page * 65536 + n * 4 + 2), m.read (d.page * 65536 + n * 4 + 3)⟩ below
      | .argb1555 => let p := m.read16 (d.page * 65536 + n * 2)
          blend ((if p < 32768 then 0 else 255) * d.alpha / 255) (Rgb.clamped
            ((p / 1024 % 32 * 255 / 31 : Nat)) ((p / 32 % 32 * 255 / 31 : Nat)) ((p % 32 * 255 / 31 : Nat))) below
    else below := by
  unfold LayerDraw.over FrameMemory.layerColour
  dsimp only
  split
  · cases d.format with
    | argb8888 => rfl
    | argb1555 =>
      dsimp only
      rw [argb1555Colour_eq (read16_lt m _)]
      rfl
  · rfl

theorem overlayOver_eq (plane : Fin 2) (w col row : Nat) (below : Rgb) : overlayOver m plane w col row below =
    let p := m.read16 ((114 + plane.1 * 38) * 65536 + (row * w + col) * 2)
    if p < 32768 then below else Rgb.clamped
      ((p / 1024 % 32 * 255 / 31 : Nat)) ((p / 32 % 32 * 255 / 31 : Nat)) ((p % 32 * 255 / 31 : Nat)) := by
  unfold overlayOver
  rw [argb1555Colour_eq (read16_lt m _)]
  dsimp only
  have address : pageAddress (guidePage plane) = (114 + plane.1 * 38) * 65536 := rfl
  rw [address]
  split
  · rw [if_pos rfl]
  · rw [if_neg (by decide)]

end

end Sys2Proof.Machine
end

section
/-! PROOFS. The output frame a refresh event fixes, and the pixels it sends (R107 to R111, R113 to R115, R130). -/

namespace Sys2Proof.Machine

set_option Elab.async false

open Sys2Proof

/-! ### The state in which a frame begins -/

/-- The state in which a refresh event comes to the camera. -/
def State.beforeCamera (s : State) (o : Output) : State :=
  let u := State.refreshLayers ((((s.endFrame o).handAndPace o).releaseCapture o).releaseGuide o) o
  if u.flipsGuide o then u.flipGuide else u

/-- The state in which a refresh event fixes the frame that begins. -/
def State.beforeFrame (s : State) (o : Output) : State := (s.beforeCamera o).refreshCamera o

section
variable {s : State} {o : Output}

theorem refresh_begins (on : (s.out o).owner ≠ .off) : s.refresh o = (s.beforeFrame o).beginFrame o := by
  unfold State.refresh
  rw [if_neg on]
  rfl

theorem beforeFrame_changes (s : State) (o : Output) : Changes refreshPieces s (s.beforeFrame o) := by
  have paced := ((endFrame_changes s o).mono (qs := refreshPieces)).trans ((handAndPace_changes _ o).mono)
  have released := (paced.trans ((releaseCapture_changes _ o).mono)).trans ((releaseGuide_changes _ o).mono)
  have shown := released.trans ((refreshLayers_changes _ o).mono)
  unfold State.beforeFrame State.beforeCamera
  dsimp only
  generalize State.refreshLayers _ o = u at shown ⊢
  exact (shown.trans (Changes.ite ((flipGuide_changes u).mono) (.refl _ u))).trans ((refreshCamera_changes _ o).mono)

theorem endFrame_own (s : State) (o : Output) : (s.endFrame o).out o = { s.out o with
    frame := none, activeTiming := if (s.out o).owner = .normal then (s.out o).hostTiming else (s.out o).activeTiming } := by
  unfold State.endFrame
  dsimp only
  rw [out_of_changes (releaseScan_changes _ o) o, putOut_out_same]

theorem refreshLayers_own (s : State) (o : Output) : (s.refreshLayers o).out o = { s.out o with shownCard := s.cardOf o } := by
  unfold State.refreshLayers
  dsimp only
  rw [out_of_changes (settleFlips_changes _) o, out_of_changes (flipWhere_changes _ _) o, putOut_out_same]

/-- The record of the output in the state in which its frame begins: in NORMAL the active timing is the host timing (R104). -/
theorem beforeFrame_own (s : State) (o : Output) : ∃ c, (s.beforeFrame o).out o = { s.out o with
    frame := none, shownCard := c
    activeTiming := if (s.out o).owner = .normal then (s.out o).hostTiming else (s.out o).activeTiming } := by
  have flipped : ∀ u : State, (if u.flipsGuide o then u.flipGuide else u).out o = u.out o := by
    intro u
    split
    · exact out_of_changes (flipGuide_changes u) o
    · rfl
  unfold State.beforeFrame State.beforeCamera
  dsimp only
  rw [out_of_changes (refreshCamera_changes _ o) o, flipped, refreshLayers_own, out_of_changes (releaseGuide_changes _ o) o,
    out_of_changes (releaseCapture_changes _ o) o, out_of_changes (handAndPace_changes _ o) o, endFrame_own]
  exact ⟨_, rfl⟩

/-- A live camera view takes the newest-complete capture slot, which is then shown and held (R130). -/
theorem refreshCamera_takes (view : (s.out o).inView = true) (live : s.cam.status = .live) :
    (s.refreshCamera o).cam.shown = (s.refreshCamera o).cam.newest ∧
    ∀ k, (s.refreshCamera o).cam.newest = some k → ((s.refreshCamera o).cam.slots.sel k).holds.has o = true := by
  unfold State.refreshCamera
  rw [if_pos (by simp [view, live])]
  unfold State.takeCapture
  dsimp only
  cases newest : s.cam.newest with
  | none => exact ⟨newest.symm, fun k e => nomatch newest.symm.trans e⟩
  | some j =>
    refine ⟨newest.symm, fun k e => ?_⟩
    obtain rfl : j = k := Option.some.inj (newest.symm.trans e)
    dsimp only
    rw [Table.sel_upd, if_pos rfl]
    exact (has_put _ _ _ _).trans (by simp)

theorem inView_iff {r : OutputRec} : r.inView = true ↔ r.owner = .camera ∨ r.owner = .linger := by
  simp [OutputRec.inView]

/-! ### What a frame shows (R108, R113 to R115) -/

variable (w : State)

/-- The frame layers that a frame shows lie in ascending z, each layer once (R79, R108). -/
theorem layersOf_ordered (o : Output) : ((w.layersOf o).map LayerDraw.z).Pairwise (· ≤ ·) ∧ ((w.layersOf o).map LayerDraw.layer).Nodup := by
  have total : Std.Total fun d e : LayerDraw => d.z ≤ e.z := ⟨fun d e => Nat.le_total _ _⟩
  have trans : IsTrans LayerDraw fun d e => d.z ≤ e.z := ⟨fun _ _ _ => Nat.le_trans⟩
  unfold State.layersOf
  dsimp only
  refine ⟨List.pairwise_map.2 (List.pairwise_insertionSort _ _), ?_⟩
  refine ((List.perm_insertionSort _ _).map _).nodup_iff.2 ((List.nodup_finRange 24).sublist ?_)
  generalize List.finRange 24 = ns
  induction ns with
  | nil => exact .slnil
  | cons n ns ih =>
    rw [List.filterMap_cons]
    split
    · exact ih.trans (List.sublist_cons_self _ _)
    · rename_i d drawn
      have own : d.layer = n := by
        repeat' split at drawn
        all_goals first | cases drawn; rfl | exact nomatch drawn
      rw [List.map_cons, own]
      exact ih.cons_cons _

theorem mem_layersOf {o : Output} {d : LayerDraw} : d ∈ w.layersOf o ↔ ∃ n p, ((w.layer n).state = .ready ∧ (w.layer n).kind = .menu ∧
    (w.layer n).placements.sel (outputNo o) = some p ∧ p.visible = true ∧ ((w.out o).inView = true → (w.layer n).permitted = true)) ∧
    d = w.drawOf n p.x p.y p.z p.alpha := by
  unfold State.layersOf
  dsimp only
  rw [(List.perm_insertionSort _ _).mem_iff, List.mem_filterMap]
  constructor
  · rintro ⟨n, -, drawn⟩
    split at drawn
    · rename_i menu
      split at drawn
      · rename_i p placed
        split at drawn
        · rename_i visible
          cases drawn
          rw [Bool.and_eq_true, Bool.or_eq_true, Bool.not_eq_true'] at visible
          exact ⟨n, p, ⟨menu.1, menu.2, placed, visible.1, fun view => visible.2.resolve_left (by simp [view])⟩, rfl⟩
        · exact nomatch drawn
      · exact nomatch drawn
    · exact nomatch drawn
  · rintro ⟨n, p, ⟨ready, menu, placed, visible, permitted⟩, rfl⟩
    refine ⟨n, List.mem_finRange n, ?_⟩
    rw [if_pos ⟨ready, menu⟩, placed]
    dsimp only
    rw [if_pos]
    cases view : (w.out o).inView with
    | false => simp [visible]
    | true => simp [visible, permitted view]

/-- A layer as it is drawn: its front plane from the plane's first page (R6, R79). -/
theorem drawOf_eq {page : Nat} {n : Fin 24} (front : page = match w.fmm.runOf (.layer n) with
      | some x => x.base + (w.layer n).front.1 *
        (((w.layer n).width * (w.layer n).height * (if (w.layer n).format = .argb8888 then 4 else 2) + 65535) / 65536)
      | none => 0) (x y : Int) (z alpha : Nat) : w.drawOf n x y z alpha =
    ⟨n, page, (w.layer n).format, (w.layer n).width, (w.layer n).height, x, y, z, alpha⟩ := by
  subst front
  unfold State.drawOf State.planePage
  dsimp only
  cases w.fmm.runOf (.layer n) with
  | none => rfl
  | some r =>
    dsimp only
    rw [pagesOfPlane_eq]

/-- A card has its fill and its graphic (R115). -/
theorem baseOf_card {o : Output} {c : Card} (card : w.cardOf o = some c) : w.baseOf o =
    .card c (w.comp.policy.fills.sel (cardNo c)) (w.graphicOf c (w.out o).activeTiming) := by
  unfold State.baseOf
  dsimp only
  rw [card]

theorem baseOf_live {o : Output} (view : (w.out o).inView = true) (live : w.cam.status = .live) : w.baseOf o =
    .camera w.cam.newest w.cam.settings.width w.cam.settings.height
      (fitPicture w.cam.settings.width w.cam.settings.height (w.out o).activeTiming.width (w.out o).activeTiming.height)
      (if w.guide.content = .hidden then none else some w.guide.front) := by
  have none_shown : w.cardOf o = none := by
    unfold State.cardOf
    dsimp only
    rcases inView_iff.1 view with owner | owner <;> rw [owner] <;> dsimp only <;> rw [live]
  unfold State.baseOf
  dsimp only
  rw [none_shown]
  exact if_pos view

theorem baseOf_normal {o : Output} (normal : (w.out o).owner = .normal)
    (unsuppressed : o ≠ .centre ∨ w.comp.suppression = false ∨ (w.out o).source = none) : w.baseOf o = w.filmOf o := by
  have none_shown : w.cardOf o = none := by
    unfold State.cardOf
    dsimp only
    rw [normal]
    dsimp only
    refine if_neg ?_
    rintro ⟨centre, suppressed, sourced⟩
    rcases unsuppressed with other | clear | none_source
    · exact other centre
    · rw [clear] at suppressed
      exact nomatch suppressed
    · rw [none_source] at sourced
      exact nomatch sourced
  have unviewed : (w.out o).inView = false := by simp [OutputRec.inView, normal]
  unfold State.baseOf
  dsimp only
  rw [none_shown, unviewed]
  rfl

theorem cardOf_suppressed {o : Output} (normal : (w.out o).owner = .normal) (centre : o = .centre) (suppressed : w.comp.suppression = true)
    (sourced : (w.out o).source.isSome = true) : w.cardOf o = some .suppressed := by
  unfold State.cardOf
  dsimp only
  rw [normal]
  exact if_pos ⟨centre, suppressed, sourced⟩

theorem cardOf_starting {o : Output} (view : (w.out o).inView = true) (early : w.cam.status = .off ∨ w.cam.status = .waking) :
    w.cardOf o = some .starting := by
  unfold State.cardOf
  dsimp only
  rcases inView_iff.1 view with owner | owner <;> rw [owner] <;> rcases early with status | status <;> dsimp only <;> rw [status]

theorem cardOf_unavailable {o : Output} (view : (w.out o).inView = true) (gone : w.cam.status = .lost ∨ w.cam.status = .frozen) :
    w.cardOf o = some .unavailable := by
  unfold State.cardOf
  dsimp only
  rcases inView_iff.1 view with owner | owner <;> rw [owner] <;> rcases gone with status | status <;> dsimp only <;> rw [status]

/-- An output without a stream shows its background. -/
theorem filmOf_none {o : Output} (unsourced : (w.out o).source = none) : w.filmOf o = .background (w.out o).background := by
  unfold State.filmOf
  dsimp only
  rw [unsourced]

/-- An output whose stream shows no frame shows its background. -/
theorem filmOf_unshown {o : Output} {i : StreamId} (sourced : (w.out o).source = some i)
    (unshown : showingSlot (w.stream i).ring = none) : w.filmOf o = .background (w.out o).background := by
  unfold State.filmOf
  dsimp only
  rw [sourced]
  dsimp only
  rw [unshown]

/-- An output shows its stream's SHOWING frame over its background (R67, R108). -/
theorem filmOf_shown {o : Output} {i : StreamId} {k stamp : Nat} {run : Run} (sourced : (w.out o).source = some i)
    (shown : showingSlot (w.stream i).ring = some (k, stamp)) (placed : w.fmm.runOf (.stream i) = some run) : w.filmOf o =
    .film (w.out o).background i k (run.base + k * (((w.stream i).width * (w.stream i).height * 2 + 65535) / 65536))
      (w.stream i).width (w.stream i).height (w.stream i).format
      (fitPicture (w.stream i).width (w.stream i).height (w.out o).activeTiming.width (w.out o).activeTiming.height) := by
  unfold State.filmOf
  dsimp only
  rw [sourced]
  dsimp only
  rw [shown, placed, ← slotPages_eq]

/-! ### The frame that begins (R107, R144) -/

/-- Beginning a frame writes the output's record and the overlay's holds alone. -/
theorem beginFrame_rest (o : Output) : (∀ n, (w.beginFrame o).layer n = w.layer n) ∧ (∀ i, (w.beginFrame o).stream i = w.stream i) ∧
    (w.beginFrame o).fmm = w.fmm ∧ (w.beginFrame o).cam = w.cam ∧ (w.beginFrame o).guide.content = w.guide.content ∧
    (w.beginFrame o).guide.front = w.guide.front := by
  unfold State.beginFrame
  dsimp only
  split
  · exact ⟨fun _ => rfl, fun _ => rfl, rfl, rfl, rfl, rfl⟩
  · exact ⟨fun _ => rfl, fun _ => rfl, rfl, rfl, rfl, rfl⟩

/-- The overlay plane that a frame lays is held (R144). -/
theorem beginFrame_holds {o : Output} {p : Fin 2} (laid : (w.baseOf o).overlay = some p) :
    ((w.beginFrame o).guide.holds.sel p).has o = true := by
  unfold State.beginFrame
  dsimp only
  rw [laid]
  dsimp only
  rw [Table.sel_upd, if_pos rfl]
  exact (has_put _ _ _ _).trans (if_pos rfl)

end

/-- What a refresh event leaves as it was, and the frame it fixes (R107). -/
theorem refresh_record {s : State} {o : Output} (on : (s.out o).owner ≠ .off) :
    let t := s.refresh o
    let w := s.beforeFrame o
    (∀ p, p ≠ o → t.out p = s.out p) ∧ (t.out o).linger = (s.out o).linger ∧
    (t.out o).activeTiming = (if (s.out o).owner = .normal then (s.out o).hostTiming else (s.out o).activeTiming) ∧
    (t.out o).frame = some ⟨(t.out o).activeTiming, w.baseOf o, w.layersOf o⟩ ∧ (w.out o).activeTiming = (t.out o).activeTiming := by
  obtain ⟨c, own⟩ := beforeFrame_own s o
  refine ⟨fun p other => refresh_out_ne s (Ne.symm other), ?_⟩
  rw [refresh_begins on, beginFrame_out, if_pos rfl, own]
  exact ⟨rfl, rfl, rfl, rfl⟩

end Sys2Proof.Machine
end

section
/-! PROOFS. A refresh event fixes the frame that begins, from the owner state of its output (R107 to R111, R113 to R115, R130). -/

namespace Sys2Proof.Machine

set_option Elab.async false

open Sys2Proof

section
variable {s : State} {o : Output}

/-- The state after a refresh event has what the state in which its frame began had, but for that frame and the overlay's holds. -/
theorem refresh_rest (on : (s.out o).owner ≠ .off) : let t := s.refresh o
    let w := s.beforeFrame o
    (∀ n, t.layer n = w.layer n) ∧ (∀ i, t.stream i = w.stream i) ∧ t.fmm = w.fmm ∧ t.cam = w.cam ∧
    t.guide.content = w.guide.content ∧ t.guide.front = w.guide.front := by
  rw [refresh_begins on]
  exact beginFrame_rest _ o

/-- What a refresh event's frame is decided from stands as it was before the event. -/
theorem beforeFrame_keeps (s : State) (o : Output) : let w := s.beforeFrame o
    (w.out o).owner = (s.out o).owner ∧ (w.out o).source = (s.out o).source ∧ (w.out o).background = (s.out o).background ∧
    w.comp.policy = s.comp.policy ∧ w.comp.suppression = s.comp.suppression ∧
    w.layers.designations = s.layers.designations ∧ w.cam.status = s.cam.status ∧ w.cam.settings = s.cam.settings := by
  have changed := beforeFrame_changes s o
  obtain ⟨-, owner, -, -⟩ := changed.at .owners (by decide) o
  obtain ⟨-, background, source, -⟩ := changed.at .outSettings (by decide) o
  obtain ⟨status, -⟩ := changed.at .camera
  exact ⟨owner, source, background, changed.at .policy, changed.at .suppression, changed.at .designations, status, changed.at .camSettings⟩

theorem inView_of_owner {r q : OutputRec} (owner : r.owner = q.owner) : r.inView = true ↔ q.owner = .camera ∨ q.owner = .linger := by
  rw [inView_iff, owner]

/-! ### What the frame shows -/

theorem refresh_drawOf (on : (s.out o).owner ≠ .off) (n : Fin 24) (x y : Int) (z alpha : Nat) :
    (s.beforeFrame o).drawOf n x y z alpha = (s.refresh o).drawOf n x y z alpha := by
  obtain ⟨layer, -, fmm, -⟩ := refresh_rest on
  unfold State.drawOf State.planePage
  rw [layer, fmm]

theorem refresh_layersOf (on : (s.out o).owner ≠ .off) (d : LayerDraw) :
    let t := s.refresh o
    d ∈ (s.beforeFrame o).layersOf o ↔ ∃ n p, ((t.layer n).state = .ready ∧ (t.layer n).kind = .menu ∧
      (t.layer n).placements.sel (outputNo o) = some p ∧ p.visible = true ∧
      ((s.out o).owner = .camera ∨ (s.out o).owner = .linger → (t.layer n).permitted = true)) ∧ d = t.drawOf n p.x p.y p.z p.alpha := by
  obtain ⟨layer, -⟩ := refresh_rest on
  obtain ⟨owner, -⟩ := beforeFrame_keeps s o
  dsimp only
  rw [mem_layersOf]
  simp only [layer, refresh_drawOf on, inView_of_owner owner]

/-- A card shown has the policy's fill and its graphic (R113, R115). -/
theorem refresh_card (on : (s.out o).owner ≠ .off) {c : Card} (shown : (s.beforeFrame o).cardOf o = some c) :
    let t := s.refresh o
    (s.beforeFrame o).baseOf o = .card c (s.comp.policy.fills.sel (cardNo c)) (match s.layers.designations.sel (cardNo c) with
      | none => none
      | some n => if (t.layer n).state = .ready then
          some (t.drawOf n (Int.tdiv (((t.out o).activeTiming.width : Int) - (t.layer n).width) 2)
            (Int.tdiv (((t.out o).activeTiming.height : Int) - (t.layer n).height) 2) 0 255)
        else none) := by
  obtain ⟨layer, -⟩ := refresh_rest on
  obtain ⟨-, -, -, policy, -, designations, -⟩ := beforeFrame_keeps s o
  obtain ⟨-, -, -, -, timing⟩ := refresh_record on
  dsimp only
  rw [baseOf_card _ shown, policy, timing]
  unfold State.graphicOf
  rw [designations]
  cases s.layers.designations.sel (cardNo c) with
  | none => rfl
  | some n =>
    dsimp only
    rw [refresh_drawOf on, layer]

/-- In NORMAL an output shows the suppressed card, its stream's current frame over the background, or the background alone
(R67, R108, R113). -/
theorem refresh_normal (normal : (s.out o).owner = .normal) :
    let t := s.refresh o
    let r := s.out o
    let base := (s.beforeFrame o).baseOf o
    (r.source = none → base = .background r.background) ∧
    ∀ i, r.source = some i →
      (o = .centre → s.comp.suppression = true → (s.beforeFrame o).cardOf o = some .suppressed) ∧
      (o ≠ .centre ∨ s.comp.suppression = false → (showingSlot (t.stream i).ring = none → base = .background r.background) ∧
        ∀ k stamp run, showingSlot (t.stream i).ring = some (k, stamp) → t.fmm.runOf (.stream i) = some run →
          base = .film r.background i k (run.base + k * (((t.stream i).width * (t.stream i).height * 2 + 65535) / 65536))
            (t.stream i).width (t.stream i).height (t.stream i).format
            (fitPicture (t.stream i).width (t.stream i).height (t.out o).activeTiming.width (t.out o).activeTiming.height)) := by
  have on : (s.out o).owner ≠ .off := by rw [normal]; exact nofun
  obtain ⟨owner, source, background, -, suppression, -⟩ := beforeFrame_keeps s o
  obtain ⟨-, stream, fmm, -⟩ := refresh_rest on
  obtain ⟨-, -, -, -, timing⟩ := refresh_record on
  dsimp only
  rw [← background, ← timing, ← suppression, fmm]
  simp only [stream]
  have normal := owner.trans normal
  refine ⟨fun unsourced => ?_, fun i sourced => ⟨fun centre suppressed => ?_, fun clear => ?_⟩⟩
  · have unsourced := source.trans unsourced
    exact (baseOf_normal _ normal (.inr (.inr unsourced))).trans (filmOf_none _ unsourced)
  · exact cardOf_suppressed _ normal centre suppressed (by rw [source, sourced]; rfl)
  · have sourced := source.trans sourced
    have film := baseOf_normal _ normal (clear.imp_right .inl)
    exact ⟨fun unshown => film.trans (filmOf_unshown _ sourced unshown),
      fun k stamp run shown placed => film.trans (filmOf_shown _ sourced shown placed)⟩

theorem beforeFrame_eq (s : State) (o : Output) : s.beforeFrame o = (s.beforeCamera o).refreshCamera o := rfl

/-- An output that is in a live camera view after it has looked at the camera has taken the newest-complete slot. -/
theorem refreshCamera_live {v w : State} (looked : w = v.refreshCamera o) (view : (w.out o).inView = true) (live : w.cam.status = .live) :
    w.cam.shown = w.cam.newest ∧ ∀ k, w.cam.newest = some k → (w.cam.slots.sel k).holds.has o = true := by
  subst looked
  have camera := refreshCamera_changes v o
  rw [out_of_changes camera o] at view
  exact refreshCamera_takes view ((camera.at .camera).1.symm.trans live)

/-- A camera view that is live shows the newest-complete capture slot, which it holds, and lays the overlay that is in front,
which it holds too (R114, R130, R144). -/
theorem refresh_live (on : (s.out o).owner ≠ .off) (view : (s.out o).owner = .camera ∨ (s.out o).owner = .linger)
    (live : s.cam.status = .live) :
    let t := s.refresh o
    (s.beforeFrame o).baseOf o = .camera t.cam.newest s.cam.settings.width s.cam.settings.height
      (fitPicture s.cam.settings.width s.cam.settings.height (t.out o).activeTiming.width (t.out o).activeTiming.height)
      (if t.guide.content = .hidden then none else some t.guide.front) ∧
    t.cam.shown = t.cam.newest ∧ (∀ k, t.cam.newest = some k → (t.cam.slots.sel k).holds.has o = true) ∧
    (t.guide.content ≠ .hidden → (t.guide.holds.sel t.guide.front).has o = true) := by
  obtain ⟨owner, -, -, -, -, -, status, settings⟩ := beforeFrame_keeps s o
  obtain ⟨-, -, -, -, timing⟩ := refresh_record on
  have viewed := (inView_of_owner owner).2 view
  have base := baseOf_live (s.beforeFrame o) viewed (status.trans live)
  rw [timing, settings] at base
  have taken := refreshCamera_live (beforeFrame_eq s o) viewed (status.trans live)
  have laid : (s.beforeFrame o).guide.content ≠ .hidden → ((s.refresh o).guide.holds.sel (s.beforeFrame o).guide.front).has o = true := by
    intro shown
    rw [refresh_begins on]
    refine beginFrame_holds _ ?_
    rw [base, if_neg shown]
    rfl
  obtain ⟨-, -, -, cam, content, front⟩ := refresh_rest on
  dsimp only
  rw [cam, content, front]
  exact ⟨base, taken.1, taken.2, laid⟩

end

/-! ### The pixels of a frame (R108 to R111) -/

section
variable (m : FrameMemory) (x y : Nat)

theorem filmColour_some {c : Rgb} {i : StreamId} {k page w h : Nat} {format : PixelFormat} {fit : Fit} {col row : Nat}
    (covered : fit.source w h x y = some (col, row)) :
    (FrameBase.film c i k page w h format fit).colour m x y = m.pictureColour page w format col row := by
  unfold FrameBase.colour
  dsimp only
  rw [covered]

theorem filmColour_none {c : Rgb} {i : StreamId} {k page w h : Nat} {format : PixelFormat} {fit : Fit}
    (bare : fit.source w h x y = none) : (FrameBase.film c i k page w h format fit).colour m x y = c := by
  unfold FrameBase.colour
  dsimp only
  rw [bare]

/-- The camera picture below the overlay, black where no slot was taken (R114). -/
def FrameMemory.captureColour (m : FrameMemory) (slot : Option (Fin 3)) (w col row : Nat) : Rgb :=
  match slot with
  | some k => m.pictureColour (capturePage k) w .yuv422 col row
  | none => ⟨0, 0, 0⟩

theorem cameraColour_none {slot : Option (Fin 3)} {w h : Nat} {fit : Fit} {overlay : Option (Fin 2)}
    (bare : fit.source w h x y = none) : (FrameBase.camera slot w h fit overlay).colour m x y = ⟨0, 0, 0⟩ := by
  unfold FrameBase.colour
  dsimp only
  rw [bare]

theorem cameraColour_bare {slot : Option (Fin 3)} {w h : Nat} {fit : Fit} {col row : Nat}
    (covered : fit.source w h x y = some (col, row)) :
    (FrameBase.camera slot w h fit none).colour m x y = m.captureColour slot w col row := by
  unfold FrameBase.colour
  dsimp only
  rw [covered]
  rfl

theorem cameraColour_overlaid {slot : Option (Fin 3)} {w h : Nat} {fit : Fit} {p : Fin 2} {col row : Nat}
    (covered : fit.source w h x y = some (col, row)) :
    (FrameBase.camera slot w h fit (some p)).colour m x y = overlayOver m p w col row (m.captureColour slot w col row) := by
  unfold FrameBase.colour
  dsimp only
  rw [covered]
  rfl

end

/-- The pixel sent is the frame's within its timing, and none outside it or without a frame. -/
theorem pixel_eq {s : State} {o : Output} (x y : Nat) : ((s.out o).frame = none → s.pixel o x y = none) ∧
    ∀ f, (s.out o).frame = some f → s.pixel o x y = if x < f.timing.width ∧ y < f.timing.height then
      some (f.layers.foldl (fun below d => d.over s.mem x y below) (f.base.colour s.mem x y)) else none := by
  unfold State.pixel
  refine ⟨fun frame => by rw [frame], fun f frame => ?_⟩
  rw [frame]
  rfl

/-- Settles O42. -/
theorem refreshEventFixesTheFrame : Obligations.RefreshEventFixesTheFrame := by
  unfold Obligations.RefreshEventFixesTheFrame
  intro planeOf rgb word narrow picture blended laid taken under
  refine ⟨fun s o off => ?_, fun s o on => ⟨s.refresh o, rfl, refresh_changes s o, ?_⟩, fitPicture_eq, fun s o x y => ?_⟩
  · show execRefreshEvent o s = _
    unfold execRefreshEvent State.refresh
    rw [if_pos off]
  · obtain ⟨others, linger, active, frame, -⟩ := refresh_record on
    obtain ⟨owner, -, -, -, -, -, status, -⟩ := beforeFrame_keeps s o
    obtain ⟨sorted, once⟩ := layersOf_ordered (s.beforeFrame o) o
    have drawn := fun n => drawOf_eq (s.refresh o) (page := planeOf (s.refresh o) n) (n := n) rfl
    have mem := refresh_layersOf on
    have card := @refresh_card s o on
    have normal := @refresh_normal s o
    have live := refresh_live on
    have viewed := inView_of_owner owner
    have early := cardOf_starting (s.beforeFrame o) (o := o)
    have gone := cardOf_unavailable (s.beforeFrame o) (o := o)
    simp only [drawn] at mem card
    rw [status] at early gone
    generalize s.beforeFrame o = w at *
    generalize s.refresh o = t at *
    refine ⟨others, linger, active, _, frame, rfl, sorted, once, mem, fun owns => (normal owns).1, fun i owns sourced => ?_,
      fun view => ⟨fun status => card (early (viewed.2 view) status), fun status => card (gone (viewed.2 view) status), live view⟩⟩
    obtain ⟨suppressed, clear⟩ := (normal owns).2 i sourced
    exact ⟨fun centre on => card (suppressed centre on), clear⟩
  · have layer_over : laid s.mem x y = fun below d => d.over s.mem x y below :=
      funext fun below => funext fun d => (over_eq s.mem d x y below).symm
    have picture_eq : ∀ page w format col row, picture s.mem page w format col row = s.mem.pictureColour page w format col row :=
      fun page w format col row => by
        rw [pictureColour_eq]
        cases format with
        | rgb565 => rfl
        | yuv422 => exact (yuvColour_eq _ _ _).symm
    have covers : ∀ fit w h, taken fit w h x y = fit.source w h x y := fun _ _ _ => rfl
    have colour : ∀ base, under s.mem base x y = base.colour s.mem x y := fun base => by
      cases base with
      | background c => rfl
      | film c i k page w h format fit =>
        simp only [under, covers, picture_eq]
        cases covered : fit.source w h x y with
        | none => exact (filmColour_none _ _ _ covered).symm
        | some p => exact (filmColour_some _ _ _ covered).symm
      | card c fill graphic =>
        cases graphic with
        | none => rfl
        | some d => exact congrFun (congrFun layer_over fill) d
      | camera slot w h fit overlay =>
        have live : ∀ col row, (match slot with
            | some k => picture s.mem (k.1 * 38) w .yuv422 col row
            | none => ⟨0, 0, 0⟩) = s.mem.captureColour slot w col row := fun col row => by
          cases slot with
          | none => rfl
          | some k => exact picture_eq (k.1 * 38) w .yuv422 col row
        simp only [under, covers]
        cases covered : fit.source w h x y with
        | none => exact (cameraColour_none _ _ _ covered).symm
        | some p =>
          cases overlay with
          | none => exact (live p.1 p.2).trans (cameraColour_bare _ _ _ covered).symm
          | some plane =>
            rw [cameraColour_overlaid _ _ _ covered, overlayOver_eq, ← live]
            rfl
    have sent := pixel_eq (s := s) (o := o) x y
    simp only [layer_over, colour]
    exact sent

end Sys2Proof.Machine
end

section
/-! SUPPORT. What flips, repairs and loads make of layer records and of the notice queue (R80, R81, R84, R86, R88). -/

namespace Sys2Proof.Machine

set_option Elab.async false

open Sys2Proof

/-! ### The plane that loading writes (R6, R75, R81) -/

theorem target_eq (l : Layer) : l.target = if l.planes = 2 ∧ l.front = 0 then 1 else 0 := by
  unfold Layer.target otherPlane
  by_cases two : l.planes = 2
  · simp only [two, if_true, true_and]
  · simp only [two, if_false, false_and]

theorem formatBytes_eq (x : LayerFormat) : LayerFormat.bytes x = if x = .argb8888 then 4 else 2 := by
  cases x <;> rfl

theorem planeSize_eq (l : Layer) : l.planeSize = l.width * l.height * (if l.format = .argb8888 then 4 else 2) := by
  unfold Layer.planeSize planeBytes
  rw [formatBytes_eq]

/-- Where the bytes of a layer's load target begin, from its run descriptor. -/
theorem targetAddress_eq {s : State} {n : Fin 24} {run : Run} (placed : s.fmm.runOf (.layer n) = some run) :
    let l := s.layer n
    let bpp := if l.format = .argb8888 then 4 else 2
    let plane := if l.planes = 2 ∧ l.front = 0 then 1 else 0
    pageAddress (s.planePage n l.target) = (run.base + plane * ((l.width * l.height * bpp + 65535) / 65536)) * 65536 := by
  dsimp only
  unfold pageAddress State.planePage Config.pageBytes
  rw [placed]
  dsimp only
  rw [pagesOfPlane_eq, target_eq, apply_ite Fin.val]
  rfl

/-- A layer with no flip pending that no LAYER frame loads is not busy (R82, R83). -/
theorem not_busy {l : Layer} (calm : l.flipPending = false) (unloaded : l.vinLoad = none) :
    ¬ (l.flipPending = true ∨ l.vinLoad.isSome = true) := by simp [calm, unloaded]

/-! ### A flip (R84) -/

/-- Whether a flip brings a damaged plane of a READY layer to the front (R84). -/
def Layer.hurts (l : Layer) : Bool := decide (l.state = .ready) && l.damaged.sel l.target

theorem flipped_eq (l : Layer) : l.flipped = { l with
    front := l.target, mark := 0, flipPending := false, state := if l.hurts = true then .damaged else l.state } := by
  unfold Layer.flipped Layer.hurts
  rw [target_eq]
  simp only [Bool.and_eq_true, decide_eq_true_eq]

theorem flipped_state (l : Layer) : l.flipped.state = if l.hurts = true then .damaged else l.state := by
  rw [flipped_eq]

/-- A flip changes the state exactly of a layer that it brings a damaged plane of to the front. -/
theorem flipped_state_same (l : Layer) : l.flipped.state = l.state ↔ l.hurts = false := by
  rw [flipped_state]
  cases hurt : l.hurts with
  | false => exact iff_of_true rfl rfl
  | true =>
    have ready : l.state = .ready := by
      unfold Layer.hurts at hurt
      simpa using (Bool.and_eq_true_iff.1 hurt).1
    rw [ready]
    exact iff_of_false nofun nofun

theorem flip_eq (s : State) (n : Fin 24) : s.flip n =
    let t := s.putLayer n (s.layer n).flipped
    let u := if (s.layer n).flipPending then t.report (loadedEvent n) else t
    if (s.layer n).hurts then u.report (damagedEvent n) else u := by
  rw [flipped_eq]
  rfl

theorem flip_layer (s : State) (n m : Fin 24) : (s.flip n).layer m = if n = m then (s.layer n).flipped else s.layer m := by
  rw [flip_eq]
  dsimp only
  rw [← putLayer_layer s n (s.layer n).flipped m]
  split <;> split <;> rfl

theorem flip_notices (s : State) (n : Fin 24) : (s.flip n).link.notices =
    let q := if (s.layer n).flipPending then queueReport (loadedEvent n) s.link.notices else s.link.notices
    if (s.layer n).hurts then queueReport (damagedEvent n) q else q := by
  rw [flip_eq]
  dsimp only
  split <;> split <;> rfl

/-- A pending flip that is performed is noticed. -/
theorem flip_noticed {s : State} {n : Fin 24} (pending : (s.layer n).flipPending = true) : (7, 0) ∈ (s.flip n).noticeKeys := by
  unfold State.noticeKeys
  rw [flip_notices, if_pos pending]
  dsimp only
  split
  · exact (mem_keys_queueReport _).2 (.inr rfl)
  · exact (mem_keys_queueReport _).2 (.inr rfl)

/-! ### On view (R80) -/

/-- Two states agree on what decides, beside a layer's record, whether the layer is on view: the outputs' owners, the cards they
show and the designations. -/
def SameViews (s t : State) : Prop :=
  (∀ o, (t.out o).owner = (s.out o).owner ∧ (t.out o).shownCard = (s.out o).shownCard) ∧
  t.layers.designations = s.layers.designations

theorem SameViews.of_changes {ps : List Piece} {s t : State} (c : Changes ps s t)
    (owners : ps.contains .owners = false := by decide) (run : ps.contains .outRun = false := by decide)
    (designations : ps.contains .designations = false := by decide) : SameViews s t :=
  ⟨fun o => ⟨(c.at .owners owners o).2.1, (c.at .outRun run o).2.2.2.1⟩, c.at .designations designations⟩

theorem SameViews.onViewOn {s t : State} (h : SameViews s t) {n : Fin 24} (layer : t.layer n = s.layer n) (o : Output) :
    t.onViewOn n o = s.onViewOn n o := by
  obtain ⟨outs, designations⟩ := h
  obtain ⟨owner, card⟩ := outs o
  unfold State.onViewOn OutputRec.inView
  dsimp only
  rw [layer, owner, card, designations]

theorem SameViews.onView {s t : State} (h : SameViews s t) {n : Fin 24} (layer : t.layer n = s.layer n) : t.onView n = s.onView n := by
  unfold State.onView
  exact congrArg outputs.any (funext fun o => h.onViewOn layer o)

theorem SameViews.putLayer {s t : State} (h : SameViews s t) (n : Fin 24) (l : Layer) : SameViews (s.putLayer n l) (t.putLayer n l) := h

/-! ### Pending flips performed (R84) -/

/-- What performing the pending flips of some layers makes of a state. -/
structure FlipsOf (flips : Fin 24 → Prop) (s t : State) : Prop where
  done : ∀ m, flips m → t.layer m = (s.layer m).flipped ∧ (7, 0) ∈ t.noticeKeys
  kept : ∀ m, ¬ flips m → t.layer m = s.layer m
  silent : (∀ m, ¬ flips m) → t.link.notices = s.link.notices

/-- A test of layers that reads the layer's own record and what decides whether it is on view. -/
def ReadsViews (p : State → Fin 24 → Bool) : Prop :=
  ∀ s t n, SameViews s t → t.layer n = s.layer n → p t n = p s n

/-- One layer's flip, when it is pending and a test picks the layer. -/
def State.flipIf (p : State → Fin 24 → Bool) (s : State) (n : Fin 24) : State :=
  if (s.layer n).flipPending && p s n then s.flip n else s

section
variable {p : State → Fin 24 → Bool}

theorem flipIf_picks {s : State} {n : Fin 24} (pending : (s.layer n).flipPending = true) (picks : p s n = true) :
    s.flipIf p n = s.flip n := if_pos (by rw [pending, picks]; rfl)

theorem flipIf_skips {s : State} {n : Fin 24} (skips : ¬ ((s.layer n).flipPending = true ∧ p s n = true)) : s.flipIf p n = s :=
  if_neg (by rwa [Bool.and_eq_true])

theorem flipIf_changes (s : State) (n : Fin 24) : Changes [.layers, .notices] s (s.flipIf p n) := .ite (flip_changes s n) (.refl _ s)

theorem flipIf_layer_ne (s : State) {n m : Fin 24} (other : n ≠ m) : (s.flipIf p n).layer m = s.layer m := by
  unfold State.flipIf
  split
  · rw [flip_layer, if_neg other]
  · rfl

theorem foldl_flipIf_noticeKeys (ns : List (Fin 24)) {s : State} {k : Nat × Nat} (h : k ∈ s.noticeKeys) :
    k ∈ (ns.foldl (State.flipIf p) s).noticeKeys := by
  refine foldl_keeps (P := fun t : State => k ∈ t.noticeKeys) (fun t n queued => ?_) ns h
  unfold State.flipIf
  split
  · exact flip_noticeKeys n queued
  · exact queued

/-- A fold over some layers performs the pending flips that the test picks in the state it begins with: no flip changes what the
test reads of another layer. -/
theorem foldl_flips (reads : ReadsViews p) : ∀ (ns : List (Fin 24)), ns.Nodup → ∀ s : State,
    FlipsOf (fun m => m ∈ ns ∧ (s.layer m).flipPending = true ∧ p s m = true) s (ns.foldl (State.flipIf p) s)
  | [], _, s => ⟨fun _ h => (List.not_mem_nil h.1).elim, fun _ _ => rfl, fun _ => rfl⟩
  | n :: ns, distinct, s => by
    obtain ⟨absent, distinct⟩ := List.nodup_cons.1 distinct
    have later := foldl_flips reads ns distinct (s.flipIf p n)
    rw [List.foldl_cons]
    have keys := fun k => foldl_flipIf_noticeKeys (p := p) (s := s.flipIf p n) (k := k) ns
    generalize ns.foldl (State.flipIf p) (s.flipIf p n) = t at later keys ⊢
    have apart : ∀ {m}, m ∈ ns → n ≠ m := fun listed same => absent (same ▸ listed)
    have away : ∀ {m}, n ≠ m → (s.flipIf p n).layer m = s.layer m := flipIf_layer_ne s
    have tests : ∀ {m}, n ≠ m → p (s.flipIf p n) m = p s m := fun other =>
      reads _ _ _ (.of_changes (flipIf_changes s n)) (away other)
    have own : t.layer n = (s.flipIf p n).layer n := later.kept n fun h => absent h.1
    refine ⟨fun m ⟨listed, pending, picks⟩ => ?_, fun m spared => ?_, fun none_flips => ?_⟩
    · rcases List.mem_cons.1 listed with rfl | listed
      · rw [flipIf_picks pending picks] at own keys
        exact ⟨by rw [own, flip_layer, if_pos rfl], keys _ (flip_noticed pending)⟩
      · have other := apart listed
        obtain ⟨flipped, noticed⟩ := later.done m ⟨listed, by rwa [away other], by rwa [tests other]⟩
        exact ⟨by rw [flipped, away other], noticed⟩
    · by_cases here : n = m
      · subst here
        rw [own, flipIf_skips fun h => spared ⟨.head _, h⟩]
      · have not_later : ¬ (m ∈ ns ∧ ((s.flipIf p n).layer m).flipPending = true ∧ p (s.flipIf p n) m = true) := by
          rw [away here, tests here]
          exact fun ⟨listed, h⟩ => spared ⟨.tail _ listed, h⟩
        exact (later.kept m not_later).trans (away here)
    · have skipped : s.flipIf p n = s := flipIf_skips fun h => none_flips n ⟨.head _, h⟩
      rw [skipped] at later
      exact later.silent fun m ⟨listed, h⟩ => none_flips m ⟨.tail _ listed, h⟩

theorem flipWhere_flips (reads : ReadsViews p) (s : State) :
    FlipsOf (fun m => (s.layer m).flipPending = true ∧ p s m = true) s (s.flipWhere p) := by
  have all := foldl_flips reads (List.finRange 24) (List.nodup_finRange 24) s
  simp only [List.mem_finRange, true_and] at all
  exact all

end

theorem onViewOn_reads (o : Output) : ReadsViews fun u n => u.onViewOn n o := fun _ _ _ views layer => views.onViewOn layer o

theorem offView_reads : ReadsViews fun u n => !u.onView n := fun _ _ _ views layer => congrArg (!·) (views.onView layer)

theorem settleFlips_flips (s : State) :
    FlipsOf (fun m => (s.layer m).flipPending = true ∧ s.onView m = false) s s.settleFlips := by
  have picked := flipWhere_flips offView_reads s
  simp only [Bool.not_eq_true'] at picked
  exact picked

/-- Flips performed, layer by layer, and the queue untouched when there is none: the form in which the statements say it. -/
theorem FlipsOf.outcome {flips : Fin 24 → Prop} {s t : State} (h : FlipsOf flips s t) :
    (∀ m, (flips m → t.layer m = (s.layer m).flipped ∧ (7, 0) ∈ t.noticeKeys) ∧ (¬ flips m → t.layer m = s.layer m)) ∧
    ((∀ m, ¬ flips m) → t.link.notices = s.link.notices) := ⟨fun m => ⟨h.done m, h.kept m⟩, h.silent⟩

/-- The flips that a request's block performs are those of the state it found, when that is the state `u` but for the link. -/
theorem settleFlips_answered {u v : State} (views : SameViews u v) (layers : ∀ m, v.layer m = u.layer m)
    (notices : v.link.notices = u.link.notices) (code : Byte) (r : Result) (b : ReplyBody) :
    FlipsOf (fun m => (u.layer m).flipPending = true ∧ u.onView m = false) u (v.settleFlips.answer code r b) := by
  obtain ⟨done, kept, silent⟩ := settleFlips_flips v
  have same : ∀ m, v.onView m = u.onView m := fun m => views.onView (layers m)
  simp only [layers, same] at done kept silent
  generalize v.settleFlips = w at done kept silent ⊢
  exact ⟨done, kept, fun none_flips => (silent none_flips).trans notices⟩

/-! ### A load completed (R86, R88) -/

theorem mended_eq (l : Layer) : l.mended =
    let x := { l with damaged := l.damaged.put l.target false }
    if l.state = .damaged then
      (if x.damaged.sel l.front = true then { x with state := .ready, front := l.target, mark := 0, flipPending := false }
        else { x with state := .ready })
    else x := by
  unfold Layer.mended
  rw [target_eq]

/-- A mended layer is not DAMAGED, and no flip has become pending. -/
theorem mended_rest (l : Layer) : l.mended.state ≠ .damaged ∧ (l.flipPending = false → l.mended.flipPending = false) := by
  rw [mended_eq]
  dsimp only
  split
  · split
    · exact ⟨nofun, fun _ => rfl⟩
    · exact ⟨nofun, id⟩
  · exact ⟨‹_›, id⟩

theorem putLayer_putLayer (s : State) (n : Fin 24) (l m : Layer) : (s.putLayer n l).putLayer n m = s.putLayer n m := by
  unfold State.putLayer Table.put
  rw [Vector.set_set]

/-- The repair after a load of the whole load target mends the layer, and reports nothing when no flip is pending. -/
theorem repair_eq {s : State} {n : Fin 24} (idle : (s.layer n).flipPending = false) :
    s.repair n (s.layer n).target = s.putLayer n (s.layer n).mended := by
  rw [mended_eq]
  unfold State.repair
  dsimp only
  split
  · split
    · generalize repaired : { s.layer n with damaged := (s.layer n).damaged.put (s.layer n).target false, state := .ready } = x
      have whole : x.hurts = false := by
        rw [← repaired]
        exact Bool.and_eq_false_iff.2 (.inr (Table.sel_put_same _ _ _))
      have calm : x.flipPending = false := by rw [← repaired]; exact idle
      rw [flip_eq, putLayer_layer_same, whole, calm, putLayer_putLayer, flipped_eq, whole, ← repaired]
      rfl
    · rfl
  · rfl

end Sys2Proof.Machine
end

section
/-! PROOFS. DELETE LAYER, LOAD BLOCK, PRESENT and SET CARD (R80 to R84, R88 to R90, R92). -/

namespace Sys2Proof.Machine

set_option Elab.async false

open Sys2Proof

/-! ### DELETE LAYER (R90) -/

/-- An entry of a three-entry table whose entries have all been changed. -/
theorem sel_upd_all {α : Type} (t : Table α 3) (f : α → α) (c : Fin 3) : (((t.upd 0 f).upd 1 f).upd 2 f).sel c = f (t.sel c) := by
  simp only [Table.sel_upd]
  match c with
  | 0 => rfl
  | 1 => rfl
  | 2 => rfl

section
variable (s : State) (n : Fin 24)

theorem deleteLayer_layer (m : Fin 24) : (s.deleteLayer n).layer m = if n = m then .initial else s.layer m := by
  unfold State.deleteLayer
  dsimp only
  cases (s.layer n).vinLoad with
  | some p => exact putLayer_layer _ n .initial m
  | none => exact putLayer_layer s n .initial m

theorem deleteLayer_designations (c : Fin 3) : (s.deleteLayer n).layers.designations.sel c =
    if s.layers.designations.sel c = some n then none else s.layers.designations.sel c := sel_upd_all _ _ c

theorem deleteLayer_vin (p : StreamId) : (s.deleteLayer n).vin p = if (s.layer n).vinLoad = some p then .ignored else s.vin p := by
  unfold State.deleteLayer
  dsimp only
  cases (s.layer n).vinLoad with
  | some q => exact (putVin_vin s q .ignored p).trans (if_congr Option.some_inj.symm rfl rfl)
  | none => rfl

theorem deleteLayer_out (o : Output) :
    (s.deleteLayer n).out o = { s.out o with frame := (s.out o).frame.map (OutputFrame.without · n) } := by
  unfold State.deleteLayer
  dsimp only
  rw [mapFrames_out]
  cases (s.layer n).vinLoad <;> rfl

end

/-- Settles O34: the request by its checks, and what the deletion makes of each record. -/
theorem deleteLayerRemovesEveryTrace : Obligations.DeleteLayerRemovesEveryTrace := by
  refine fun s _ => ⟨fun k high => turnsAway_of_whole rfl rfl (withLayer_none high _ _), fun n => ⟨fun unused => ?_, fun used => ?_⟩⟩
  · exact answers_of_whole_refusal rfl rfl ((withLayer_some n _ _).trans (if_pos (by rwa [taking_layer])))
  · refine answers_of_whole rfl rfl ((withLayer_some n _ _).trans (if_neg (by rwa [taking_layer]))) (deleteLayer_changes _ _) ?_
    refine ⟨?_, fun m other => ?_, ?_, fun c => ?_, fun p => ?_, fun o => ?_, fun o => ?_⟩
    · rw [answer_layer, deleteLayer_layer, if_pos rfl]
    · rw [answer_layer, deleteLayer_layer, if_neg (Ne.symm other), taking_layer]
    · rw [answer_fmm, deleteLayer_fmm, taking_fmm]
    · rw [answer_layers, deleteLayer_designations, taking_layers]
    · rw [answer_vin, deleteLayer_vin, taking_layer, taking_vin]
    · rw [answer_out, deleteLayer_out, taking_out]
      dsimp only
      refine congrArg (fun g => (s.out o).frame.map g) (funext fun f => ?_)
      unfold OutputFrame.without
      cases f.base with
      | card c fill graphic =>
        cases graphic with
        | none => rfl
        | some d =>
          dsimp only
          split <;> rfl
      | background | film | camera => rfl
    · rw [answer_out, deleteLayer_out, taking_out]
      exact ⟨rfl, rfl, rfl, rfl⟩

/-! ### LOAD BLOCK (R81, R82, R88) -/

/-- A block written leaves the other layers, raises the mark, and completes a load when it fills the plane. -/
theorem loadBlock_result {s : State} {n : Fin 24} (idle : (s.layer n).flipPending = false) (offset : Nat) (data : List Byte) :
    let l := s.layer n
    let mark := raiseMark l.mark offset data.length
    let u := s.loadBlock n offset data
    (∀ m, m ≠ n → u.layer m = s.layer m) ∧
    (l.mark < l.planeSize ∧ mark = l.planeSize →
      u.layer n = Layer.mended { l with mark := mark } ∧ Noted s u (loadedEvent n)) ∧
    (¬ (l.mark < l.planeSize ∧ mark = l.planeSize) → u.layer n = { l with mark := mark } ∧ u.link.notices = s.link.notices) := by
  unfold State.loadBlock
  dsimp only
  generalize s.mem.write _ _ = mem
  generalize raised : { s.layer n with mark := raiseMark (s.layer n).mark offset data.length } = x
  generalize stored : State.putLayer { s with mem := mem } n x = t
  have others : ∀ m, m ≠ n → t.layer m = s.layer m := fun m other => stored ▸ putLayer_layer_ne _ _ _ (Ne.symm other)
  have own : t.layer n = x := stored ▸ putLayer_layer_same _ _ _
  have same : t.link.notices = s.link.notices := stored ▸ rfl
  split
  · rename_i completes
    have mends : (t.report (loadedEvent n)).repair n (s.layer n).target = (t.report (loadedEvent n)).putLayer n x.mended := by
      have target : (s.layer n).target = ((t.report (loadedEvent n)).layer n).target := by rw [report_layer, own, ← raised]; rfl
      rw [target, repair_eq (by rw [report_layer, own, ← raised]; exact idle), report_layer, own]
    rw [mends]
    refine ⟨fun m other => ?_, fun _ => ⟨putLayer_layer_same _ _ _, ?_⟩, fun no => absurd completes no⟩
    · rw [putLayer_layer_ne _ _ _ (Ne.symm other), report_layer, others m other]
    · exact congrArg (queueReport (loadedEvent n)) same
  · exact ⟨others, fun completes => absurd completes ‹_›, fun _ => ⟨own, same⟩⟩

/-- Settles O36: the request by its checks in their order, the write by its address, the mark and the load by `loadBlock_result`. -/
theorem loadBlockWritesTheLoadTarget : Obligations.LoadBlockWritesTheLoadTarget := by
  refine fun s f _ => ⟨fun bad => ?_, fun n number filled => ?_⟩
  · refine turnsAway_of_whole rfl rfl ?_
    dsimp only
    by_cases high : 24 ≤ f.layer
    · exact withLayer_none high _ _
    · have named := withLayer_some ⟨f.layer, Nat.lt_of_not_le high⟩ (s.taking 0x44#8)
      exact (named _).trans (if_pos (bad.resolve_left high))
  · obtain ⟨layer, offset, data⟩ := f
    obtain rfl : n.1 = layer := number
    have filled : data ≠ [] := filled
    intro l bpp size last
    have whole : l.planeSize = size := planeSize_eq l
    refine ⟨fun unused => ?_, fun used beyond => ?_, fun used fits busy => ?_, fun run used fits idle unloaded placed => ?_⟩
    · refine turnsAway_of_whole rfl rfl ((withLayer_some n _ _).trans ?_)
      dsimp only
      rw [taking_layer, if_neg filled, if_pos unused]
    · refine turnsAway_of_whole rfl rfl ((withLayer_some n _ _).trans ?_)
      dsimp only
      rw [taking_layer, if_neg filled, if_neg used, if_pos (whole ▸ beyond)]
    · refine turnsAway_of_whole rfl rfl ((withLayer_some n _ _).trans ?_)
      dsimp only
      rw [taking_layer, if_neg filled, if_neg used, if_neg (whole ▸ Nat.not_lt.2 fits), if_pos busy]
    · intro plane a mark completes inside
      have address : pageAddress ((s.taking 0x44#8).planePage n ((s.taking 0x44#8).layer n).target) + offset.toNat = a := by
        rw [targetAddress_eq (by rwa [taking_fmm]), taking_layer]
      have calm : ((s.taking 0x44#8).layer n).flipPending = false := by rwa [taking_layer]
      obtain ⟨others, completed, partly⟩ := loadBlock_result calm offset.toNat data
      rw [taking_layer, whole] at completed partly
      refine answers_of_whole rfl rfl (u := (s.taking 0x44#8).loadBlock n offset.toNat data) ((withLayer_some n _ _).trans ?_)
        (loadBlock_changes _ _ _ _) ⟨fun x => ?_, fun m other => ?_, fun now => ?_, fun not_yet => ?_⟩
      · dsimp only
        rw [taking_layer, if_neg filled, if_neg used, if_neg (whole ▸ Nat.not_lt.2 fits), if_neg (not_busy idle unloaded)]
        rfl
      · rw [answer_mem, loadBlock_mem, address, taking_mem]
        exact memoryReadsWhatWasWritten s.mem a data x inside
      · rw [answer_layer, others m other, taking_layer]
      · obtain ⟨record, noted⟩ := completed now
        refine ⟨record, ?_⟩
        unfold Noted at noted ⊢
        rw [answer_notices, noted, taking_notices]
        rfl
      · obtain ⟨record, same⟩ := partly not_yet
        exact ⟨record, same.trans (taking_notices s _)⟩

end Sys2Proof.Machine
end

section
/-! PROOFS. PRESENT, SET CARD, and the pending flips of a refresh event (R80, R83, R84, R89, R92). -/

namespace Sys2Proof.Machine

set_option Elab.async false

open Sys2Proof

/-! ### PRESENT (R83) -/

theorem requestFlip_shown {s : State} {n : Fin 24} (shown : s.onView n = true) :
    s.requestFlip n = (s.putLayer n { s.layer n with flipPending := true }, true) := if_pos shown

theorem requestFlip_hidden {s : State} {n : Fin 24} (hidden : s.onView n = false) : s.requestFlip n = (s.flip n, false) :=
  if_neg (by simp [hidden])

/-- The flip of a layer that had none pending is noticed exactly when it changes the layer's state. -/
theorem flip_calm {s : State} {n : Fin 24} (calm : (s.layer n).flipPending = false) :
    ((s.layer n).flipped.state = (s.layer n).state → (s.flip n).link.notices = s.link.notices) ∧
    ((s.layer n).flipped.state ≠ (s.layer n).state → Noted s (s.flip n) (damagedEvent n)) := by
  unfold Noted
  rw [flip_notices, calm]
  refine ⟨fun whole => by rw [(flipped_state_same _).1 whole]; rfl, fun hurt => ?_⟩
  rw [ne_eq, flipped_state_same, Bool.not_eq_false] at hurt
  rw [hurt]
  rfl

theorem taking_views (s : State) (code : Byte) : SameViews s (s.taking code) := .of_changes (taking_changes s code)

theorem taking_onView (s : State) (code : Byte) (n : Fin 24) : (s.taking code).onView n = s.onView n :=
  (taking_views s code).onView (taking_layer s code n)

section
variable {s : State} {n : Fin 24} (used : (s.layer n).state ≠ .unused) (planes : (s.layer n).planes = 2)
  (calm : (s.layer n).flipPending = false) (unloaded : (s.layer n).vinLoad = none)
include used planes calm unloaded

/-- PRESENT of a layer that nothing hinders asks for its flip (R83). -/
theorem present_asks {r : Result} {u : State} (asked : (s.taking 0x45#8).requestFlip n = (u, decide (r = .accepted)))
    (outcome : r = .accepted ∨ r = .done) {ps : List Piece} {P : State → Prop} (changed : Changes ps (s.taking 0x45#8) u)
    (made : P (u.answer 0x45#8 r .empty)) (requests : ps.contains .requests = false := by decide)
    (part : ps.contains .part = false := by decide) : Answers (.present (.whole n.1)) s r .empty ps P := by
  refine answers_of_whole rfl rfl ((withLayer_some n _ _).trans ?_) changed made requests part
  dsimp only
  rw [taking_layer, if_neg (not_or.2 ⟨used, not_not_intro planes⟩), if_neg (not_busy calm unloaded), asked]
  rcases outcome with rfl | rfl <;> rfl

theorem present_shown (shown : s.onView n = true) : Answers (.present (.whole n.1)) s .accepted .empty [.layers] fun t =>
    t.layer n = { s.layer n with flipPending := true } ∧ ∀ m, m ≠ n → t.layer m = s.layer m := by
  refine present_asks used planes calm unloaded (requestFlip_shown (by rwa [taking_onView])) (.inl rfl) (putLayer_changes _ _ _)
    ⟨?_, fun m other => ?_⟩
  · rw [answer_layer, putLayer_layer_same, taking_layer]
  · rw [answer_layer, putLayer_layer_ne _ _ _ (Ne.symm other), taking_layer]

theorem present_hidden (hidden : s.onView n = false) : Answers (.present (.whole n.1)) s .done .empty [.layers, .notices] fun t =>
    t.layer n = (s.layer n).flipped ∧ (∀ m, m ≠ n → t.layer m = s.layer m) ∧
    ((t.layer n).state = (s.layer n).state → t.link.notices = s.link.notices) ∧
    ((t.layer n).state ≠ (s.layer n).state → Noted s t (damagedEvent n)) := by
  refine present_asks used planes calm unloaded (requestFlip_hidden (by rwa [taking_onView])) (.inr rfl) (flip_changes _ n) ?_
  have own : (((s.taking 0x45#8).flip n).answer 0x45#8 .done .empty).layer n = (s.layer n).flipped := by
    rw [answer_layer, flip_layer, if_pos rfl, taking_layer]
  obtain ⟨quiet, noted⟩ := flip_calm (s := s.taking 0x45#8) (n := n) (by rwa [taking_layer])
  unfold Noted at noted ⊢
  rw [taking_layer, taking_notices] at quiet noted
  refine ⟨own, fun m other => ?_, fun same => quiet (own ▸ same), fun differs => noted (own ▸ differs)⟩
  rw [answer_layer, flip_layer, if_neg (Ne.symm other), taking_layer]

end

/-! ### SET CARD (R92) -/

/-- The state with a card's designation replaced. -/
def State.named (s : State) (c : Card) (x : Option (Fin 24)) : State :=
  { s with layers := { s.layers with designations := s.layers.designations.put (cardNo c) x } }

/-- SET CARD that its checks let pass designates, and the layers that are now on view nowhere perform their pending flips. -/
theorem setCard_answers {s : State} {body : SetCard} {c : Card} {x : Option (Fin 24)}
    (designates : ∃ block, exec (.setCard (.whole body)) s = .next (requestWith 0x46#8 (.whole body) block s) ∧
      block body (s.taking 0x46#8) = ((s.taking 0x46#8).designate c x, .now .done .empty)) :
    Answers (.setCard (.whole body)) s .done .empty [.designations, .layers, .notices] fun t =>
      t.layers.designations = s.layers.designations.put (cardNo c) x ∧
      FlipsOf (fun m => (s.layer m).flipPending = true ∧ (s.named c x).onView m = false) (s.named c x) t := by
  obtain ⟨block, taken, acts⟩ := designates
  have views : SameViews (s.named c x) ((s.taking 0x46#8).named c x) := by
    refine ⟨(taking_views s _).1, ?_⟩
    unfold State.named
    rw [taking_layers]
  have stores : (s.taking 0x46#8).designate c x = ((s.taking 0x46#8).named c x).settleFlips := rfl
  have changed := designate_changes (s.taking 0x46#8) c x
  rw [stores] at acts changed
  refine answers_of_whole taken rfl acts changed ⟨?_, ?_⟩
  · rw [answer_layers, (settleFlips_changes _).at .designations, views.2]
    rfl
  · exact settleFlips_answered views (taking_layer s _) (taking_notices s _) _ _ _

/-! ### A refresh event (R80, R84) -/

/-- The card is fixed first, and the flips are judged under it (log 24): those of layers on view on the output, then those of
layers that are on view nowhere. -/
theorem refreshLayers_flips (t : State) (o : Output) :
    let u := t.putOut o { t.out o with shownCard := t.cardOf o }
    FlipsOf (fun m => (t.layer m).flipPending = true ∧ (u.onViewOn m o = true ∨ u.onView m = false)) u (t.refreshLayers o) := by
  unfold State.refreshLayers
  dsimp only
  simp only [← putOut_layer t o { t.out o with shownCard := t.cardOf o }]
  generalize t.putOut o _ = u
  have first := flipWhere_flips (onViewOn_reads o) u
  have views : SameViews u (u.flipWhere fun u n => u.onViewOn n o) := .of_changes (flipWhere_changes _ _)
  generalize (u.flipWhere fun u n => u.onViewOn n o) = v at first views ⊢
  have second := settleFlips_flips v
  refine ⟨fun m ⟨pending, seen⟩ => ?_, fun m spared => ?_, fun none_flips => ?_⟩
  · by_cases shown : u.onViewOn m o = true
    · obtain ⟨flipped, noticed⟩ := first.done m ⟨pending, shown⟩
      have settled : ¬ (v.layer m).flipPending = true := by rw [flipped, flipped_eq]; exact nofun
      exact ⟨(second.kept m fun h => settled h.1).trans flipped, flipWhere_noticeKeys _ noticed⟩
    · have same := first.kept m fun h => shown h.2
      obtain ⟨flipped, noticed⟩ := second.done m ⟨by rwa [same], by rw [views.onView same]; exact seen.resolve_left shown⟩
      exact ⟨flipped.trans (congrArg Layer.flipped same), noticed⟩
  · have same := first.kept m fun h => spared ⟨h.1, .inl h.2⟩
    refine (second.kept m fun ⟨pending, hidden⟩ => spared ⟨by rwa [same] at pending, .inr ?_⟩).trans same
    rwa [views.onView same] at hidden
  · have same : ∀ m, v.layer m = u.layer m := fun m => first.kept m fun h => none_flips m ⟨h.1, .inl h.2⟩
    refine (second.silent fun m ⟨pending, hidden⟩ => none_flips m ⟨by rwa [same] at pending, .inr ?_⟩).trans
      (first.silent fun m h => none_flips m ⟨h.1, .inl h.2⟩)
    rwa [views.onView (same m)] at hidden

/-- The card of an output is that of any state with the same owner, source, suppression and camera state. -/
theorem cardOf_same {s t : State} {o : Output} (owner : (t.out o).owner = (s.out o).owner) (source : (t.out o).source = (s.out o).source)
    (suppression : t.comp.suppression = s.comp.suppression) (status : t.cam.status = s.cam.status) : t.cardOf o = s.cardOf o := by
  unfold State.cardOf
  dsimp only
  rw [owner, source, suppression, status]

theorem endFrame_out_ne (s : State) {o q : Output} (other : o ≠ q) : (s.endFrame o).out q = s.out q := by
  unfold State.endFrame
  dsimp only
  rw [out_of_changes (releaseScan_changes _ o) q, putOut_out_ne _ _ _ other]

/-- What follows the layers in a refresh event leaves the card that is shown. -/
theorem beginNext_card (v : State) (o : Output) : ((beginNext v o).out o).shownCard = (v.out o).shownCard := by
  unfold beginNext
  rw [beginFrame_out, if_pos rfl]
  dsimp only
  rw [out_of_changes (refreshCamera_changes _ o) o]
  split
  · rw [out_of_changes (flipGuide_changes v) o]
  · rfl

/-- A refresh event that hands nothing over ends the frame under way, may pace a stream, and finishes (R64, R107). -/
theorem refresh_paces {s : State} {o : Output} (on : (s.out o).owner ≠ .off) (quiet : QuietAt s o) :
    ∃ x, s.refresh o = finishRefresh x o ∧ Changes [.rings, .notices] (s.endFrame o) x := by
  refine ⟨_, refresh_quiet on quiet, ?_⟩
  split
  · exact pace_changes _ _ _
  · exact .refl _ _

/-- What a refresh event does before it comes to the layers, with nothing to hand over, leaves what fixes its card, the layers, and
what decides which are on view. -/
theorem refresh_reaches_layers {s : State} {o : Output} (on : (s.out o).owner ≠ .off) (quiet : QuietAt s o) :
    ∃ y : State, s.refresh o = beginNext (y.refreshLayers o) o ∧ y.cardOf o = s.cardOf o ∧ (∀ m, y.layer m = s.layer m) ∧
      SameViews (s.putOut o { s.out o with shownCard := s.cardOf o }) (y.putOut o { y.out o with shownCard := y.cardOf o }) := by
  obtain ⟨x, event, paced⟩ := refresh_paces on quiet
  have released := (paced.mono (qs := [.rings, .notices, .capture, .guide])).trans ((released_changes x o).mono)
  refine ⟨(x.releaseCapture o).releaseGuide o, event, ?_⟩
  generalize (x.releaseCapture o).releaseGuide o = y at released ⊢
  have ended := ((endFrame_changes s o).mono (qs := [.outRun, .rings, .notices, .capture, .guide])).trans (released.mono)
  have owner : ∀ q, (y.out q).owner = (s.out q).owner := fun q => (ended.at .owners (by decide) q).2.1
  have card : y.cardOf o = s.cardOf o :=
    cardOf_same (owner o) (ended.at .outSettings (by decide) o).2.2.1 (ended.at .suppression) (ended.at .camera).1
  refine ⟨card, fun m => congrArg (·.sel m) (ended.at .layers), fun q => ?_, ?_⟩
  · rw [putOut_out, putOut_out]
    by_cases here : o = q
    · rw [if_pos here, if_pos here]
      exact ⟨owner o, card⟩
    · rw [if_neg here, if_neg here, out_of_changes released q, endFrame_out_ne s here]
      exact ⟨rfl, rfl⟩
  · rw [putOut_layers, putOut_layers]
    exact ended.at .designations

theorem refresh_flips {s : State} {o : Output} (on : (s.out o).owner ≠ .off) (quiet : QuietAt s o) :
    let t := s.refresh o
    let u := s.putOut o { s.out o with shownCard := s.cardOf o }
    let flips (m : Fin 24) : Prop := (s.layer m).flipPending = true ∧ (u.onViewOn m o = true ∨ u.onView m = false)
    (t.out o).shownCard = s.cardOf o ∧
    ∀ m, (flips m → t.layer m = (s.layer m).flipped ∧ (7, 0) ∈ t.noticeKeys) ∧ (¬ flips m → t.layer m = s.layer m) := by
  obtain ⟨y, event, card, layers, views⟩ := refresh_reaches_layers on quiet
  obtain ⟨done, kept, -⟩ := refreshLayers_flips y o
  have own : ((y.refreshLayers o).out o).shownCard = y.cardOf o := by rw [refreshLayers_own]
  simp only [putOut_layer, layers, views.onViewOn (layers _), views.onView (layers _)] at done kept
  have next := beginNext_changes (y.refreshLayers o) o
  have card_shown := beginNext_card (y.refreshLayers o) o
  dsimp only
  rw [event]
  generalize y.refreshLayers o = v at done kept own next card_shown ⊢
  have layer : ∀ m, (beginNext v o).layer m = v.layer m := fun m => congrArg (·.sel m) (next.at .layers)
  refine ⟨card_shown.trans (own.trans card), fun m => ⟨fun flips => ?_, fun spared => (layer m).trans (kept m spared)⟩⟩
  obtain ⟨flipped, noticed⟩ := done m flips
  exact ⟨(layer m).trans flipped, by rwa [noticeKeys_of_same (next.at .notices)]⟩

/-- Settles O37: the two requests by their checks and what they ask of the layers, and a refresh event by `refresh_flips`. -/
theorem presentAndCardDesignation : Obligations.PresentAndCardDesignation := by
  refine ⟨fun s _ => ⟨fun k high => turnsAway_of_whole rfl rfl (withLayer_none high _ _), fun n => ?_⟩,
    fun s _ => ⟨fun k => ?_, fun c => ?_⟩,
    fun s o on quiet => ⟨s.refresh o, rfl, refresh_changes s o, refresh_flips on quiet⟩⟩
  · refine ⟨fun unfit => ?_, fun used planes busy => ?_, fun used planes calm unloaded =>
      ⟨present_shown used planes calm unloaded, present_hidden used planes calm unloaded⟩⟩
    · exact turnsAway_of_whole rfl rfl ((withLayer_some n _ _).trans (if_pos (by rwa [taking_layer])))
    · refine turnsAway_of_whole rfl rfl ((withLayer_some n _ _).trans ?_)
      dsimp only
      rw [taking_layer, if_neg (not_or.2 ⟨used, not_not_intro planes⟩), if_pos busy]
  · exact turnsAway_of_whole rfl rfl rfl
  · refine ⟨fun k high => turnsAway_of_whole rfl rfl (withLayer_none high _ _), fun n unfit => ?_, fun x fit => ?_⟩
    · exact turnsAway_of_whole rfl rfl ((withLayer_some n _ _).trans (if_pos (by rwa [taking_layer])))
    · have answered : Answers (.setCard (.whole ⟨.legal c, x.map Fin.val⟩)) s .done .empty [.designations, .layers, .notices] fun t =>
          t.layers.designations = s.layers.designations.put (cardNo c) x ∧
          FlipsOf (fun m => (s.layer m).flipPending = true ∧ (s.named c x).onView m = false) (s.named c x) t := by
        cases x with
        | none => exact setCard_answers ⟨_, rfl, rfl⟩
        | some n =>
          obtain ⟨used, card⟩ := fit n rfl
          refine setCard_answers ⟨_, rfl, (withLayer_some n _ _).trans (if_neg ?_)⟩
          rw [taking_layer, card]
          exact not_or.2 ⟨used, nofun⟩
      intro comes
      obtain ⟨t, made, changed, requests, designations, flips⟩ := answered comes
      exact ⟨t, made, changed, requests, designations, flips.outcome⟩

end Sys2Proof.Machine
end

section
/-! PROOFS. SET LAYER: its checks in their order, and what it stores (R77, R78, R84). -/

namespace Sys2Proof.Machine

set_option Elab.async false

open Sys2Proof

/-! ### The parts of a request, output by output -/

theorem mem_outputs (o : Output) : o ∈ outputs := by cases o <;> decide

theorem outputs_all {p : Output → Bool} : outputs.all p = true ↔ ∀ o, p o = true := by
  rw [List.all_eq_true]
  exact ⟨fun h o => h o (mem_outputs o), fun h o _ => h o⟩

theorem outputs_any {p : Output → Bool} : outputs.any p = true ↔ ∃ o, p o = true := by
  rw [List.any_eq_true]
  exact ⟨fun ⟨o, _, h⟩ => ⟨o, h⟩, fun ⟨o, h⟩ => ⟨o, mem_outputs o, h⟩⟩

theorem placementOf_eq (x y : Int) (z a : Nat) (v : Bool) :
    placementOf x y z a v = ⟨max (-2048) (min 2047 x), max (-2048) (min 2047 y), z, min 255 a, v⟩ := by
  unfold placementOf
  rw [clampInt_eq (by decide), clampInt_eq (by decide), clampNat_zero]

/-- A part is stored as it stands when every value of it is in range. -/
theorem partClamped_place (x y : Int) (z a : Nat) (v : Bool) : partClamped (some (.place x y z a v)) = false ↔
    -2048 ≤ x ∧ x ≤ 2047 ∧ -2048 ≤ y ∧ y ≤ 2047 ∧ a ≤ 255 := by
  unfold partClamped
  dsimp only
  rw [clampInt_eq (by decide), clampInt_eq (by decide), clampNat_zero]
  simp only [Bool.or_eq_false_iff, decide_eq_false_iff_not, not_not]
  omega

/-- Whether an entry of a layer's three placements is present, asked of the outputs. -/
theorem any_placed (t : Table (Option Placement) 3) : t.toList.any Option.isSome = true ↔ ∃ o, (t.sel (outputNo o)).isSome = true := by
  rw [List.any_eq_true]
  have listed : ∀ x, x ∈ t.toList ↔ ∃ o, t.sel (outputNo o) = x := by
    intro x
    rw [Vector.mem_toList_iff, Vector.mem_iff_getElem]
    constructor
    · rintro ⟨i, inside, rfl⟩
      match i, inside with
      | 0, _ => exact ⟨.centre, rfl⟩
      | 1, _ => exact ⟨.rearL, rfl⟩
      | 2, _ => exact ⟨.rearR, rfl⟩
    · rintro ⟨o, rfl⟩
      exact ⟨_, (outputNo o).2, rfl⟩
  simp only [listed]
  exact ⟨fun ⟨_, ⟨o, same⟩, placed⟩ => ⟨o, same ▸ placed⟩, fun ⟨o, placed⟩ => ⟨_, ⟨o, rfl⟩, placed⟩⟩

theorem designated_iff {s : State} {n : Fin 24} : s.designated n = true ↔ ∃ c, s.layers.designations.sel c = some n := by
  unfold State.designated
  simp only [List.any_eq_true, List.mem_finRange, true_and, decide_eq_true_eq]

section
variable {s : State} {n : Fin 24} {f : SetLayer}

theorem outOfPlaces_iff {o : Output} : s.outOfPlaces n f o = true ↔ ∃ x y z a v, SetLayer.part f o = some (.place x y z a v) ∧
    (s.layer n).placements.sel (outputNo o) = none ∧ 6 ≤ s.placedOn o := by
  unfold State.outOfPlaces
  rw [Bool.and_eq_true, Option.isNone_iff_eq_none]
  constructor
  · rintro ⟨unplaced, full⟩
    split at full
    · rename_i x y z a v part
      exact ⟨x, y, z, a, v, part, unplaced, of_decide_eq_true full⟩
    · exact nomatch full
  · rintro ⟨x, y, z, a, v, part, unplaced, full⟩
    rw [part]
    exact ⟨unplaced, decide_eq_true full⟩

theorem depthTaken_iff {o : Output} : s.depthTaken n f o = true ↔ ∃ x y z a v m p, SetLayer.part f o = some (.place x y z a v) ∧
    m ≠ n ∧ (s.layer m).placements.sel (outputNo o) = some p ∧ p.z = z := by
  unfold State.depthTaken
  constructor
  · intro taken
    split at taken
    · rename_i x y z a v part
      obtain ⟨m, -, other⟩ := List.any_eq_true.1 taken
      obtain ⟨apart, depth⟩ := Bool.and_eq_true_iff.1 other
      split at depth
      · rename_i p placed
        exact ⟨x, y, z, a, v, m, p, part, of_decide_eq_true apart, placed, of_decide_eq_true depth⟩
      · exact nomatch depth
    · exact nomatch taken
  · rintro ⟨x, y, z, a, v, m, p, part, apart, placed, depth⟩
    rw [part]
    refine List.any_eq_true.2 ⟨m, List.mem_finRange m, Bool.and_eq_true_iff.2 ⟨decide_eq_true apart, ?_⟩⟩
    rw [placed]
    exact decide_eq_true depth

theorem none_full (room : ∀ o x y z a v, SetLayer.part f o = some (.place x y z a v) →
    (s.layer n).placements.sel (outputNo o) = none → s.placedOn o < 6) : ¬ outputs.any (s.outOfPlaces n f) = true := by
  intro full
  obtain ⟨o, full⟩ := outputs_any.1 full
  obtain ⟨x, y, z, a, v, part, unplaced, six⟩ := outOfPlaces_iff.1 full
  exact absurd (room o x y z a v part unplaced) (Nat.not_lt.2 six)

theorem none_taken (apart : ∀ o x y z a v m p, SetLayer.part f o = some (.place x y z a v) → m ≠ n →
    (s.layer m).placements.sel (outputNo o) = some p → p.z ≠ z) : ¬ outputs.any (s.depthTaken n f) = true := by
  intro taken
  obtain ⟨o, taken⟩ := outputs_any.1 taken
  obtain ⟨x, y, z, a, v, m, p, part, other, placed, depth⟩ := depthTaken_iff.1 taken
  exact apart o x y z a v m p part other placed depth

/-! ### The refusals in their order -/

theorem kindAfter_none (old : LayerKind) : SetLayer.kindAfter f old = none ↔ f.kind = some .undefined := by
  unfold SetLayer.kindAfter
  split <;> simp_all

theorem kindAfter_some {old kind : LayerKind} (given : f.kind = none ∧ kind = old ∨ f.kind = some (.legal kind)) :
    SetLayer.kindAfter f old = some kind := by
  unfold SetLayer.kindAfter
  rcases given with ⟨absent, rfl⟩ | present
  · rw [absent]
  · rw [present]

/-- What SET LAYER may not make of a layer (R78): a CARD layer with a placement, or a MENU layer that is designated. -/
def State.barred (s : State) (n : Fin 24) (f : SetLayer) (kind : LayerKind) : Prop :=
  (kind = .card ∧ ∃ o, (placementAfter ((s.layer n).placements.sel (outputNo o)) (SetLayer.part f o)).isSome = true) ∨
  (kind = .menu ∧ (s.layer n).kind = .card ∧ ∃ c, s.layers.designations.sel c = some n)

theorem refusal_badValue (bad : f.kind = some .undefined ∨ ∃ o, partLegal (SetLayer.part f o) ≠ true) :
    s.setLayerRefusal n f = some .badValue := by
  unfold State.setLayerRefusal
  split
  · rfl
  · rename_i kind defined
    rcases bad with undefined | ⟨o, illegal⟩
    · rw [(kindAfter_none _).2 undefined] at defined
      exact nomatch defined
    · rw [if_pos]
      rw [Bool.not_eq_true', Bool.eq_false_iff]
      exact fun all => illegal (outputs_all.1 all o)

/-- The refusals that follow once the kind and the parts are legal. -/
theorem refusal_eq {kind : LayerKind} (defined : SetLayer.kindAfter f (s.layer n).kind = some kind)
    (legal : ∀ o, partLegal (SetLayer.part f o) = true) :
    (s.barred n f kind → s.setLayerRefusal n f = some .notNow) ∧
    (¬ s.barred n f kind → s.setLayerRefusal n f =
      if outputs.any (s.outOfPlaces n f) then some .noSpace
      else if outputs.any (s.depthTaken n f) then some .conflict
      else none) := by
  have bars : s.barred n f kind ↔
      (kind = .card ∧ ((SetLayer.placements f (s.layer n).placements).toList.any Option.isSome) = true) ∨
        (kind = .menu ∧ (s.layer n).kind = .card ∧ s.designated n = true) := by
    unfold State.barred
    simp only [any_placed, setLayer_placements, designated_iff]
  unfold State.setLayerRefusal
  rw [defined, bars]
  dsimp only
  rw [outputs_all.2 legal]
  exact ⟨fun now => if_pos now, fun free => if_neg free⟩

/-- ADJUSTED where a part had a value clamped (R174). -/
theorem setLayer_result {result : Result} (outcome : (result = .done ∧ ∀ o, partClamped (SetLayer.part f o) = false) ∨
    result = .adjusted ∧ ∃ o, ¬ partClamped (SetLayer.part f o) = false) :
    doneOr (outputs.any fun o => partClamped (SetLayer.part f o)) = result := by
  unfold doneOr
  rcases outcome with ⟨rfl, whole⟩ | ⟨rfl, o, clamped⟩
  · refine if_neg fun any => ?_
    obtain ⟨o, clamped⟩ := outputs_any.1 any
    exact Bool.false_ne_true ((whole o).symm.trans clamped)
  · exact if_pos (outputs_any.2 ⟨o, Bool.not_eq_false _ ▸ clamped⟩)

/-! ### The request -/

theorem taking_refusal (code : Byte) : (s.taking code).setLayerRefusal n f = s.setLayerRefusal n f :=
  taking_reads (fun t => t.setLayerRefusal n f) s code fun _ => rfl

section
variable (number : n.1 = f.layer) (known : f.undefinedBit = false) (used : (s.layer n).state ≠ .unused)
include number known used

/-- SET LAYER of a layer in use is turned away by the first refusal there is. -/
theorem setLayer_turnsAway {r : Result} (refused : s.setLayerRefusal n f = some r) : TurnsAway (.setLayer (.whole f)) s r := by
  refine turnsAway_of_whole rfl rfl ?_
  rw [← number, withLayer_some, if_neg (by rw [known]; decide), taking_layer, if_neg used, taking_refusal, refused]

/-- SET LAYER that nothing refuses stores what it gives, and the layers that are now on view nowhere perform their pending flips. -/
theorem setLayer_answers (allowed : s.setLayerRefusal n f = none) {kind : LayerKind}
    (defined : SetLayer.kindAfter f (s.layer n).kind = some kind) :
    let u := s.putLayer n { s.layer n with
      kind := kind, permitted := f.permitted.getD (s.layer n).permitted, placements := SetLayer.placements f (s.layer n).placements }
    Answers (.setLayer (.whole f)) s (doneOr (outputs.any fun o => partClamped (SetLayer.part f o))) .empty [.layers, .notices]
      (FlipsOf (fun m => (u.layer m).flipPending = true ∧ u.onView m = false) u) := by
  intro u
  have stores : (s.taking 0x42#8).setLayer n f = State.settleFlips ((s.taking 0x42#8).putLayer n { s.layer n with
      kind := kind, permitted := f.permitted.getD (s.layer n).permitted
      placements := SetLayer.placements f (s.layer n).placements }) := by
    unfold State.setLayer
    dsimp only
    rw [taking_layer, defined]
    rfl
  refine answers_of_whole rfl rfl (u := (s.taking 0x42#8).setLayer n f) ?_ (setLayer_changes _ _ _) ?_
  · rw [← number, withLayer_some, if_neg (by rw [known]; decide), taking_layer, if_neg used, taking_refusal, allowed]
    rfl
  · rw [stores]
    refine settleFlips_answered ((taking_views s _).putLayer n _) (fun m => ?_) (taking_notices s _) _ _ _
    rw [putLayer_layer, putLayer_layer, taking_layer]

end

end

/-- Settles O35: the parts of the request are the model's, the refusals come in their order, and the rest is stored. -/
theorem setLayerStoresPlacements : Obligations.SetLayerStoresPlacements := by
  intro s f _ out legal inside after
  have parts : out = SetLayer.part f := funext fun o => by cases o <;> rfl
  have legal_parts : legal = fun p => partLegal p = true := by
    funext p
    rcases p with _ | _ | ⟨x, y, z, a, v⟩ | _ <;> simp [legal, partLegal]
  have inside_parts : inside = fun p => partClamped p = false := by
    funext p
    rcases p with _ | _ | ⟨x, y, z, a, v⟩ | _
    case some.place => exact propext (partClamped_place x y z a v).symm
    all_goals simp [inside, partClamped]
  have stored : after = placementAfter := by
    funext old p
    rcases p with _ | _ | ⟨x, y, z, a, v⟩ | _
    case some.place => exact congrArg some (placementOf_eq x y z a v).symm
    all_goals rfl
  clear_value out legal inside after
  subst parts legal_parts inside_parts stored
  refine ⟨fun bad => ?_, fun n number known => ⟨fun unused => ?_, fun used => ⟨fun bad => ?_, fun kind given legal => ?_⟩⟩⟩
  · refine turnsAway_of_whole rfl rfl ?_
    by_cases high : 24 ≤ f.layer
    · exact withLayer_none high _ _
    · exact (withLayer_some ⟨f.layer, Nat.lt_of_not_le high⟩ _ _).trans (if_pos (bad.resolve_left high))
  · refine turnsAway_of_whole rfl rfl ?_
    rw [← number, withLayer_some, if_neg (by rw [known]; decide), taking_layer, if_pos unused]
  · exact setLayer_turnsAway number known used (refusal_badValue bad)
  · have defined := kindAfter_some given
    obtain ⟨barred, free⟩ := refusal_eq defined legal
    refine ⟨fun now => setLayer_turnsAway number known used (barred now), fun allowed => ?_⟩
    have refusal := free allowed
    refine ⟨fun full => ?_, fun room => ⟨fun taken => ?_, fun apart result outcome => ?_⟩⟩
    · obtain ⟨o, x, y, z, a, v, part, unplaced, six⟩ := full
      rw [if_pos (outputs_any.2 ⟨o, outOfPlaces_iff.2 ⟨x, y, z, a, v, part, unplaced, six⟩⟩)] at refusal
      exact setLayer_turnsAway number known used refusal
    · obtain ⟨o, x, y, z, a, v, m, p, part, other, placed, depth⟩ := taken
      rw [if_neg (none_full room),
        if_pos (outputs_any.2 ⟨o, depthTaken_iff.2 ⟨x, y, z, a, v, m, p, part, other, placed, depth⟩⟩)] at refusal
      exact setLayer_turnsAway number known used refusal
    · rw [if_neg (none_full room), if_neg (none_taken apart)] at refusal
      obtain rfl := setLayer_result outcome
      intro comes
      obtain ⟨t, made, changed, requests, flips⟩ := setLayer_answers number known used refusal defined comes
      exact ⟨t, made, changed, requests, _, setLayer_placements f _, flips.outcome⟩

end Sys2Proof.Machine
end

section
/-! PROOFS. LAYER frames on a VIN port, from the tag line to the frame's end (R84 to R86, R88, R89). -/

namespace Sys2Proof.Machine

set_option Elab.async false

open Sys2Proof

section
variable {s : State} {p : StreamId}

/-! ### Tag lines (R85) -/

theorem layerTag_eq {stale auto : Bool} {line : List Byte} {target w h : Nat} (started : s.vin p = .started stale)
    (tagged : readTag line = .layer target w h auto) :
    exec (.vinLine0Complete p line) s = .next (s.beginLayerFrame p target w h auto) := by
  rw [line0_eq started]
  unfold State.readTagLine
  rw [tagged]

/-- What turns a LAYER frame away at its tag line (R85). -/
def Layer.turnsFrame (l : Layer) (w h : Nat) : Prop :=
  l.state = .unused ∨ w ≠ l.width ∨ h ≠ l.height ∨ l.flipPending = true ∨ l.vinLoad.isSome = true

theorem beginLayerFrame_none {target w h : Nat} (auto : Bool) (high : 24 ≤ target) :
    s.beginLayerFrame p target w h auto = s.putVin p .ignored := by
  unfold State.beginLayerFrame
  rw [index_none high]

theorem beginLayerFrame_refused {n : Fin 24} {w h : Nat} (auto : Bool) (turned : (s.layer n).turnsFrame w h) :
    s.beginLayerFrame p n.1 w h auto = (s.putVin p .ignored).report (refusedEvent n) := by
  unfold State.beginLayerFrame
  rw [index_some n rfl]
  exact if_pos turned

theorem beginLayerFrame_begins {n : Fin 24} {w h : Nat} (auto : Bool) (taken : ¬ (s.layer n).turnsFrame w h) :
    s.beginLayerFrame p n.1 w h auto = (s.putLayer n { s.layer n with vinLoad := some p, mark := 0 }).putVin p (.layer n 0 auto) := by
  unfold State.beginLayerFrame
  rw [index_some n rfl]
  exact if_neg taken

theorem layerTag_makes {stale auto : Bool} {line : List Byte} {target w h : Nat} (started : s.vin p = .started stale)
    (tagged : readTag line = .layer target w h auto) :
    (24 ≤ target → Makes (.vinLine0Complete p line) s [.vin] fun t => t.vin p = .ignored ∧ ∀ q, q ≠ p → t.vin q = s.vin q) ∧
    ∀ n : Fin 24, n.1 = target →
      ((s.layer n).turnsFrame w h → Makes (.vinLine0Complete p line) s [.vin, .notices] fun t =>
        t.vin p = .ignored ∧ (∀ q, q ≠ p → t.vin q = s.vin q) ∧ Noted s t (refusedEvent n)) ∧
      (¬ (s.layer n).turnsFrame w h → Makes (.vinLine0Complete p line) s [.vin, .layers] fun t =>
        t.vin p = .layer n 0 auto ∧ (∀ q, q ≠ p → t.vin q = s.vin q) ∧
        t.layer n = { s.layer n with vinLoad := some p, mark := 0 } ∧ ∀ m, m ≠ n → t.layer m = s.layer m) := by
  have made := layerTag_eq started tagged
  refine ⟨fun high => ?_, ?_⟩
  · exact ⟨_, made.trans (by rw [beginLayerFrame_none auto high]), putVin_changes _ _ _, putVin_vin_same _ _ _,
      fun q other => putVin_vin_ne _ _ _ (Ne.symm other)⟩
  · rintro n rfl
    refine ⟨fun turned => ?_, fun taken => ?_⟩
    · exact ⟨_, made.trans (by rw [beginLayerFrame_refused auto turned]), ((putVin_changes _ _ _).mono).trans ((report_changes _ _).mono),
        putVin_vin_same _ _ _, fun q other => putVin_vin_ne _ _ _ (Ne.symm other), rfl⟩
    · exact ⟨_, made.trans (by rw [beginLayerFrame_begins auto taken]), ((putLayer_changes _ _ _).mono).trans ((putVin_changes _ _ _).mono),
        putVin_vin_same _ _ _, fun q other => putVin_vin_ne _ _ _ (Ne.symm other), putLayer_layer_same _ _ _,
        fun m other => putLayer_layer_ne _ _ _ (Ne.symm other)⟩

/-! ### Picture lines (R86) -/

theorem layerLine_makes {n : Fin 24} {lines : Nat} {auto : Bool} (loading : s.vin p = .layer n lines auto)
    (room : lines < (s.layer n).height) (line : List Byte) {a bpp : Nat} (depth : LayerFormat.bytes (s.layer n).format = bpp)
    (address : pageAddress (s.planePage n (s.layer n).target) + lines * ((s.layer n).width * bpp) = a) :
    let l := s.layer n
    let bytes := line.take (l.width * bpp)
    a + bytes.length ≤ 134217728 →
    Makes (.vinPictureLine p line) s [.memory, .vin, .layers, .notices] fun t =>
      (∀ x, t.mem.read x = if a ≤ x ∧ x < a + bytes.length then bytes.getD (x - a) 0#8 else s.mem.read x) ∧
      (∀ q, q ≠ p → t.vin q = s.vin q) ∧ (∀ m, m ≠ n → t.layer m = s.layer m) ∧
      (l.width ≤ line.length / bpp → t.vin p = .layer n (lines + 1) auto ∧ t.layer n = l ∧ t.link.notices = s.link.notices) ∧
      (line.length / bpp < l.width → t.vin p = .ignored ∧ t.layer n = { l with vinLoad := none } ∧ Noted s t (refusedEvent n)) := by
  intro l bytes fits
  have made : exec (.vinPictureLine p line) s = .next (s.layerLine p n lines auto line) := by
    show execVinPictureLine p line s = _
    unfold execVinPictureLine
    rw [loading]
  refine ⟨_, made, (layerLine_changes s p n lines auto line).mono, ?_⟩
  have read := fun x => memoryReadsWhatWasWritten s.mem a bytes x fits
  unfold State.layerLine
  dsimp only
  rw [if_pos room, depth, address]
  split
  · rename_i narrow
    refine ⟨read, fun q other => putVin_vin_ne _ _ _ (Ne.symm other), fun m other => putLayer_layer_ne _ _ _ (Ne.symm other),
      fun wide => absurd narrow (Nat.not_lt.2 wide), fun _ => ⟨putVin_vin_same _ _ _, putLayer_layer_same _ _ _, rfl⟩⟩
  · rename_i wide
    exact ⟨read, fun q other => putVin_vin_ne _ _ _ (Ne.symm other), fun _ _ => rfl, fun _ => ⟨putVin_vin_same _ _ _, rfl, rfl⟩,
      fun narrow => absurd narrow wide⟩

/-! ### Ends of frames (R84, R86, R88) -/

theorem endVinFrame_fails {n : Fin 24} {lines : Nat} {auto early : Bool} (loading : s.vin p = .layer n lines auto)
    (cut : early = true ∨ lines ≠ (s.layer n).height) : s.endVinFrame p early = (s.putVin p .idle).failLayerFrame n := by
  unfold State.endVinFrame
  dsimp only
  rw [loading]
  refine if_neg fun whole => ?_
  obtain ⟨late, all⟩ := Bool.and_eq_true_iff.1 whole
  rcases cut with rfl | short
  · exact nomatch late
  · exact short (of_decide_eq_true all)

theorem endVinFrame_completes {n : Fin 24} {lines : Nat} {auto : Bool} (loading : s.vin p = .layer n lines auto)
    (all : lines = (s.layer n).height) : s.endVinFrame p false = (s.putVin p .idle).completeLayerFrame n auto := by
  unfold State.endVinFrame
  dsimp only
  rw [loading]
  exact if_pos (decide_eq_true all)

/-- A LAYER frame that is cut short fails its load. -/
theorem layerFrame_fails {n : Fin 24} {lines : Nat} {auto : Bool} (loading : s.vin p = .layer n lines auto) {c : Instr} {after : VinFrame}
    (ends : (c = .vinFrameEnd p ∧ after = .idle ∧ lines ≠ (s.layer n).height) ∨ (c = .vinFrameStart p ∧ after = .started false)) :
    Makes c s [.vin, .layers, .notices] fun t => t.vin p = after ∧ (∀ q, q ≠ p → t.vin q = s.vin q) ∧
      t.layer n = { s.layer n with vinLoad := none } ∧ (∀ m, m ≠ n → t.layer m = s.layer m) ∧ Noted s t (refusedEvent n) := by
  have changed : Changes [.vin, .layers, .notices] s ((s.putVin p .idle).failLayerFrame n) :=
    ((putVin_changes s p .idle).mono).trans ((failLayerFrame_changes _ n).mono)
  have others : ∀ q, q ≠ p → ((s.putVin p .idle).failLayerFrame n).vin q = s.vin q := fun q other => putVin_vin_ne _ _ _ (Ne.symm other)
  have layers : ∀ m, m ≠ n → ((s.putVin p .idle).failLayerFrame n).layer m = s.layer m := fun m other =>
    putLayer_layer_ne _ _ _ (Ne.symm other)
  have own : ((s.putVin p .idle).failLayerFrame n).layer n = { s.layer n with vinLoad := none } := putLayer_layer_same _ _ _
  rcases ends with ⟨rfl, rfl, short⟩ | ⟨rfl, rfl⟩
  · exact ⟨_, congrArg Host.Outcome.next (endVinFrame_fails loading (.inr short)), changed, putVin_vin_same _ _ _, others, own, layers, rfl⟩
  · exact ⟨_, congrArg (fun t => Host.Outcome.next (State.putVin t p (.started false))) (endVinFrame_fails loading (.inl rfl)),
      changed.trans ((putVin_changes _ _ _).mono), putVin_vin_same _ _ _,
      fun q other => (putVin_vin_ne _ _ _ (Ne.symm other)).trans (others q other), own, layers, rfl⟩

/-- The record of a layer whose LAYER frame has brought every line (R86, R88). -/
def Layer.loaded (l : Layer) : Layer := Layer.mended { l with mark := l.planeSize, vinLoad := none }

theorem completeLayerFrame_eq {n : Fin 24} (auto : Bool) (calm : (s.layer n).flipPending = false) :
    s.completeLayerFrame n auto =
      let u := (s.putLayer n (s.layer n).loaded).report (loadedEvent n)
      if auto = true ∧ (s.layer n).planes = 2 then (u.requestFlip n).1 else u := by
  unfold State.completeLayerFrame
  dsimp only
  generalize ready : { s.layer n with mark := (s.layer n).planeSize, vinLoad := none } = x
  have repaired : (s.putLayer n x).repair n (s.layer n).target = s.putLayer n x.mended := by
    have target : (s.layer n).target = ((s.putLayer n x).layer n).target := by rw [putLayer_layer_same, ← ready]; rfl
    rw [target, repair_eq (by rw [putLayer_layer_same, ← ready]; exact calm), putLayer_layer_same, putLayer_putLayer]
  rw [repaired, ← ready]
  exact if_congr (by rw [Bool.and_eq_true, decide_eq_true_eq]) rfl rfl

/-- A load completed with no flip pending: the layer mended and LOADED reported, then with AUTO_PRESENT what PRESENT does. -/
theorem completeLayerFrame_result {n : Fin 24} (auto : Bool) (calm : (s.layer n).flipPending = false) :
    let l := s.layer n
    let t := s.completeLayerFrame n auto
    (∀ m, m ≠ n → t.layer m = s.layer m) ∧
    t.layer n = (if auto = true ∧ l.planes = 2 then
      (if (s.putLayer n l.loaded).onView n = true then { l.loaded with flipPending := true } else l.loaded.flipped) else l.loaded) ∧
    ((t.layer n).state = .damaged →
      t.link.notices = queueReport (damagedEvent n) (queueReport (loadedEvent n) s.link.notices)) ∧
    ((t.layer n).state ≠ .damaged → Noted s t (loadedEvent n)) := by
  intro l t
  have made : t = _ := completeLayerFrame_eq auto calm
  clear_value t
  obtain ⟨sound, idle⟩ := mended_rest { l with mark := l.planeSize, vinLoad := none }
  replace sound : l.loaded.state ≠ .damaged := sound
  replace idle : l.loaded.flipPending = false := idle calm
  dsimp only at made
  rw [show s.layer n = l from rfl] at made
  generalize stored : (s.putLayer n l.loaded).report (loadedEvent n) = u at made
  have others : ∀ m, m ≠ n → u.layer m = s.layer m := fun m other => stored ▸ putLayer_layer_ne _ _ _ (Ne.symm other)
  have own : u.layer n = l.loaded := stored ▸ putLayer_layer_same _ _ _
  have noted : Noted s u (loadedEvent n) := stored ▸ rfl
  have views : u.onView n = (s.putLayer n l.loaded).onView n :=
    SameViews.onView (.of_changes (stored ▸ report_changes _ _)) (stored ▸ rfl)
  by_cases flips : auto = true ∧ l.planes = 2
  · rw [if_pos flips] at made ⊢
    cases seen : u.onView n with
    | true =>
      rw [requestFlip_shown seen] at made
      subst made
      rw [← views, if_pos seen, putLayer_layer_same, own]
      exact ⟨fun m other => (putLayer_layer_ne _ _ _ (Ne.symm other)).trans (others m other), rfl, fun hurt => absurd hurt sound,
        fun _ => noted⟩
    | false =>
      rw [requestFlip_hidden seen] at made
      subst made
      have flipped : (u.flip n).layer n = l.loaded.flipped := by rw [flip_layer, if_pos rfl, own]
      rw [← views, if_neg (by rw [seen]; decide), flipped, flipped_state]
      refine ⟨fun m other => by rw [flip_layer, if_neg (Ne.symm other), others m other], rfl, ?_⟩
      unfold Noted at noted ⊢
      rw [flip_notices, own, idle, noted]
      dsimp only
      split
      · exact ⟨fun _ => rfl, fun whole => absurd rfl whole⟩
      · exact ⟨fun hurt => absurd hurt sound, fun _ => rfl⟩
  · rw [if_neg flips] at made ⊢
    subst made
    exact ⟨others, own, fun hurt => absurd (own ▸ hurt) sound, fun _ => noted⟩

theorem layerFrame_completes {n : Fin 24} {lines : Nat} {auto : Bool} (loading : s.vin p = .layer n lines auto)
    (all : lines = (s.layer n).height) (calm : (s.layer n).flipPending = false) :
    Makes (.vinFrameEnd p) s [.vin, .layers, .notices] fun t =>
      let l := s.layer n
      t.vin p = .idle ∧ (∀ q, q ≠ p → t.vin q = s.vin q) ∧ (∀ m, m ≠ n → t.layer m = s.layer m) ∧
      t.layer n = (if auto = true ∧ l.planes = 2 then
        (if (s.putLayer n l.loaded).onView n = true then { l.loaded with flipPending := true } else l.loaded.flipped) else l.loaded) ∧
      ((t.layer n).state = .damaged →
        t.link.notices = queueReport (damagedEvent n) (queueReport (loadedEvent n) s.link.notices)) ∧
      ((t.layer n).state ≠ .damaged → Noted s t (loadedEvent n)) := by
  have changed := completeLayerFrame_changes (s.putVin p .idle) n auto
  have ports : ∀ q, ((s.putVin p .idle).completeLayerFrame n auto).vin q = (s.putVin p .idle).vin q := fun q =>
    congrArg (·.sel (streamNo q)) (changed.at .vin)
  obtain ⟨others, result⟩ := completeLayerFrame_result (s := s.putVin p .idle) auto calm
  refine ⟨_, congrArg Host.Outcome.next (endVinFrame_completes loading all), ((putVin_changes s p .idle).mono).trans (changed.mono), ?_,
    fun q other => ?_, others, result⟩
  · rw [ports, putVin_vin_same]
  · rw [ports, putVin_vin_ne _ _ _ (Ne.symm other)]

end

/-- Settles O31: the tag line, a line and the frame's end. -/
theorem layerFramesLoadTheirPlane : Obligations.LayerFramesLoadTheirPlane := by
  refine ⟨fun s p stale line target w h auto started tagged => layerTag_makes started tagged,
    fun s p n lines auto run line loading placed room => ?_, fun s p n lines auto loading => ⟨fun c after => layerFrame_fails loading, ?_⟩⟩
  · intro l bpp plane bytes a
    refine layerLine_makes loading room line (formatBytes_eq _) ?_
    rw [targetAddress_eq placed]
  · intro all calm
    have loaded : (s.layer n).loaded = Layer.mended { s.layer n with
        mark := (s.layer n).width * (s.layer n).height * (if (s.layer n).format = .argb8888 then 4 else 2), vinLoad := none } := by
      rw [← planeSize_eq]
      rfl
    rw [← loaded]
    exact layerFrame_completes loading all calm

end Sys2Proof.Machine
end

section
/-! SUPPORT. What keeps camera demand, the camera and the output records in agreement (R95, R98, R100, R106, R112, R120, R144): the
camera and what the Generator was handed of it, and the records one by one. -/

namespace Sys2Proof.Machine

set_option Elab.async false

open Sys2Proof

/-! ### What leaves the camera and the Generator's copy of it alone -/

/-- From one state to another demand, the camera state and keep-warm stay, and what the Generator was handed of them. -/
structure CameraStays (s t : State) : Prop where
  demand : t.comp.demand = s.comp.demand
  status : t.cam.status = s.cam.status
  warm : t.cam.settings.keepWarm = s.cam.settings.keepWarm
  demandHeld : t.guide.demand = s.guide.demand
  statusHeld : t.guide.camStatus = s.guide.camStatus

section
variable {s t u : State}

theorem CameraStays.refl (s : State) : CameraStays s s := ⟨rfl, rfl, rfl, rfl, rfl⟩

theorem CameraStays.trans (h : CameraStays s t) (k : CameraStays t u) : CameraStays s u :=
  ⟨k.demand.trans h.demand, k.status.trans h.status, k.warm.trans h.warm, k.demandHeld.trans h.demandHeld,
    k.statusHeld.trans h.statusHeld⟩

theorem CameraStays.ite {c : Prop} [Decidable c] (h : CameraStays s t) (k : CameraStays s u) : CameraStays s (if c then t else u) := by
  split
  · exact h
  · exact k

theorem CameraStays.foldl {α : Type} {f : State → α → State} (h : ∀ t x, CameraStays t (f t x)) : ∀ (xs : List α) (s : State),
    CameraStays s (xs.foldl f s)
  | [], s => .refl s
  | x :: xs, s => (h s x).trans (CameraStays.foldl h xs (f s x))

/-- A frame without demand, camera and Generator leaves them alone. -/
theorem CameraStays.of_changes {ps : List Piece} (c : Changes ps s t)
    (out : ([Piece.demand, .camera, .camSettings, .guide].all fun p => !ps.contains p) = true := by decide) : CameraStays s t := by
  have absent : ∀ p ∈ [Piece.demand, .camera, .camSettings, .guide], Piece.same s t p := fun p listed =>
    c.at p (by simpa using List.all_eq_true.1 out p listed)
  have settings : t.cam.settings = s.cam.settings := absent .camSettings (by decide)
  obtain ⟨status, -⟩ := absent .camera (by decide)
  obtain ⟨-, -, -, -, -, -, -, statusHeld, demandHeld, -⟩ := absent .guide (by decide)
  exact ⟨absent .demand (by decide), status, by rw [settings], demandHeld, statusHeld⟩

end

/-! ### The Generator (R145 to R149) -/

theorem beginDrawing_stays (s : State) : CameraStays s s.beginDrawing := ⟨rfl, rfl, rfl, rfl, rfl⟩

theorem beginComputation_stays (s : State) : CameraStays s s.beginComputation :=
  .ite (beginDrawing_stays s) ⟨rfl, rfl, rfl, rfl, rfl⟩

theorem requestRecompute_stays (s : State) : CameraStays s s.requestRecompute := by
  unfold State.requestRecompute
  refine .ite ?_ (.refl s)
  split
  · exact beginComputation_stays s
  · exact .refl s
  · exact ⟨rfl, rfl, rfl, rfl, rfl⟩
  · exact ⟨rfl, rfl, rfl, rfl, rfl⟩

theorem stopGuide_stays (s : State) : CameraStays s s.stopGuide := ⟨rfl, rfl, rfl, rfl, rfl⟩

/-- What the Generator is handed is what it holds, whether it stops, starts or goes on. -/
theorem handGuide_stays (s : State) (f : Guide → Guide) : CameraStays { s with guide := f s.guide } (s.handGuide f) := by
  unfold State.handGuide
  dsimp only
  exact .ite (stopGuide_stays _) (.ite (requestRecompute_stays _) (.refl _))

theorem handed_stays {s t : State} {f : Guide → Guide} (h : CameraStays s { t with guide := f t.guide }) :
    CameraStays s (t.handGuide f) := h.trans (handGuide_stays t f)

theorem redraw_stays (s : State) : CameraStays s s.redraw :=
  CameraStays.trans (t := { s with guide := { s.guide with comp := .idle, recompute := false } }) ⟨rfl, rfl, rfl, rfl, rfl⟩
    (beginComputation_stays _)

theorem steerLost_stays (s : State) : CameraStays s s.steerLost := by
  unfold State.steerLost
  dsimp only
  refine .ite ?_ (.refl s)
  have hidden : CameraStays s (if s.guide.content = .dynamic then
      { s with guide := { s.guide with content := .hidden, onView := .none } } else s) := .ite ⟨rfl, rfl, rfl, rfl, rfl⟩ (.refl s)
  generalize (if s.guide.content = .dynamic then { s with guide := { s.guide with content := .hidden, onView := .none } } else s) = t
    at hidden ⊢
  exact hidden.trans (.ite (.trans (t := t.dropGuideConsequences) ⟨rfl, rfl, rfl, rfl, rfl⟩ (redraw_stays _)) (requestRecompute_stays t))

theorem steerUpdated_stays (s : State) (b : Bool) : CameraStays s (s.steerUpdated b) := .ite (requestRecompute_stays s) (.refl s)

theorem releaseGuide_stays (s : State) (o : Output) : CameraStays s (s.releaseGuide o) := by
  rw [releaseGuide_eq]
  have cleared : CameraStays s { s with guide := clearedHolds s.guide o } := ⟨rfl, rfl, rfl, rfl, rfl⟩
  exact .ite (cleared.trans (beginDrawing_stays _)) cleared

theorem flipByAnyView_stays (s : State) : CameraStays s s.flipByAnyView := by
  unfold State.flipByAnyView
  split
  · exact ⟨rfl, rfl, rfl, rfl, rfl⟩
  · exact .refl s

theorem flipGuide_stays (s : State) : CameraStays s s.flipGuide := by
  unfold State.flipGuide
  split
  · rename_i d _ _
    have flipped : CameraStays s { s with guide := { s.guide with
        front := s.guide.back, content := d.content, onView := d.summary, comp := .idle } } := ⟨rfl, rfl, rfl, rfl, rfl⟩
    exact .ite (flipped.trans (redraw_stays _)) flipped
  · exact .refl s

theorem endDrawing_stays (s : State) : CameraStays s s.endDrawing := by
  unfold State.endDrawing
  split
  · rename_i d _
    have drawn : CameraStays s (State.dropGuideConsequences { s with mem := d.draw s.guide.back s.mem }) := ⟨rfl, rfl, rfl, rfl, rfl⟩
    exact .ite (drawn.trans (redraw_stays _)) ⟨rfl, rfl, rfl, rfl, rfl⟩
  · exact .refl s

/-! ### Consequences and refresh events (R14 to R20, R107) -/

theorem handConsequence_stays (s : State) (c : Consequence) : CameraStays s (s.handConsequence c) := by
  unfold State.handConsequence
  split
  · exact .of_changes (dropSlot_changes s _ _ _)
  · exact .of_changes (damageLayer_changes s _ _)
  · exact .of_changes (discardCapture_changes s _)
  · exact requestRecompute_stays s
  · exact .of_changes (damageSample_changes s _)

theorem handDue_stays (s : State) (r : Reader) : CameraStays s (s.handDue r) :=
  CameraStays.trans (t := { s with fmm := { s.fmm with pending := s.fmm.pending.filter fun c => !c.dueAt r } })
    ⟨rfl, rfl, rfl, rfl, rfl⟩ (.foldl handConsequence_stays _ _)

theorem handAndPace_stays (s : State) (o : Output) : CameraStays s (s.handAndPace o) := by
  have free : ∀ n, CameraStays s { s with free := n } := fun _ => ⟨rfl, rfl, rfl, rfl, rfl⟩
  have paced : ∀ (t : State) i e, CameraStays t (t.pace i e) := fun t i e => .of_changes (pace_changes t i e)
  unfold State.handAndPace
  split
  · exact handDue_stays s _
  · dsimp only
    refine .ite (.ite ?_ ?_) ((handDue_stays s _).trans (paced _ _ _))
    · exact ((free _).trans (paced _ _ _)).trans (handDue_stays _ _)
    · exact ((free _).trans (handDue_stays _ _)).trans (paced _ _ _)

theorem beginFrame_stays (s : State) (o : Output) : CameraStays s (s.beginFrame o) := by
  unfold State.beginFrame
  dsimp only
  split <;> exact ⟨rfl, rfl, rfl, rfl, rfl⟩

theorem refresh_stays (s : State) (o : Output) : CameraStays s (s.refresh o) := by
  unfold State.refresh
  refine .ite (.refl s) ?_
  dsimp only
  have ended := (CameraStays.of_changes (endFrame_changes s o)).trans (handAndPace_stays _ o)
  have released := (ended.trans (.of_changes (releaseCapture_changes _ o))).trans (releaseGuide_stays _ o)
  have shown := released.trans (.of_changes (refreshLayers_changes _ o))
  clear ended released
  generalize State.refreshLayers _ o = u at shown ⊢
  have flipped := shown.trans (.ite (c := u.flipsGuide o = true) (flipGuide_stays u) (.refl u))
  exact (flipped.trans (.of_changes (refreshCamera_changes _ o))).trans (beginFrame_stays _ o)

/-! ### The camera follows demand and keep-warm (R120 to R127) -/

/-- The Generator holds demand and the camera state as they are, and the camera is OFF exactly while it does not run. -/
structure CameraLinked (s : State) : Prop where
  demand : s.guide.demand = s.comp.demand
  status : s.guide.camStatus = s.cam.status
  runs : s.cam.status = .off ↔ s.cameraRuns = false

theorem cameraFollows_iff {s : State} : CameraFollows s ↔ s.comp.demand = outputs.any (fun o => (s.out o).inView) ∧ CameraLinked s :=
  ⟨fun ⟨views, demand, status, runs⟩ => ⟨views, demand, status, runs⟩, fun ⟨views, linked⟩ => ⟨views, linked.demand, linked.status, linked.runs⟩⟩

theorem CameraLinked.of_stays {s t : State} (h : CameraLinked s) (k : CameraStays s t) : CameraLinked t := by
  refine ⟨?_, ?_, ?_⟩
  · rw [k.demandHeld, k.demand]; exact h.demand
  · rw [k.statusHeld, k.status]; exact h.status
  · unfold State.cameraRuns
    rw [k.status, k.demand, k.warm]
    exact h.runs

/-- A change of the camera state is handed to the Generator, and bears on nothing else of the link. -/
theorem setCameraStatus_stays (s : State) (x : CameraStatus) : CameraStays
    { s with cam := { s.cam with status := x }, guide := { s.guide with camStatus := x } } (s.setCameraStatus x) := by
  unfold State.setCameraStatus
  exact handed_stays ⟨rfl, rfl, rfl, rfl, rfl⟩

/-- A camera that runs takes another state than OFF. -/
theorem setCameraStatus_linked {s : State} (h : CameraLinked s) (on : s.cam.status ≠ .off) {x : CameraStatus} (other : x ≠ .off) :
    CameraLinked (s.setCameraStatus x) := by
  have runs : s.cameraRuns = true := by
    rw [← Bool.not_eq_false, ← h.runs]
    exact on
  have taken : CameraLinked { s with cam := { s.cam with status := x }, guide := { s.guide with camStatus := x } } :=
    ⟨h.demand, rfl, iff_of_false other fun stopped => Bool.noConfusion (runs.symm.trans stopped)⟩
  exact taken.of_stays (setCameraStatus_stays s x)

/-- The camera starts or stops as demand and keep-warm stand, and the Generator is handed its state (R120 to R123). -/
theorem followCamera_result {s : State} (told : s.guide.camStatus = s.cam.status) : let t := s.followCamera
    t.guide.camStatus = t.cam.status ∧ (t.cam.status = .off ↔ t.cameraRuns = false) ∧ t.guide.demand = s.guide.demand := by
  have set : ∀ (u : State) (x : CameraStatus), u.cameraRuns = s.cameraRuns → u.guide.demand = s.guide.demand →
      (x = .off ↔ s.cameraRuns = false) → let t := u.setCameraStatus x
      t.guide.camStatus = t.cam.status ∧ (t.cam.status = .off ↔ t.cameraRuns = false) ∧ t.guide.demand = s.guide.demand := by
    intro u x same held right
    have stays := setCameraStatus_stays u x
    have runs : (u.setCameraStatus x).cameraRuns = s.cameraRuns := by
      unfold State.cameraRuns at same ⊢
      rw [stays.demand, stays.warm]
      exact same
    dsimp only
    rw [runs, stays.status]
    exact ⟨stays.statusHeld, right, stays.demandHeld.trans held⟩
  unfold State.followCamera
  by_cases runs : s.cameraRuns = true
  · rw [if_pos runs]
    by_cases off : s.cam.status = .off
    · rw [if_pos off]
      exact set _ _ rfl rfl (by simp [runs])
    · rw [if_neg off]
      exact ⟨told, by simp [runs, off], rfl⟩
  · rw [if_neg runs]
    by_cases off : s.cam.status = .off
    · rw [if_pos off]
      exact ⟨told, by simp [runs, off], rfl⟩
    · rw [if_neg off]
      exact set _ _ rfl rfl (by simp [runs])

theorem followCamera_linked {s : State} (demand : s.guide.demand = s.comp.demand) (told : s.guide.camStatus = s.cam.status) :
    CameraLinked s.followCamera := by
  obtain ⟨status, runs, held⟩ := followCamera_result told
  refine ⟨?_, status, runs⟩
  rw [held, demand]
  exact ((followCamera_changes s).at .demand).symm

/-- Demand recomputed over a linked camera is followed (R106, R120, R144). -/
theorem recomputeDemand_follows {s : State} (h : CameraLinked s) : CameraFollows s.recomputeDemand := by
  have views : s.recomputeDemand.comp.demand = outputs.any fun o => (s.recomputeDemand.out o).inView := by
    simp only [recomputeDemand_demand, out_of_changes (recomputeDemand_changes s)]
  refine cameraFollows_iff.2 ⟨views, ?_⟩
  unfold State.recomputeDemand
  dsimp only
  split
  · exact h
  · generalize outputs.any (fun o => (s.out o).inView) = d
    obtain ⟨status, runs, -⟩ := followCamera_result (s := { s with comp := { s.comp with demand := d } }) h.status
    have demand : (State.followCamera { s with comp := { s.comp with demand := d } }).comp.demand = d :=
      (followCamera_changes { s with comp := { s.comp with demand := d } }).at .demand
    generalize State.followCamera { s with comp := { s.comp with demand := d } } = u at status runs demand ⊢
    have handed : CameraLinked { u with guide := { u.guide with demand := d } } := ⟨demand.symm, status, runs⟩
    exact handed.of_stays (handGuide_stays u fun g => { g with demand := d })

end Sys2Proof.Machine
end

section
/-! SUPPORT. What keeps demand, camera, Generator and the output records in agreement: refresh events and all that follows a change of
views (R97 to R106, R120, R144). -/

namespace Sys2Proof.Machine

set_option Elab.async false

open Sys2Proof

/-! ### One output's record (R95, R98, R100) -/

/-- A record is OFF exactly when it is not enabled, its linger timer runs exactly in LINGER, and was-off is set in REVERSE views alone. -/
structure OutputRec.Lawful (r : OutputRec) : Prop where
  off : r.owner = .off ↔ r.enabled = false
  timed : r.linger.isSome = true ↔ r.owner = .linger
  reverse : r.wasOff = true → r.inView = true ∧ r.reason = .reverse

theorem outputsLawful_iff {s : State} : OutputsLawful s ↔ ∀ o, (s.out o).Lawful :=
  ⟨fun h o => ⟨(h o).1, (h o).2.1, (h o).2.2⟩, fun h o => ⟨(h o).off, (h o).timed, (h o).reverse⟩⟩

/-- Two records agree in who owns the output and in whether its linger timer runs. -/
structure OutputRec.SameView (r q : OutputRec) : Prop where
  enabled : q.enabled = r.enabled
  owner : q.owner = r.owner
  reason : q.reason = r.reason
  wasOff : q.wasOff = r.wasOff
  timed : q.linger.isSome = r.linger.isSome

section
variable {r q : OutputRec}

theorem OutputRec.SameView.inView (h : r.SameView q) : q.inView = r.inView := by
  unfold OutputRec.inView
  rw [h.owner]

theorem OutputRec.Lawful.of_same (h : r.Lawful) (same : r.SameView q) : q.Lawful := by
  refine ⟨?_, ?_, ?_⟩
  · rw [same.owner, same.enabled]; exact h.off
  · rw [same.timed, same.owner]; exact h.timed
  · rw [same.wasOff, same.inView, same.reason]; exact h.reverse

/-- A record in no view and not OFF: enabled, and neither was-off nor a timer stands. -/
theorem OutputRec.lawful_normal (normal : r.owner = .normal) (enabled : r.enabled = true) (timer : r.linger = none)
    (cleared : r.wasOff = false) : r.Lawful := by
  refine ⟨?_, ?_, ?_⟩ <;> simp [normal, enabled, timer, cleared]

/-- A record in a camera view with no timer: enabled, and was-off set with reason REVERSE alone. -/
theorem OutputRec.lawful_camera (camera : r.owner = .camera) (enabled : r.enabled = true) (timer : r.linger = none)
    (cleared : r.wasOff = true → r.reason = .reverse) : r.Lawful := by
  refine ⟨?_, ?_, fun set => ⟨?_, cleared set⟩⟩ <;> simp [camera, enabled, timer, OutputRec.inView]

theorem OutputRec.lawful_loaded (enabled : Bool) (t : Timing) (background : Rgb) (mirror : Bool) :
    (OutputRec.loaded enabled t background mirror).Lawful := by
  cases enabled <;> refine ⟨?_, ?_, ?_⟩ <;> simp [OutputRec.loaded]

theorem OutputRec.lawful_switchedOff (r : OutputRec) : r.switchedOff.Lawful := by
  refine ⟨?_, ?_, ?_⟩ <;> simp [OutputRec.switchedOff]

theorem OutputRec.Lawful.enabled (h : r.Lawful) (on : r.owner ≠ .off) : r.enabled = true := by
  rw [← Bool.not_eq_false, ← h.off]
  exact on

theorem OutputRec.Lawful.untimed (h : r.Lawful) (other : r.owner ≠ .linger) : r.linger = none := by
  rw [← Option.not_isSome_iff_eq_none, h.timed]
  exact other

/-- Outside REVERSE views was-off is clear. -/
theorem OutputRec.Lawful.cleared (h : r.Lawful) (other : r.inView = false ∨ r.reason = .request) : r.wasOff = false := by
  rw [← Bool.not_eq_true]
  intro set
  obtain ⟨view, reverse⟩ := h.reverse set
  rcases other with unviewed | request
  · rw [view] at unviewed
    exact nomatch unviewed
  · rw [reverse] at request
    exact nomatch request

theorem OutputRec.Lawful.givenBack (h : r.Lawful) (on : r.owner ≠ .off) (cleared : r.wasOff = false) : r.givenBack.Lawful :=
  OutputRec.lawful_normal rfl (h.enabled on) rfl cleared

theorem OutputRec.Lawful.left (h : r.Lawful) (on : r.owner ≠ .off) : r.left.Lawful := by
  rw [left_eq]
  split
  · exact r.lawful_switchedOff
  · rename_i clear
    exact h.givenBack on (Bool.eq_false_iff.2 clear)

end

/-! ### Demand, camera and records together -/

/-- Demand, the camera and what the Generator holds follow the views, and every record is lawful. -/
structure ViewsLawful (s : State) : Prop where
  camera : CameraFollows s
  records : ∀ o, (s.out o).Lawful

/-- What leads from one state to another keeps demand, camera and records in agreement. -/
def ViewsKept (s t : State) : Prop := ViewsLawful s → ViewsLawful t

section
variable {s t u : State}

theorem ViewsLawful.linked (h : ViewsLawful s) : CameraLinked s := (cameraFollows_iff.1 h.camera).2

theorem ViewsKept.refl (s : State) : ViewsKept s s := id

theorem ViewsKept.trans (h : ViewsKept s t) (k : ViewsKept t u) : ViewsKept s u := fun lawful => k (h lawful)

theorem ViewsKept.ite {c : Prop} [Decidable c] (h : ViewsKept s t) (k : ViewsKept s u) : ViewsKept s (if c then t else u) := by
  split
  · exact h
  · exact k

theorem ViewsKept.foldl {α : Type} {f : State → α → State} (h : ∀ t x, ViewsKept t (f t x)) (xs : List α) (s : State) :
    ViewsKept s (xs.foldl f s) := foldl_keeps h xs

/-- What moves the camera and keeps it linked, and leaves demand and every view, keeps the agreement. -/
theorem ViewsKept.of_linked (linked : CameraLinked s → CameraLinked t) (demand : t.comp.demand = s.comp.demand)
    (views : ∀ o, (s.out o).SameView (t.out o)) : ViewsKept s t := by
  intro h
  obtain ⟨follows, held⟩ := cameraFollows_iff.1 h.camera
  refine ⟨cameraFollows_iff.2 ⟨?_, linked held⟩, fun o => (h.records o).of_same (views o)⟩
  rw [demand, follows]
  exact congrArg outputs.any (funext fun o => ((views o).inView).symm)

theorem ViewsKept.of_stays (k : CameraStays s t) (views : ∀ o, (s.out o).SameView (t.out o)) : ViewsKept s t :=
  .of_linked (·.of_stays k) k.demand views

end

theorem sameView_of_changes {ps : List Piece} {s t : State} (c : Changes ps s t) (owners : ps.contains .owners = false := by decide)
    (run : ps.contains .outRun = false := by decide) (o : Output) : (s.out o).SameView (t.out o) := by
  obtain ⟨enabled, owner, reason, wasOff⟩ := c.at .owners owners o
  obtain ⟨-, linger, -⟩ := c.at .outRun run o
  exact ⟨enabled, owner, reason, wasOff, by rw [linger]⟩

/-- A change without records, demand, camera and Generator keeps the agreement. -/
theorem ViewsKept.of_changes {ps : List Piece} {s t : State} (c : Changes ps s t)
    (out : ([Piece.owners, .outRun, .demand, .camera, .camSettings, .guide].all fun p => !ps.contains p) = true := by decide) :
    ViewsKept s t := by
  have absent : ∀ p ∈ [Piece.owners, .outRun, .demand, .camera, .camSettings, .guide], ps.contains p = false := fun p listed => by
    simpa using List.all_eq_true.1 out p listed
  have camera : ([Piece.demand, .camera, .camSettings, .guide].all fun p => !ps.contains p) = true :=
    List.all_eq_true.2 fun p listed => by
      rw [absent p (by revert listed; revert p; decide)]
      rfl
  exact .of_stays (.of_changes c camera) (sameView_of_changes c (absent _ (by decide)) (absent _ (by decide)))

/-- A change that reaches the Generator's computation alone, of what bears on the agreement, keeps it. -/
theorem ViewsKept.of_computation {ps : List Piece} {s t : State} (k : CameraStays s t) (c : Changes ps s t)
    (owners : ps.contains .owners = false := by decide) (run : ps.contains .outRun = false := by decide) : ViewsKept s t :=
  .of_stays k (sameView_of_changes c owners run)

/-! ### Owner changes (R97 to R103) -/

section
variable (s : State) (o : Output) (why : OwnerReason)

/-- An owner change recomputes demand (R97, R106): over a linked camera and lawful records all agree after it. -/
theorem ownerChanged_views {s : State} (linked : CameraLinked s) (records : ∀ o, (s.out o).Lawful) (o : Output) (why : OwnerReason) :
    ViewsLawful (s.ownerChanged o why) := by
  have settled : CameraLinked (s.report (.outputOwner o (s.out o).owner why)).settleFlips :=
    linked.of_stays ((CameraStays.of_changes (report_changes s _)).trans (.of_changes (settleFlips_changes _)))
  refine ⟨recomputeDemand_follows settled, fun q => ?_⟩
  rw [ownerChanged_out]
  exact records q

theorem putOut_linked {s : State} (h : CameraLinked s) (o : Output) (r : OutputRec) : CameraLinked (s.putOut o r) :=
  h.of_stays (.of_changes (putOut_changes s o r))

theorem putOut_lawful {s : State} (h : ∀ q, (s.out q).Lawful) {o : Output} {r : OutputRec} (lawful : r.Lawful) (q : Output) :
    ((s.putOut o r).out q).Lawful := by
  rw [putOut_out]
  split
  · exact lawful
  · exact h q

variable {r : OutputRec}

theorem setOwner_views (lawful : (s.out o).Lawful → r.Lawful) : ViewsKept s (s.setOwner o r why) := fun h =>
  ownerChanged_views (putOut_linked h.linked o r) (putOut_lawful h.records (lawful (h.records o))) o why

/-- A record replaced by a lawful one that is in a view exactly when it was. -/
theorem putOut_views (lawful : (s.out o).Lawful → r.Lawful) (view : r.inView = (s.out o).inView) : ViewsKept s (s.putOut o r) := by
  intro h
  refine ⟨cameraFollows_iff.2 ⟨?_, putOut_linked h.linked o r⟩, putOut_lawful h.records (lawful (h.records o))⟩
  have views : ∀ q, ((s.putOut o r).out q).inView = (s.out q).inView := by
    intro q
    rw [putOut_out]
    split
    · subst_vars
      exact view
    · rfl
  simp only [views]
  exact h.camera.1

theorem turnOff_views : ViewsKept s (s.turnOff o why) := by
  intro h
  refine ⟨?_, fun q => ?_⟩
  · have handed := handDue_stays s (.scan o)
    unfold State.turnOff
    dsimp only
    have records : ∀ q, ((s.handDue (.scan o)).out q).Lawful := fun q => by
      rw [handDue_out]
      exact h.records q
    generalize s.handDue (.scan o) = t at handed records ⊢
    have off : CameraStays t (t.putOut o { t.out o with
        owner := .off, enabled := false, wasOff := false, linger := none, frame := none }) := .of_changes (putOut_changes t o _)
    have cleared : ∀ q, ((t.putOut o { t.out o with
        owner := .off, enabled := false, wasOff := false, linger := none, frame := none }).out q).Lawful :=
      putOut_lawful records (t.out o).lawful_switchedOff
    generalize t.putOut o _ = u at off cleared ⊢
    have any : CameraStays u (if o = .centre then u.flipByAnyView else u) := .ite (flipByAnyView_stays u) (.refl u)
    have kept : ∀ q, ((if o = .centre then u.flipByAnyView else u).out q).Lawful := fun q => by
      split
      · rw [out_of_changes (flipByAnyView_changes u) q]
        exact cleared q
      · exact cleared q
    generalize (if o = .centre then u.flipByAnyView else u) = v at any kept ⊢
    have released := ((CameraStays.of_changes (releaseScan_changes v o)).trans (.of_changes (releaseCapture_changes _ o))).trans
      (releaseGuide_stays _ o)
    refine (ownerChanged_views (h.linked.of_stays (((handed.trans off).trans any).trans released)) (fun q => ?_) o why).camera
    rw [released_out]
    exact kept q
  · rw [turnOff_out]
    split
    · exact (s.out o).lawful_switchedOff
    · exact h.records q

theorem toNormal_views (on : (s.out o).owner ≠ .off) (cleared : (s.out o).Lawful → (s.out o).wasOff = false) :
    ViewsKept s (s.toNormal o why) := setOwner_views s o why fun h => h.givenBack on (cleared h)

theorem afterView_views (on : (s.out o).owner ≠ .off) : ViewsKept s (s.afterView o why) := by
  unfold State.afterView
  split
  · exact turnOff_views s o why
  · rename_i clear
    exact toNormal_views s o why on fun _ => Bool.eq_false_iff.2 clear

theorem speedTestOf_views : ViewsKept s (s.speedTestOf o) := by
  unfold State.speedTestOf
  dsimp only
  refine .ite ?_ (.refl s)
  split
  · rename_i owner
    exact afterView_views s o _ (by rw [owner]; decide)
  · rename_i owner
    split
    · rename_i request
      exact toNormal_views s o _ (by rw [owner]; decide) fun h => h.cleared (.inr request)
    · exact .refl s
  · exact .refl s
  · exact .refl s

theorem speedTest_views : ViewsKept s s.speedTest := .foldl speedTestOf_views _ s

/-- A refresh event keeps who owns each output and every linger timer (R107). -/
theorem refresh_views : ViewsKept s (s.refresh o) := by
  by_cases off : (s.out o).owner = .off
  · unfold State.refresh
    rw [if_pos off]
    exact .refl s
  · obtain ⟨others, linger, -⟩ := refresh_record off
    refine .of_stays (refresh_stays s o) fun q => ?_
    obtain ⟨enabled, owner, reason, wasOff⟩ := refresh_owner s o q
    refine ⟨enabled, owner, reason, wasOff, ?_⟩
    by_cases own : q = o
    · rw [own, linger]
    · rw [others q own]

theorem forceOn_views (off : (s.out o).owner = .off) : ViewsKept s (s.forceOn o) := by
  refine (setOwner_views s o _ fun h => ?_).trans (refresh_views _ o)
  exact OutputRec.lawful_camera rfl rfl (h.untimed (by rw [off]; decide)) fun _ => rfl

theorem riseOf_views : ViewsKept s (s.riseOf o) := by
  unfold State.riseOf
  dsimp only
  split
  · rename_i owner
    exact .ite (forceOn_views s o owner) (.refl s)
  · rename_i owner
    refine .ite (setOwner_views s o _ fun h => ?_) (.refl s)
    exact OutputRec.lawful_camera rfl (h.enabled (by rw [owner]; decide)) (h.untimed (by rw [owner]; decide)) fun _ => rfl
  · rename_i owner
    refine setOwner_views s o _ fun h => ?_
    exact OutputRec.lawful_camera rfl (h.enabled (by rw [owner]; decide)) rfl fun _ => rfl
  · rename_i owner
    have put : ViewsKept s (s.putOut o { s.out o with reason := .reverse }) := putOut_views s o
      (fun h => OutputRec.lawful_camera owner (h.enabled (by rw [owner]; decide)) (h.untimed (by rw [owner]; decide)) fun _ => rfl) rfl
    exact .ite (put.trans (.of_changes (report_changes _ _))) (.refl s)

theorem viewRise_views : ViewsKept s s.viewRise := .foldl riseOf_views _ s

theorem fallOf_views : ViewsKept s (s.fallOf o) := by
  unfold State.fallOf
  dsimp only
  split
  · rename_i view
    refine .ite (afterView_views s o _ (by rw [view.1]; decide)) ((setOwner_views s o _ fun h => ?_).trans (speedTestOf_views _ o))
    refine ⟨?_, ?_, fun _ => ⟨?_, view.2⟩⟩
    · simp [h.enabled (by rw [view.1]; decide)]
    · simp
    · simp [OutputRec.inView]
  · exact .refl s

theorem viewFall_views : ViewsKept s s.viewFall := .foldl fallOf_views _ s

theorem lingerDue_views : ViewsKept s (s.lingerDue o) := by
  unfold State.lingerDue
  split
  · rename_i due
    exact afterView_views s o _ (by rw [due.1]; decide)
  · exact .refl s

theorem store_sameView (f : SetOutput) (x : Option StreamId) (r : OutputRec) : r.SameView (SetOutput.store f x r) :=
  ⟨rfl, rfl, rfl, rfl, rfl⟩

theorem setOutput_views (f : SetOutput) (x : Option StreamId) : ViewsKept s (s.setOutput o f x) := by
  have same := store_sameView f x (s.out o)
  have stored : (s.out o).Lawful → (SetOutput.store f x (s.out o)).Lawful := fun h => h.of_same same
  have put : ViewsKept s (s.putOut o (SetOutput.store f x (s.out o))) := putOut_views s o stored same.inView
  unfold State.setOutput
  dsimp only
  generalize SetOutput.store f x (s.out o) = r at stored put same ⊢
  split
  · rename_i owner _
    refine (setOwner_views s o _ fun h => ?_).trans (refresh_views _ o)
    refine OutputRec.lawful_normal rfl rfl ((stored h).untimed (by rw [owner]; decide)) ((stored h).cleared (.inl ?_))
    simp [OutputRec.inView, owner]
  · exact put.trans (turnOff_views _ o _)
  · exact putOut_views s o (fun h => ⟨(stored h).off, (stored h).timed, nofun⟩) same.inView
  · exact putOut_views s o (fun h => ⟨(stored h).off, (stored h).timed, nofun⟩) same.inView
  · exact put

theorem showOn_views (set : OutputSet) : ViewsKept s (s.showOn set o) := by
  unfold State.showOn
  dsimp only
  split
  · rename_i member
    refine setOwner_views s o _ fun h => ?_
    have cleared := h.cleared (.inl (by simp [OutputRec.inView, member.2]))
    exact OutputRec.lawful_camera rfl (h.enabled (by rw [member.2]; decide)) (h.untimed (by rw [member.2]; decide)) fun set => by
      rw [show (s.out o).wasOff = true from set] at cleared
      exact nomatch cleared
  · exact .refl s

theorem releaseOn_views (set : OutputSet) : ViewsKept s (s.releaseOn set o) := by
  unfold State.releaseOn
  dsimp only
  refine .ite ?_ (.refl s)
  split
  · rename_i owner
    exact afterView_views s o _ (by rw [owner]; decide)
  · rename_i owner
    split
    · rename_i request
      exact toNormal_views s o _ (by rw [owner]; decide) fun h => h.cleared (.inr request)
    · exact .refl s
  · exact .refl s
  · exact .refl s

end

end Sys2Proof.Machine
end

section
/-! SUPPORT. What keeps demand, camera and records in agreement beyond the views: the vehicle's signals, the guide and the camera,
and start-up (R34 to R48, R96, R118 to R136, R182). -/

namespace Sys2Proof.Machine

set_option Elab.async false

open Sys2Proof

/-! ### The vehicle's signals, REV_EFF and the view policy -/

theorem handRevEff_views (s : State) (rev : Bool) : ViewsKept s (s.handRevEff rev) := by
  have views : ViewsKept s (if s.isStarting then s else if rev then s.viewRise else s.viewFall) :=
    .ite (.refl s) (.ite (viewRise_views s) (viewFall_views s))
  unfold State.handRevEff
  dsimp only
  generalize (if s.isStarting then s else if rev then s.viewRise else s.viewFall) = t at views ⊢
  have chimes : ViewsKept t (if t.isStarting then t else if rev then t.chimeRise else t.chimeFall) :=
    .ite (.refl t) (.ite (.of_changes (chimeRise_changes t)) (.of_changes (chimeFall_changes t)))
  exact (views.trans chimes).trans (.of_changes (handMixerRev_changes _ rev))

theorem evalRev_views (s : State) (fall : RevContribution) : ViewsKept s (s.evalRev fall) := by
  unfold State.evalRev
  dsimp only
  refine .ite (.refl s) ?_
  generalize revOf s.recv.source s.recv.line s.busTerm = rev
  have taken : ViewsKept s { s with recv := { s.recv with revEff := rev } } :=
    .of_stays ⟨rfl, rfl, rfl, rfl, rfl⟩ fun _ => ⟨rfl, rfl, rfl, rfl, rfl⟩
  generalize ({ s with recv := { s.recv with revEff := rev } } : State) = t at taken ⊢
  exact (taken.trans (.of_changes (report_changes t _))).trans (handRevEff_views _ rev)

theorem handSpeed_views (s : State) : ViewsKept s s.handSpeed :=
  (ViewsKept.of_changes (suppressionTest_changes s)).trans (speedTest_views _)

theorem handUpdates_views (s : State) (updated : List SignalId) (mask : BitVec 7) : ViewsKept s (s.handUpdates updated mask) := by
  unfold State.handUpdates
  dsimp only
  have steered : ViewsKept s (if updated.contains .steerAngle then s.steerUpdated (decide (mask &&& signalBit .steerAngle ≠ 0)) else s) :=
    .ite (.of_computation (steerUpdated_stays s _) (steerUpdated_changes s _)) (.refl s)
  generalize (if updated.contains .steerAngle then s.steerUpdated (decide (mask &&& signalBit .steerAngle ≠ 0)) else s) = a at steered ⊢
  have sped : ViewsKept s (if updated.contains .speed then a.handSpeed else a) := steered.trans (.ite (handSpeed_views a) (.refl a))
  generalize (if updated.contains .speed then a.handSpeed else a) = b at sped ⊢
  exact sped.trans (.ite (.of_changes (parkEvent_changes b)) (.refl b))

theorem steerLost_views (s : State) : ViewsKept s s.steerLost := .of_computation (steerLost_stays s) (steerLost_changes s)

theorem handStateChange_views (s : State) (i : SignalId) : ViewsKept s (s.handStateChange i) := by
  cases i with
  | reverse => exact .refl s
  | steerAngle =>
    unfold State.handStateChange
    dsimp only
    split
    · exact steerLost_views s
    · exact steerLost_views s
    · exact .refl s
    · exact .refl s
  | speed => exact handSpeed_views s
  | distOuterL | distInnerL | distInnerR | distOuterR => exact .of_changes (parkEvent_changes s)

theorem receive_views (s : State) (x : Reception) : ViewsKept s (s.receive x) := by
  cases x with
  | faulty => exact .of_stays ⟨rfl, rfl, rfl, rfl, rfl⟩ fun _ => ⟨rfl, rfl, rfl, rfl, rfl⟩
  | remote => exact .of_stays ⟨rfl, rfl, rfl, rfl, rfl⟩ fun _ => ⟨rfl, rfl, rfl, rfl, rfl⟩
  | data extended identifier dlc bytes =>
    have counted : ViewsKept s { s with recv := { s.recv with goodFrames := satInc s.recv.goodFrames } } :=
      .of_stays ⟨rfl, rfl, rfl, rfl, rfl⟩ fun _ => ⟨rfl, rfl, rfl, rfl, rfl⟩
    unfold State.receive
    dsimp only
    generalize ({ s with recv := { s.recv with goodFrames := satInc s.recv.goodFrames } } : State) = t at counted ⊢
    refine .ite (counted.trans ?_) counted
    have applied := ViewsKept.of_changes (applyRules_changes t extended identifier bytes)
    generalize t.applyRules extended identifier bytes = a at applied ⊢
    have tested := (applied.trans (.of_changes (reportSignals_changes _ a.mask))).trans (.of_changes (latchTest_changes _))
    exact (tested.trans (evalRev_views _ .bus)).trans (handUpdates_views _ _ _)

theorem signalHeld_views (s : State) (i : SignalId) : ViewsKept s (s.signalHeld i) := by
  have changed := (ViewsKept.of_changes (putSignal_changes s i { s.signal i with state := .held })).trans
    (.of_changes (reportSignals_changes _ (signalBit i)))
  exact .ite ((changed.trans (evalRev_views _ _)).trans (handStateChange_views _ i)) (.refl s)

theorem signalLost_views (s : State) (i : SignalId) : ViewsKept s (s.signalLost i) := by
  unfold State.signalLost
  refine .ite ?_ (.refl s)
  dsimp only
  have lost := ViewsKept.of_changes (putSignal_changes s i { s.signal i with state := .lost, value := safeValue i })
  generalize s.putSignal i _ = t at lost ⊢
  have latched := lost.trans (.ite (c := i = .reverse) (.of_changes (setLatch_changes t (decide ((s.signal i).value = 1)))) (.refl t))
  have tested := (latched.trans (.of_changes (reportSignals_changes _ (signalBit i)))).trans (.of_changes (latchTest_changes _))
  exact (tested.trans (evalRev_views _ _)).trans (handStateChange_views _ i)

theorem clearSignals_views (s : State) (is : List SignalId) : ViewsKept s (s.clearSignals is) := by
  have cleared : ViewsKept s (is.foldl (fun u i => u.putSignal i ((u.signal i).toNone i)) s) :=
    .foldl (fun t i => .of_changes (putSignal_changes t i _)) is s
  unfold State.clearSignals
  dsimp only
  generalize is.foldl (fun u i => u.putSignal i ((u.signal i).toNone i)) s = t at cleared ⊢
  exact ((cleared.trans (.of_changes (reportSignals_changes t _))).trans (evalRev_views _ _)).trans (.foldl handStateChange_views _ _)

theorem storeRule_views (s : State) (n : Fin 16) (r : Rule) : ViewsKept s (s.storeRule n r) := by
  have timed : ∀ t : State, ViewsKept t (t.takeTimeout r) := fun t => .ite (.of_changes (putSignal_changes t _ _)) (.refl t)
  exact ((ViewsKept.of_changes (putRule_changes s n r)).trans (timed _)).trans (clearSignals_views _ _)

theorem emptyRule_views (s : State) (n : Fin 16) : ViewsKept s (s.emptyRule n) :=
  (ViewsKept.of_changes (putRule_changes s n .cleared)).trans (clearSignals_views _ _)

theorem debounced_views (s : State) : ViewsKept s s.debounced :=
  .ite ((ViewsKept.of_changes (lineSettles_changes s)).trans (evalRev_views _ _)) (.refl s)

theorem takeReverseSource_views (s : State) (x : ReverseSource) (n : Nat) : ViewsKept s (s.takeReverseSource x n) :=
  (ViewsKept.of_changes (source_changes s x n)).trans (evalRev_views _ _)

theorem setPolicy_views (s : State) (f : SetViewPolicy) : ViewsKept s (s.setPolicy f) := by
  unfold State.setPolicy
  dsimp only
  have stored := ViewsKept.of_changes (policy_changes s (SetViewPolicy.store f s.comp.policy))
  generalize ({ s with comp := { s.comp with policy := SetViewPolicy.store f s.comp.policy } } : State) = t at stored ⊢
  have lingered := stored.trans (.ite (c := f.lingerTime.isSome = true) (ViewsKept.foldl lingerDue_views outputs t) (.refl t))
  generalize (if f.lingerTime.isSome = true then outputs.foldl State.lingerDue t else t) = u at lingered ⊢
  have slowed : ViewsKept u u.lingerSpeedChanged :=
    ((ViewsKept.of_changes (latchTest_changes u)).trans (evalRev_views _ _)).trans (speedTest_views _)
  have sped := lingered.trans (.ite (c := (SetViewPolicy.store f s.comp.policy).lingerSpeed = s.comp.policy.lingerSpeed) (.refl u) slowed)
  exact sped.trans (.ite (.refl _) (.of_changes (suppressionTest_changes _)))

/-! ### The Generator and the frames under way -/

section
variable (s : State)

theorem requestRecompute_views : ViewsKept s s.requestRecompute := .of_computation (requestRecompute_stays s) (requestRecompute_changes s)

theorem setGeometry_views (g : Geometry) : ViewsKept s (s.setGeometry g) :=
  ViewsKept.trans (t := { s with guide := { s.guide with geometry := g, valid := true } })
    (.of_changes (geometry_changes s { s.guide with geometry := g, valid := true } rfl)) (requestRecompute_views _)

theorem setStyle_views (x : GuideStyle) : ViewsKept s (s.setStyle x) :=
  ViewsKept.trans (t := { s with guide := { s.guide with style := x } })
    (.of_changes (geometry_changes s { s.guide with style := x } rfl)) (requestRecompute_views _)

theorem endDrawing_views : ViewsKept s s.endDrawing := .of_computation (endDrawing_stays s) (endDrawing_changes s)

theorem handDue_views (r : Reader) : ViewsKept s (s.handDue r) := .of_computation (handDue_stays s r) (handDue_changes s r)

theorem endSelfTest_views (b : Bool) : ViewsKept s (s.endSelfTest b) := by
  unfold State.endSelfTest
  split
  · exact .refl s
  · rename_i x _
    have written : ViewsKept s { s with mem := s.mem.patternPages x.pages x.late } :=
      .of_stays ⟨rfl, rfl, rfl, rfl, rfl⟩ fun _ => ⟨rfl, rfl, rfl, rfl, rfl⟩
    have handed := written.trans (handDue_views _ .selfTest)
    dsimp only
    generalize State.handDue _ Reader.selfTest = u at handed ⊢
    exact handed.trans (.of_stays ⟨rfl, rfl, rfl, rfl, rfl⟩ fun _ => ⟨rfl, rfl, rfl, rfl, rfl⟩)

/-- A stream closed or a layer deleted leaves a frame under way without it, and who owns the outputs as it was (R53, R90). -/
theorem closeStream_views (i : StreamId) : ViewsKept s (s.closeStream i) :=
  .of_stays (.of_changes (closeStream_changes s i)) fun o => by
    rw [closeStream_out]
    exact ⟨rfl, rfl, rfl, rfl, rfl⟩

theorem deleteLayer_views (n : Fin 24) : ViewsKept s (s.deleteLayer n) :=
  .of_stays (.of_changes (deleteLayer_changes s n)) fun o => by
    rw [deleteLayer_out]
    exact ⟨rfl, rfl, rfl, rfl, rfl⟩

end

/-! ### The camera (R118 to R132) -/

/-- A change that keeps the camera linked and leaves demand and the views alone keeps the agreement. -/
theorem ViewsKept.of_camera {ps : List Piece} {s t : State} (linked : CameraLinked s → CameraLinked t) (c : Changes ps s t)
    (demand : ps.contains .demand = false := by decide) (owners : ps.contains .owners = false := by decide)
    (run : ps.contains .outRun = false := by decide) : ViewsKept s t :=
  .of_linked linked (c.at .demand demand) (sameView_of_changes c owners run)

section
variable {s : State}

theorem loseCamera_linked (on : s.cam.status ≠ .off) (h : CameraLinked s) : CameraLinked s.loseCamera :=
  setCameraStatus_linked (s := { s with cam := { s.cam with timer := some 0, prevSig := none, equalRun := 0, recovery := 0 } })
    ⟨h.demand, h.status, h.runs⟩ on nofun

theorem wakeExpired_linked (h : CameraLinked s) : CameraLinked s.wakeExpired := by
  unfold State.wakeExpired
  split
  · rename_i due
    exact loseCamera_linked (by rw [due.1]; decide) h
  · exact h

theorem frameExpired_linked (h : CameraLinked s) : CameraLinked s.frameExpired := by
  unfold State.frameExpired
  split
  · split
    · rename_i status
      exact loseCamera_linked (by rw [status]; decide) h
    · rename_i status
      exact loseCamera_linked (by rw [status]; decide) h
    · exact ⟨h.demand, h.status, h.runs⟩
    · exact h
    · exact h
  · exact h

/-- The camera's state and settings stay through a comparison of signatures (R126). -/
theorem compare_stays (c : Camera) (sig : BitVec 16) : (c.compare sig).status = c.status ∧ (c.compare sig).settings = c.settings := by
  unfold Camera.compare
  split <;> exact ⟨rfl, rfl⟩

/-- A camera record with another's state and settings is as linked as that one. -/
theorem CameraLinked.of_record {c : Camera} (h : CameraLinked s) (status : c.status = s.cam.status) (settings : c.settings = s.cam.settings) :
    CameraLinked { s with cam := c } :=
  h.of_stays ⟨rfl, status, congrArg CameraSettings.keepWarm settings, rfl, rfl⟩

theorem goodFrame_linked (sig : BitVec 16) (h : CameraLinked s) : CameraLinked (s.goodFrame sig) := by
  have compared : CameraLinked { s with cam := Camera.compare { s.cam with timer := some 0 } sig } :=
    h.of_record (compare_stays _ sig).1 (compare_stays _ sig).2
  have status : (Camera.compare { s.cam with timer := some 0 } sig).status = s.cam.status := (compare_stays _ sig).1
  unfold State.goodFrame
  dsimp only
  generalize Camera.compare { s.cam with timer := some 0 } sig = c at compared status ⊢
  split
  · exact h
  · rename_i waking
    exact setCameraStatus_linked compared (by rw [status, waking]; decide) nofun
  · rename_i live
    split
    · exact setCameraStatus_linked compared (by rw [status, live]; decide) nofun
    · exact compared
  · rename_i frozen
    split
    · exact setCameraStatus_linked compared (by rw [status, frozen]; decide) nofun
    · exact compared
  · rename_i lost
    split
    · exact setCameraStatus_linked (compared.of_record (c := { c with recovery := 0 }) rfl rfl) (by rw [status, lost]; decide) nofun
    · exact compared.of_record (c := { c with recovery := c.recovery + 1 }) rfl rfl

theorem shortFrame_linked (h : CameraLinked s) : CameraLinked s.shortFrame := by
  unfold State.shortFrame
  split
  · exact h.of_record rfl rfl
  · exact h

theorem endCameraFrame_linked (h : CameraLinked s) : CameraLinked s.endCameraFrame := by
  unfold State.endCameraFrame
  split
  · exact h
  · rename_i rx _
    dsimp only
    cases rx.slot with
    | none =>
      split
      · exact goodFrame_linked _ (h.of_record rfl rfl)
      · exact shortFrame_linked (h.of_record rfl rfl)
    | some k =>
      split
      · exact goodFrame_linked _ (h.of_record rfl rfl)
      · exact shortFrame_linked (h.of_record rfl rfl)

theorem startCameraFrame_linked (h : CameraLinked s) : CameraLinked s.startCameraFrame := by
  unfold State.startCameraFrame
  split
  · exact h
  · have same : ∀ c : Camera, c.startFrame.status = c.status ∧ c.startFrame.settings = c.settings := fun c => by
      unfold Camera.startFrame
      split <;> exact ⟨rfl, rfl⟩
    exact (endCameraFrame_linked h).of_record (same _).1 (same _).2

theorem wakeExpired_views (s : State) : ViewsKept s s.wakeExpired := .of_camera wakeExpired_linked (wakeExpired_changes s)

theorem frameExpired_views (s : State) : ViewsKept s s.frameExpired := .of_camera frameExpired_linked (frameExpired_changes s)

theorem endCameraFrame_views (s : State) : ViewsKept s s.endCameraFrame := .of_camera endCameraFrame_linked (endCameraFrame_changes s)

theorem startCameraFrame_views (s : State) : ViewsKept s s.startCameraFrame :=
  .of_camera startCameraFrame_linked (startCameraFrame_changes s)

/-! ### SET CAMERA (R132) -/

/-- The Generator holds demand and the camera state as they are, whether or not the camera runs as it should. -/
structure CameraHanded (s : State) : Prop where
  demand : s.guide.demand = s.comp.demand
  status : s.guide.camStatus = s.cam.status

theorem CameraHanded.of_stays {t : State} (h : CameraHanded s) (k : CameraStays s t) : CameraHanded t :=
  ⟨by rw [k.demandHeld, k.demand]; exact h.demand, by rw [k.statusHeld, k.status]; exact h.status⟩

theorem setCameraStatus_handed (h : CameraHanded s) (x : CameraStatus) : CameraHanded (s.setCameraStatus x) := by
  have taken : CameraHanded { s with cam := { s.cam with status := x }, guide := { s.guide with camStatus := x } } := ⟨h.demand, rfl⟩
  exact taken.of_stays (setCameraStatus_stays s x)

theorem loseCamera_handed (h : CameraHanded s) : CameraHanded s.loseCamera :=
  setCameraStatus_handed (s := { s with cam := { s.cam with timer := some 0, prevSig := none, equalRun := 0, recovery := 0 } })
    ⟨h.demand, h.status⟩ _

theorem cameraDue_handed (h : CameraHanded s) : CameraHanded s.cameraDue := by
  unfold State.cameraDue State.wakeExpired State.frameExpired
  split
  · split
    · exact loseCamera_handed h
    · exact h
  · split
    · split
      · exact loseCamera_handed h
      · exact loseCamera_handed h
      · exact ⟨h.demand, h.status⟩
      · exact h
      · exact h
    · exact h

theorem formatChanged_stays (s : State) : CameraStays s s.formatChanged := by
  unfold State.formatChanged
  dsimp only
  exact handed_stays ⟨rfl, rfl, rfl, rfl, rfl⟩

/-- Whatever the settings were, the camera runs as demand and keep-warm stand after SET CAMERA (R120, R132). -/
theorem setCamera_linked (f : SetCamera) (h : CameraLinked s) : CameraLinked (s.setCamera f) := by
  have stored : CameraHanded { s with cam := { s.cam with settings := SetCamera.store f s.cam.settings } } := ⟨h.demand, h.status⟩
  unfold State.setCamera
  dsimp only
  generalize ({ s with cam := { s.cam with settings := SetCamera.store f s.cam.settings } } : State) = t at stored ⊢
  have format : CameraHanded (if f.format.isSome then t.formatChanged else t) := stored.of_stays (.ite (formatChanged_stays t) (.refl t))
  generalize (if f.format.isSome then t.formatChanged else t) = u at format ⊢
  have due : CameraHanded (if f.frameTimeout.isSome || f.wakeTimeout.isSome then u.cameraDue else u) := by
    split
    · exact cameraDue_handed format
    · exact format
  exact followCamera_linked due.demand due.status

theorem setCamera_views (s : State) (f : SetCamera) : ViewsKept s (s.setCamera f) :=
  .of_camera (setCamera_linked f) (setCamera_changes s f)

end

/-! ### Start-up (R117, R134, R182) -/

theorem loadReceiver_views (s : State) : ViewsKept s s.loadReceiver := by
  unfold State.loadReceiver
  split
  · exact evalRev_views s _
  · rename_i b _
    have rated : ViewsKept s { s with recv := { s.recv with bitRate := bitRateOf (byteAt b 0).toNat } } :=
      .of_stays ⟨rfl, rfl, rfl, rfl, rfl⟩ fun _ => ⟨rfl, rfl, rfl, rfl, rfl⟩
    dsimp only
    generalize ({ s with recv := { s.recv with bitRate := bitRateOf (byteAt b 0).toNat } } : State) = t at rated ⊢
    exact (rated.trans (.foldl (fun u n => .of_changes (loadRule_changes b u n)) _ t)).trans (takeReverseSource_views _ _ _)

/-- Step 4 in its parts: the sector's outputs with demand as it was, demand recomputed, and REV_EFF evaluated (R106, R117, log 59). -/
theorem loadOutputs_parts (s : State) : s.loadOutputs = (((State.recomputeDemand { s with comp :=
    { loadedCompositor (s.validBytes 3) with demand := s.comp.demand } }).latchTest).evalRev .bus) := rfl

theorem loadedCompositor_lawful (sector : Option (List Byte)) (s : State) (o : Output) :
    (State.out { s with comp := loadedCompositor sector } o).Lawful := by
  rw [loadedCompositor_out]
  split
  · exact OutputRec.lawful_loaded _ _ _ _
  · exact OutputRec.lawful_loaded _ _ _ _

theorem loadOutputs_views (s : State) : ViewsKept s s.loadOutputs := by
  rw [loadOutputs_parts]
  refine ViewsKept.trans (ViewsKept.trans (fun h => ?_) (.of_changes (latchTest_changes _))) (evalRev_views _ _)
  have linked : CameraLinked { s with comp := { loadedCompositor (s.validBytes 3) with demand := s.comp.demand } } :=
    h.linked.of_stays ⟨rfl, rfl, rfl, rfl, rfl⟩
  refine ⟨recomputeDemand_follows linked, fun o => ?_⟩
  rw [out_of_changes (recomputeDemand_changes _)]
  exact loadedCompositor_lawful (s.validBytes 3) s o

theorem loadCamera_views (s : State) : ViewsKept s s.loadCamera := by
  have started : ∀ (c : CameraSettings) (g : Guide), g.demand = s.guide.demand → g.camStatus = .off →
      ViewsKept s (State.followCamera { s with cam := .initial c, guide := g }) := by
    intro c g demand off
    have changed := followCamera_changes { s with cam := .initial c, guide := g }
    refine .of_linked (fun h => ?_) (changed.at .demand) fun o => sameView_of_changes changed (by decide) (by decide) o
    exact followCamera_linked (demand.trans h.demand) off
  unfold State.loadCamera
  split
  · exact started _ _ rfl rfl
  · exact started _ _ rfl rfl

theorem doStep_views (s : State) (x : StartUpStep) : ViewsKept s (s.doStep x) := by
  have quiet : ∀ t : State, t.comp = s.comp → t.cam = s.cam → t.guide = s.guide → ViewsKept s t := by
    intro t comp cam guide
    refine .of_stays ⟨by rw [comp], by rw [cam], by rw [cam], by rw [guide], by rw [guide]⟩ fun o => ?_
    rw [show t.out o = s.out o from congrArg (fun c : Compositor => c.outputs.sel (outputNo o)) comp]
    exact ⟨rfl, rfl, rfl, rfl, rfl⟩
  cases x with
  | examine => exact quiet _ rfl rfl rfl
  | receiver => exact loadReceiver_views s
  | outputs => exact loadOutputs_views s
  | camera => exact loadCamera_views s
  | mixer =>
    show ViewsKept s s.loadMixer
    unfold State.loadMixer
    split <;> exact quiet _ rfl rfl rfl

theorem enterRunning_views (s : State) : ViewsKept s s.enterRunning := by
  by_cases running : s.isRunning = true
  · unfold State.enterRunning
    rw [if_pos running]
    exact .refl s
  · rw [enterRunning_eq running]
    have loaded : ViewsKept s s.finishStartUp :=
      (ViewsKept.of_changes (dropSteps_changes s [])).trans (.foldl doStep_views s.steps { s with steps := [] })
    have now : ViewsKept s (entered s.finishStartUp) := loaded.trans
      (.of_stays ⟨rfl, rfl, rfl, rfl, rfl⟩ fun _ => ⟨rfl, rfl, rfl, rfl, rfl⟩)
    generalize entered s.finishStartUp = t at now ⊢
    exact .ite ((now.trans (viewRise_views t)).trans (.of_changes (chimeRise_changes _))) now

/-- A start-up begins with every output OFF and the camera and the Generator at their reset values (R94, R128, R144). -/
theorem startUp_viewsLawful (s : State) (cause : ResetCause) : ViewsLawful (s.startUp cause) := by
  refine ⟨⟨rfl, rfl, rfl, ⟨fun _ => rfl, fun _ => rfl⟩⟩, fun o => ?_⟩
  rw [startUp_out]
  exact OutputRec.lawful_loaded _ _ _ _

/-- Time that passes starts and ends no linger timer (log 1). -/
theorem tick_views (s : State) : ViewsKept s s.tick := by
  refine .of_stays ⟨rfl, rfl, rfl, rfl, rfl⟩ fun o => ?_
  rw [tick_out]
  refine ⟨rfl, rfl, rfl, rfl, ?_⟩
  unfold OutputRec.tick tickTimer
  cases (s.out o).linger <;> rfl

end Sys2Proof.Machine
end

section
/-! SUPPORT. What keeps suppression on while SPEED is missing or high (R35 to R40, R96, R103, R112). -/

namespace Sys2Proof.Machine

set_option Elab.async false

open Sys2Proof

/-! ### Frames and the suppression test -/

section
variable {s t : State}

/-- SPEED's state and value, the film speed limit and the suppression state kept, suppression stays cautious. -/
theorem SuppressionCautious.of_same (h : SuppressionCautious s) (state : (t.signal .speed).state = (s.signal .speed).state)
    (value : (t.signal .speed).value = (s.signal .speed).value) (limit : t.comp.policy.filmSpeedLimit = s.comp.policy.filmSpeedLimit)
    (suppression : t.comp.suppression = s.comp.suppression) : SuppressionCautious t := by
  unfold SuppressionCautious
  rw [state, value, limit, suppression]
  exact h

theorem SuppressionCautious.of_suppressed (h : s.comp.suppression = true) : SuppressionCautious s := fun _ => h

/-- A change that keeps SPEED, and of the Compositor neither the policy nor the suppression state changes. -/
theorem SuppressionCautious.of_speed {ps : List Piece} (h : SuppressionCautious s) (c : Changes ps s t)
    (state : (t.signal .speed).state = (s.signal .speed).state) (value : (t.signal .speed).value = (s.signal .speed).value)
    (policy : ps.contains .policy = false := by decide) (suppression : ps.contains .suppression = false := by decide) :
    SuppressionCautious t := by
  have kept : t.comp.policy = s.comp.policy := c.at .policy policy
  exact h.of_same state value (by rw [kept]) (c.at .suppression suppression)

theorem SuppressionCautious.of_changes {ps : List Piece} (h : SuppressionCautious s) (c : Changes ps s t)
    (signals : ps.contains .signals = false := by decide) (policy : ps.contains .policy = false := by decide)
    (suppression : ps.contains .suppression = false := by decide) : SuppressionCautious t :=
  h.of_speed c (by rw [signal_of_changes c .speed signals]) (by rw [signal_of_changes c .speed signals]) policy suppression

end

/-- The suppression test sets suppression while SPEED is missing or high, whatever it was (R112). -/
theorem suppressionAfter_set {state : SignalState} {speed : Int} {limit : Nat} {was : Bool}
    (high : state = .none ∨ state = .lost ∨ (limit : Int) ≤ speed) : suppressionAfter state speed limit was = true := by
  unfold suppressionAfter
  rcases high with none | lost | fast
  · rw [none]
  · rw [lost]
  · cases state <;> simp [fast]

theorem suppressionTest_cautious (s : State) : SuppressionCautious s.suppressionTest := fun high => suppressionAfter_set high

theorem handSpeed_cautious (s : State) : SuppressionCautious s.handSpeed :=
  (suppressionTest_cautious s).of_changes (speedTest_changes _)

/-! ### The vehicle's signals -/

section
variable {s : State} (h : SuppressionCautious s)
include h

theorem evalRev_cautious (fall : RevContribution) : SuppressionCautious (s.evalRev fall) := h.of_changes (evalRev_changes s fall)

theorem handStateChange_cautious (i : SignalId) : SuppressionCautious (s.handStateChange i) := by
  cases i with
  | reverse => exact h
  | steerAngle =>
    unfold State.handStateChange
    dsimp only
    split
    · exact h.of_changes (steerLost_changes s)
    · exact h.of_changes (steerLost_changes s)
    · exact h
    · exact h
  | speed => exact handSpeed_cautious s
  | distOuterL | distInnerL | distInnerR | distOuterR => exact h.of_changes (parkEvent_changes s)

theorem takeReverseSource_cautious (x : ReverseSource) (n : Nat) : SuppressionCautious (s.takeReverseSource x n) :=
  evalRev_cautious (h.of_changes (source_changes s x n)) _

end

/-- An update of SPEED that is handed on makes suppression cautious; without one it is enough that it was. -/
theorem handUpdates_cautious {s : State} {updated : List SignalId} (h : SuppressionCautious s ∨ updated.contains .speed = true)
    (mask : BitVec 7) : SuppressionCautious (s.handUpdates updated mask) := by
  have steered : Changes [.guide] s
      (if updated.contains .steerAngle then s.steerUpdated (decide (mask &&& signalBit .steerAngle ≠ 0)) else s) :=
    .ite (steerUpdated_changes s _) (.refl _ _)
  unfold State.handUpdates
  dsimp only
  generalize (if updated.contains .steerAngle then s.steerUpdated (decide (mask &&& signalBit .steerAngle ≠ 0)) else s) = a at steered ⊢
  have sped : SuppressionCautious (if updated.contains .speed then a.handSpeed else a) := by
    split
    · exact handSpeed_cautious a
    · rename_i other
      exact (h.resolve_right other).of_changes steered
  split
  · exact sped.of_changes (parkEvent_changes _)
  · exact sped

/-- SPEED changes in a frame only where it is updated (R27, R34). -/
theorem applyRules_speed (s : State) (extended : Bool) (identifier : Nat) (data : List Byte) :
    let a := s.applyRules extended identifier data
    a.state.signal .speed = s.signal .speed ∨ a.updated.contains .speed = true := by
  refine foldl_keeps (P := fun a => State.signal (Applied.state a) .speed = s.signal .speed ∨ (Applied.updated a).contains .speed = true)
    (fun a n kept => ?_) (List.finRange 16) (.inl rfl)
  unfold Applied.offer
  dsimp only
  split
  · split
    · exact kept
    · rename_i v _
      dsimp only
      rw [putSignal_signal]
      by_cases target : (a.state.rule n).target = .speed
      · exact .inr (by simp [target])
      · rw [if_neg target]
        exact kept.imp id fun listed => by simpa using .inl (by simpa using listed)
  · exact kept

theorem receive_cautious {s : State} (h : SuppressionCautious s) (x : Reception) : SuppressionCautious (s.receive x) := by
  cases x with
  | faulty => exact h
  | remote => exact h
  | data extended identifier dlc bytes =>
    unfold State.receive
    dsimp only
    have counted : SuppressionCautious { s with recv := { s.recv with goodFrames := satInc s.recv.goodFrames } } := h
    generalize ({ s with recv := { s.recv with goodFrames := satInc s.recv.goodFrames } } : State) = t at counted ⊢
    split
    · refine handUpdates_cautious ((applyRules_speed t extended identifier bytes).imp (fun same => ?_) id) _
      have applied := counted.of_speed (applyRules_changes t extended identifier bytes) (by rw [same]) (by rw [same])
      exact evalRev_cautious ((applied.of_changes (reportSignals_changes _ _)).of_changes (latchTest_changes _)) _
    · exact counted

/-- A signal replaced and handed on: of SPEED the test is made, of another signal SPEED stays (R36 to R38). -/
theorem replaced_cautious {ps : List Piece} {s t : State} (h : SuppressionCautious s) {i : SignalId} {x : Signal}
    (c : Changes ps (s.putSignal i x) t) (signals : ps.contains .signals = false := by decide)
    (policy : ps.contains .policy = false := by decide) (suppression : ps.contains .suppression = false := by decide) :
    SuppressionCautious (t.handStateChange i) := by
  by_cases speed : i = .speed
  · subst speed
    exact handSpeed_cautious t
  · refine handStateChange_cautious ?_ i
    have same : (s.putSignal i x).signal .speed = s.signal .speed := by rw [putSignal_signal, if_neg speed]
    have put : SuppressionCautious (s.putSignal i x) := h.of_speed (putSignal_changes s i x) (by rw [same]) (by rw [same])
    exact put.of_changes c signals policy suppression

theorem signalHeld_cautious {s : State} (h : SuppressionCautious s) (i : SignalId) : SuppressionCautious (s.signalHeld i) := by
  unfold State.signalHeld
  dsimp only
  split
  · exact replaced_cautious h (((reportSignals_changes _ (signalBit i)).mono (qs := reversePieces ++ [.lostLatch])).trans
      ((evalRev_changes _ .bus).mono))
  · exact h

theorem signalLost_cautious {s : State} (h : SuppressionCautious s) (i : SignalId) : SuppressionCautious (s.signalLost i) := by
  unfold State.signalLost
  dsimp only
  split
  · generalize ({ s.signal i with state := .lost, value := safeValue i } : Signal) = x
    have latched := (Changes.ite (c := i = .reverse) ((setLatch_changes (s.putSignal i x) (decide ((s.signal i).value = 1))).mono) (.refl _ _)).trans
      ((reportSignals_changes _ (signalBit i)).mono (qs := reversePieces ++ [.lostLatch]))
    exact replaced_cautious h ((latched.trans ((latchTest_changes _).mono)).trans ((evalRev_changes _ .bus).mono))
  · exact h

/-! ### Signals made NONE (R39, R40) -/

/-- A bit that a mask holds, it holds with more bits set. -/
theorem maskHits_or {m x b : BitVec 7} : (m ||| x) &&& b ≠ 0 ↔ m &&& b ≠ 0 ∨ x &&& b ≠ 0 := by
  have split : (m ||| x) &&& b = (m &&& b) ||| (x &&& b) := by
    ext i
    simp [Bool.and_or_distrib_right]
  rw [split, ← not_and_or, ne_eq, not_iff_not]
  exact BitVec.or_eq_zero_iff

/-- A signal that is made NONE and was not is in the mask of state changes (R37). -/
theorem noneMask_hits {s : State} {i : SignalId} (some : (s.signal i).state ≠ .none) : ∀ {is : List SignalId} {m : BitVec 7},
    m &&& signalBit i ≠ 0 ∨ i ∈ is → is.foldl (fun m i => m ||| s.noneBit i) m &&& signalBit i ≠ 0
  | [], _, h => h.resolve_right (List.not_mem_nil)
  | j :: is, m, h => by
    refine noneMask_hits (is := is) some ?_
    rcases h with set | listed
    · exact .inl (maskHits_or.2 (.inl set))
    · rcases List.mem_cons.1 listed with rfl | later
      · refine .inl (maskHits_or.2 (.inr ?_))
        unfold State.noneBit
        rw [if_neg some]
        cases i <;> decide
      · exact .inr later

theorem handed_cautious {is : List SignalId} {s : State} (h : SuppressionCautious s ∨ .speed ∈ is) :
    SuppressionCautious (is.foldl State.handStateChange s) := by
  induction is generalizing s with
  | nil => exact h.resolve_right (List.not_mem_nil)
  | cons i is ih =>
    refine ih ?_
    rcases h with cautious | listed
    · exact .inl (handStateChange_cautious cautious i)
    · rcases List.mem_cons.1 listed with rfl | later
      · exact .inl (handSpeed_cautious s)
      · exact .inr later

theorem clearSignals_cautious {s : State} (h : SuppressionCautious s) (is : List SignalId) : SuppressionCautious (s.clearSignals is) := by
  have cleared : Changes [.signals] s (is.foldl (fun u i => u.putSignal i ((u.signal i).toNone i)) s) :=
    .foldl (fun t i => putSignal_changes t i _) is s
  have speed := toNone_foldl is s .speed
  unfold State.clearSignals
  dsimp only
  generalize is.foldl (fun u i => u.putSignal i ((u.signal i).toNone i)) s = t at cleared speed ⊢
  refine handed_cautious (or_iff_not_imp_right.2 fun unlisted => ?_)
  refine evalRev_cautious (SuppressionCautious.of_changes ?_ (reportSignals_changes t _)) _
  by_cases made : SignalId.speed ∈ is
  · have already : (s.signal .speed).state = .none := by
      by_contra other
      refine unlisted (List.mem_filter.2 ⟨by decide, decide_eq_true ?_⟩)
      exact noneMask_hits other (.inr made)
    exact .of_suppressed ((cleared.at .suppression).trans (h (.inl already)))
  · rw [if_neg made] at speed
    exact h.of_speed cleared (by rw [speed]) (by rw [speed])

theorem stored_cautious {s : State} (h : SuppressionCautious s) (n : Fin 16) (r : Rule) : SuppressionCautious (stored s n r) := by
  have rest := stored_rest s n r
  have signal := stored_signal s n r .speed
  refine h.of_same ?_ ?_ (by rw [rest]) (by rw [rest])
  · rw [signal]
    split <;> rfl
  · rw [signal]
    split <;> rfl

theorem storeRule_cautious {s : State} (h : SuppressionCautious s) (n : Fin 16) (r : Rule) : SuppressionCautious (s.storeRule n r) :=
  clearSignals_cautious (stored_cautious h n r) _

theorem emptyRule_cautious {s : State} (h : SuppressionCautious s) (n : Fin 16) : SuppressionCautious (s.emptyRule n) :=
  clearSignals_cautious (h.of_changes (putRule_changes s n .cleared)) _

/-! ### The view policy and start-up -/

theorem setPolicy_cautious {s : State} (h : SuppressionCautious s) (f : SetViewPolicy) : SuppressionCautious (s.setPolicy f) := by
  unfold State.setPolicy
  dsimp only
  split
  · rename_i same
    have stored : SuppressionCautious { s with comp := { s.comp with policy := SetViewPolicy.store f s.comp.policy } } :=
      h.of_same rfl rfl same rfl
    generalize ({ s with comp := { s.comp with policy := SetViewPolicy.store f s.comp.policy } } : State) = t at stored ⊢
    have lingered : SuppressionCautious (if f.lingerTime.isSome = true then outputs.foldl State.lingerDue t else t) := by
      split
      · exact stored.of_changes (Changes.foldl lingerDue_changes outputs t)
      · exact stored
    generalize (if f.lingerTime.isSome = true then outputs.foldl State.lingerDue t else t) = u at lingered ⊢
    split
    · exact lingered
    · exact (evalRev_cautious (lingered.of_changes (latchTest_changes u)) .bus).of_changes (speedTest_changes _)
  · exact suppressionTest_cautious _

theorem loadReceiver_cautious {s : State} (h : SuppressionCautious s) : SuppressionCautious s.loadReceiver := by
  unfold State.loadReceiver
  split
  · exact evalRev_cautious h _
  · rename_i b _
    dsimp only
    refine takeReverseSource_cautious (foldl_keeps (P := SuppressionCautious) (fun u n hu => ?_) _ ?_) _ _
    · rw [loadRule_eq]
      exact stored_cautious hu n _
    · exact h

/-- The load of sector 3 sets suppression, whatever SPEED is (R117). -/
theorem loadOutputs_cautious (s : State) : SuppressionCautious s.loadOutputs := by
  have on : (loadedCompositor (s.validBytes 3)).suppression = true := by cases s.validBytes 3 <;> rfl
  rw [loadOutputs_parts]
  refine evalRev_cautious (SuppressionCautious.of_changes (.of_suppressed ?_) (latchTest_changes _)) _
  exact ((recomputeDemand_changes _).at .suppression).trans on

theorem doStep_cautious {s : State} (h : SuppressionCautious s) (x : StartUpStep) : SuppressionCautious (s.doStep x) := by
  cases x with
  | examine => exact h
  | receiver => exact loadReceiver_cautious h
  | outputs => exact loadOutputs_cautious s
  | camera =>
    show SuppressionCautious s.loadCamera
    unfold State.loadCamera
    split
    · exact SuppressionCautious.of_changes (by exact h) (followCamera_changes _)
    · exact SuppressionCautious.of_changes (by exact h) (followCamera_changes _)
  | mixer =>
    show SuppressionCautious s.loadMixer
    unfold State.loadMixer
    split
    · exact h
    · exact h

theorem enterRunning_cautious {s : State} (h : SuppressionCautious s) : SuppressionCautious s.enterRunning := by
  by_cases running : s.isRunning = true
  · unfold State.enterRunning
    rwa [if_pos running]
  · rw [enterRunning_eq running]
    have loaded : SuppressionCautious s.finishStartUp :=
      foldl_keeps (P := SuppressionCautious) (fun _ x hu => doStep_cautious hu x) s.steps (a := { s with steps := [] }) h
    have now : SuppressionCautious (entered s.finishStartUp) := loaded
    generalize entered s.finishStartUp = t at now ⊢
    split
    · exact (now.of_changes (viewRise_changes t)).of_changes (chimeRise_changes _)
    · exact now

end Sys2Proof.Machine
end

section
/-! PROOFS. Every step keeps demand, camera and outputs in agreement, and suppression on while SPEED is missing or high (R95, R98,
R100, R106, R112, R120). -/

namespace Sys2Proof.Machine

set_option Elab.async false

open Sys2Proof

/-! ### Frames that end -/

section
variable {P : State → Prop} (quiet : ∀ {s t : State}, Changes [.requests] s t → P s → P t) (starts : ∀ s cause, P (State.startUp s cause))
include quiet starts

/-- A good frame enters the request list or starts the part up (R173, R181). -/
theorem takeGood_keeps (tag code : Byte) (body : List Byte) {s : State} (h : P s) : P (s.takeGood tag code body) := by
  have enlisted : ∀ r, P (s.enlist tag code r) := fun r => quiet (enlist_changes s tag code r) h
  unfold State.takeGood
  split
  · split
    · exact enlisted _
    · split
      · exact enlisted _
      · exact starts s _
  · exact enlisted _

theorem takeFrame_keeps (frame : List Byte) {s : State} (h : P s) : P (s.takeFrame frame) := by
  unfold State.takeFrame
  split
  · exact h
  · exact quiet (enlist_changes s _ _ _) h
  · exact takeGood_keeps quiet starts _ _ _ h

theorem transactionEnd_keeps {r : List Byte} {s t : State} (h : P s) (e : execTransactionEnd r s = .next t) : P t := by
  unfold execTransactionEnd at e
  split at e <;> cases e
  · have ended := quiet (setTransaction_changes s none) h
    split
    · exact ended
    · exact takeFrame_keeps quiet starts _ ended
  · exact takeFrame_keeps quiet starts _ h

end

/-! ### Demand, camera and outputs -/

theorem viewsLawful_quiet {s t : State} (c : Changes [.requests] s t) : ViewsKept s t := .of_changes c

section
variable {s t : State} (h : ViewsLawful s)
include h

theorem requestWith_views {α : Type} {code : Byte} {block : α → State → State × Reply} (kept : ∀ f t, ViewsKept t (block f t).1)
    (b : Body α) : ViewsLawful (requestWith code b block s) :=
  requestWith_keeps (fun c ht => viewsLawful_quiet c ht) (fun f t ht => kept f t ht) b h

theorem execSetRule_views (b : Body SetRule) (e : execSetRule b s = .next t) : ViewsLawful t := by
  cases e
  refine requestWith_views h (fun f t => ?_) b
  split
  · exact .refl t
  · split
    · exact .refl t
    · exact storeRule_views _ _ _

theorem execClearRule_views (b : Body Nat) (e : execClearRule b s = .next t) : ViewsLawful t := by
  cases e
  refine requestWith_views h (fun k t => ?_) b
  split
  · exact .refl t
  · exact emptyRule_views _ _

theorem execSetReverseSource_views (b : Body SetReverseSource) (e : execSetReverseSource b s = .next t) : ViewsLawful t := by
  cases e
  refine requestWith_views h (fun f t => ?_) b
  split
  · exact .refl t
  · exact takeReverseSource_views _ _ _

theorem execCloseStream_views (b : Body Nat) (e : execCloseStream b s = .next t) : ViewsLawful t := by
  cases e
  refine requestWith_views h (fun k t => ?_) b
  unfold withStream
  split
  · exact .refl t
  · dsimp only
    split
    · exact .refl t
    · exact closeStream_views _ _

theorem execDeleteLayer_views (b : Body Nat) (e : execDeleteLayer b s = .next t) : ViewsLawful t := by
  cases e
  refine requestWith_views h (fun k t => ?_) b
  unfold withLayer
  split
  · exact .refl t
  · dsimp only
    split
    · exact .refl t
    · exact deleteLayer_views _ _

theorem execSetOutput_views (b : Body SetOutput) (e : execSetOutput b s = .next t) : ViewsLawful t := by
  cases e
  refine requestWith_views h (fun f t => ?_) b
  unfold withOutput
  split
  · exact .refl t
  · dsimp only
    split
    · exact .refl t
    · split
      · exact .refl t
      · split
        · exact .refl t
        · exact setOutput_views _ _ _ _

theorem execShowCamera_views (b : Body Members) (e : execShowCamera b s = .next t) : ViewsLawful t := by
  cases e
  refine requestWith_views h (fun f t => ?_) b
  split
  · exact .refl t
  · split
    · exact .refl t
    · exact .foldl (fun u o => showOn_views u o f.set) _ _

theorem execReleaseView_views (b : Body Members) (e : execReleaseView b s = .next t) : ViewsLawful t := by
  cases e
  refine requestWith_views h (fun f t => ?_) b
  split
  · exact .refl t
  · exact .foldl (fun u o => releaseOn_views u o f.set) _ _

theorem execSetViewPolicy_views (b : Body SetViewPolicy) (e : execSetViewPolicy b s = .next t) : ViewsLawful t := by
  cases e
  refine requestWith_views h (fun f t => ?_) b
  split
  · exact .refl t
  · exact setPolicy_views _ _

theorem execSetCamera_views (b : Body SetCamera) (e : execSetCamera b s = .next t) : ViewsLawful t := by
  cases e
  refine requestWith_views h (fun f t => ?_) b
  split
  · exact .refl t
  · split
    · exact .refl t
    · exact setCamera_views t f

theorem execSetGeometry_views (b : Body SetGeometry) (e : execSetGeometry b s = .next t) : ViewsLawful t := by
  cases e
  refine requestWith_views h (fun f t => ?_) b
  split
  · exact setGeometry_views _ _
  · exact .refl t

theorem execSetGuideStyle_views (b : Body SetGuideStyle) (e : execSetGuideStyle b s = .next t) : ViewsLawful t := by
  cases e
  refine requestWith_views h (fun f t => ?_) b
  split
  · exact .refl t
  · exact setStyle_views _ _

end

/-- Every command keeps demand, camera and records in agreement: those whose footprint leaves them out, by their frames; the others
by what they make of them. -/
theorem exec_views (c : Instr) {s t : State} (h : ViewsLawful s) (e : exec c s = .next t) : ViewsLawful t := by
  have quiet : ([Piece.owners, .outRun, .demand, .camera, .camSettings, .guide].all fun p => !(footprint c).contains p) = true →
      ViewsLawful t := by
    obtain ⟨u, eu, frame⟩ := exec_changes c s
    obtain rfl : u = t := Host.Outcome.next.inj (eu.symm.trans e)
    exact fun out => (show ViewsKept s u from .of_changes frame out) h
  have requests : ∀ {s t : State}, Changes [.requests] s t → ViewsLawful s → ViewsLawful t := fun c => viewsLawful_quiet c
  cases c with
  | powerOn => cases e; exact startUp_viewsLawful s _
  | resetLine => cases e; exact startUp_viewsLawful s _
  | enterRunning => cases e; exact enterRunning_views s h
  | resetPart b => cases e; exact frameEnds_keeps requests (fun t ht => takeGood_keeps requests startUp_viewsLawful _ _ _ ht) h
  | requestTaken f => cases e; exact frameEnds_keeps requests (fun t ht => takeFrame_keeps requests startUp_viewsLawful _ ht) h
  | transactionEnd r => exact transactionEnd_keeps requests startUp_viewsLawful h e
  | setRule b => exact execSetRule_views h b e
  | clearRule b => exact execClearRule_views h b e
  | setReverseSource b => exact execSetReverseSource_views h b e
  | closeStream b => exact execCloseStream_views h b e
  | deleteLayer b => exact execDeleteLayer_views h b e
  | setOutput b => exact execSetOutput_views h b e
  | showCamera b => exact execShowCamera_views h b e
  | releaseView b => exact execReleaseView_views h b e
  | setViewPolicy b => exact execSetViewPolicy_views h b e
  | setCamera b => exact execSetCamera_views h b e
  | setGeometry b => exact execSetGeometry_views h b e
  | setGuideStyle b => exact execSetGuideStyle_views h b e
  | selfTestEnd b => cases e; exact endSelfTest_views s b h
  | busFrame r => cases e; exact receive_views s r h
  | signalHeld i => cases e; exact signalHeld_views s i h
  | signalLost i => cases e; exact signalLost_views s i h
  | debounceExpiry => cases e; exact debounced_views s h
  | lingerTimerExpiry o => cases e; exact lingerDue_views s o h
  | refreshEvent o => cases e; exact refresh_views s o h
  | drawingEnd => cases e; exact endDrawing_views s h
  | outputSamplePeriod => cases e; exact ((handDue_views s .chime).trans (.of_changes (samplePeriod_rest _))) h
  | cameraFrameStart => cases e; exact startCameraFrame_views s h
  | cameraFrameEnd => cases e; exact endCameraFrame_views s h
  | wakeTimeout => cases e; exact wakeExpired_views s h
  | frameTimeout => cases e; exact frameExpired_views s h
  | _ => exact quiet rfl

theorem idle_views (s : State) : ViewsKept s s.idle := by
  unfold State.idle
  split
  · exact tick_views s
  · have ticked : ViewsKept s { s.tick with free := s.free + 1 } :=
      (tick_views s).trans (.of_stays ⟨rfl, rfl, rfl, rfl, rfl⟩ fun _ => ⟨rfl, rfl, rfl, rfl, rfl⟩)
    generalize ({ s.tick with free := s.free + 1 } : State) = t at ticked ⊢
    refine .ite (ticked.trans ?_) ticked
    unfold State.endStep
    split
    · exact (ViewsKept.of_changes (dropSteps_changes t t.steps.tail)).trans (doStep_views _ _)
    · exact .refl t

/-! ### Suppression -/

theorem startUp_cautious (s : State) (cause : ResetCause) : SuppressionCautious (s.startUp cause) := .of_suppressed rfl

section
variable {s t : State} (h : SuppressionCautious s)
include h

theorem execSetRule_cautious (b : Body SetRule) (e : execSetRule b s = .next t) : SuppressionCautious t := by
  cases e
  refine requestWith_keeps (fun c hu => hu.of_changes c) (fun f u hu => ?_) b h
  split
  · exact hu
  · split
    · exact hu
    · exact storeRule_cautious hu _ _

theorem execClearRule_cautious (b : Body Nat) (e : execClearRule b s = .next t) : SuppressionCautious t := by
  cases e
  refine requestWith_keeps (fun c hu => hu.of_changes c) (fun k u hu => ?_) b h
  split
  · exact hu
  · exact emptyRule_cautious hu _

theorem execSetViewPolicy_cautious (b : Body SetViewPolicy) (e : execSetViewPolicy b s = .next t) : SuppressionCautious t := by
  cases e
  refine requestWith_keeps (fun c hu => hu.of_changes c) (fun f u hu => ?_) b h
  split
  · exact hu
  · exact setPolicy_cautious hu _

end

/-- Every command keeps suppression cautious: those whose footprint leaves SPEED, the policy and suppression out, by their frames;
the others because they test it where SPEED or the limit changes. -/
theorem exec_cautious (c : Instr) {s t : State} (h : SuppressionCautious s) (e : exec c s = .next t) : SuppressionCautious t := by
  have quiet : (footprint c).contains .signals = false → (footprint c).contains .policy = false →
      (footprint c).contains .suppression = false → SuppressionCautious t := by
    obtain ⟨u, eu, frame⟩ := exec_changes c s
    obtain rfl : u = t := Host.Outcome.next.inj (eu.symm.trans e)
    exact fun signals policy suppression => h.of_changes frame signals policy suppression
  have requests : ∀ {s t : State}, Changes [.requests] s t → SuppressionCautious s → SuppressionCautious t := fun c hs => hs.of_changes c
  cases c with
  | powerOn => cases e; exact startUp_cautious s _
  | resetLine => cases e; exact startUp_cautious s _
  | enterRunning => cases e; exact enterRunning_cautious h
  | resetPart b => cases e; exact frameEnds_keeps requests (fun t ht => takeGood_keeps requests startUp_cautious _ _ _ ht) h
  | requestTaken f => cases e; exact frameEnds_keeps requests (fun t ht => takeFrame_keeps requests startUp_cautious _ ht) h
  | transactionEnd r => exact transactionEnd_keeps requests startUp_cautious h e
  | setRule b => exact execSetRule_cautious h b e
  | clearRule b => exact execClearRule_cautious h b e
  | setViewPolicy b => exact execSetViewPolicy_cautious h b e
  | busFrame r => cases e; exact receive_cautious h r
  | signalHeld i => cases e; exact signalHeld_cautious h i
  | signalLost i => cases e; exact signalLost_cautious h i
  | _ => exact quiet rfl rfl rfl

/-- Time that passes changes no signal's state or value (log 1). -/
theorem tick_cautious {s : State} (h : SuppressionCautious s) : SuppressionCautious s.tick :=
  h.of_same (by rw [tick_signal]; rfl) (by rw [tick_signal]; rfl) rfl rfl

theorem idle_cautious {s : State} (h : SuppressionCautious s) : SuppressionCautious s.idle := by
  have ticked := tick_cautious h
  unfold State.idle
  split
  · exact ticked
  · dsimp only
    split
    · unfold State.endStep
      split
      · exact doStep_cautious (by exact ticked) _
      · exact ticked
    · exact ticked

/-- Settles O59: the camera follows demand and demand the views, record by record, and suppression its test, over idle time and
every command. -/
theorem viewsCameraAndSuppressionStayLawful : Obligations.ViewsCameraAndSuppressionStayLawful := by
  rintro s t ⟨camera, records, cautious⟩ e
  have views : ViewsLawful s := ⟨camera, outputsLawful_iff.1 records⟩
  suffices kept : ViewsLawful t ∧ SuppressionCautious t from
    ⟨kept.1.camera, outputsLawful_iff.2 kept.1.records, kept.2⟩
  unfold step at e
  split at e
  · cases e
    exact ⟨idle_views s views, idle_cautious cautious⟩
  · rename_i c rest _
    exact ⟨exec_views c (s := { s with pending := rest }) ⟨views.camera, views.records⟩ e,
      exec_cautious c (s := { s with pending := rest }) cautious e⟩

end Sys2Proof.Machine
end

section
/-! PROOFS. The entry into RUNNING: what is left of the start-up ends, PART_STARTED stands first, and REV_EFF shows CENTRE the camera
(R97, R98, R182, R184). -/

namespace Sys2Proof.Machine

set_option Elab.async false

open Sys2Proof

/-! ### The head of the notice queue (R176) -/

/-- Reports of other kinds and sources leave the entry at the head of the queue where it is and as it is. -/
theorem Tells.head {p : Nat × Nat → Prop} {s t : State} (h : Tells p s t) {x : NoticeEntry} (first : s.link.notices.head? = some x)
    (other : ¬ p (Report.key x.report)) : t.link.notices.head? = some x := by
  obtain ⟨rs, admitted, e⟩ := h.notices
  rw [e]
  refine foldl_keeps_of_mem (P := fun q : List NoticeEntry => q.head? = some x) (fun q r listed kept => ?_) first
  obtain ⟨rest, rfl⟩ := List.head?_eq_some_iff.1 kept
  have apart : Report.key x.report ≠ Report.key r := fun same => other (same ▸ admitted r listed)
  unfold queueReport
  rw [if_neg apart]
  rfl

/-! ### The step under way (R182) -/

section
variable {s : State} (starting : s.part.phase = .starting)
include starting

theorem isRunning_of_starting : s.isRunning = false := by
  unfold State.isRunning
  rw [starting]
  rfl

/-- The steps of a start-up leave the part STARTING. -/
theorem finishStartUp_starting : s.finishStartUp.part.phase = .starting := by
  rw [show s.finishStartUp.part = s.part from (finishStartUp_changes s).at .part]
  exact starting

/-- ENTER_RUNNING with steps to come acts as after them (log 6). -/
theorem enterRunning_finished : s.enterRunning = s.finishStartUp.enterRunning := by
  rw [enterRunning_eq (by rw [isRunning_of_starting starting]; decide),
    enterRunning_eq (by rw [isRunning_of_starting (finishStartUp_starting starting)]; decide),
    finishStartUp_nil s.finishStartUp (finishStartUp_steps s)]

/-- Time that passes in a start-up: the step under way ends in it or not (log 58). -/
theorem idle_starting {x : StartUpStep} {rest : List StartUpStep} (steps : s.steps = x :: rest) :
    let t := { s.tick with free := s.free + 1 }
    s.idle = if Config.startUpStepEnds s.free then { t with steps := rest }.doStep x else t := by
  have underWay : ∀ t : State, t.part = s.part → t.steps = s.steps → t.stepUnderWay = some x := by
    intro t part same
    unfold State.stepUnderWay State.isRunning
    rw [part, starting, same, steps]
    rfl
  have ended : ∀ t : State, t.part = s.part → t.steps = s.steps → t.endStep = { t with steps := rest }.doStep x := by
    intro t part same
    unfold State.endStep
    rw [underWay t part same, same, steps]
    rfl
  intro t
  unfold State.idle
  rw [underWay s rfl rfl]
  dsimp only
  rw [ended t rfl rfl]

/-- With no step left the part enters RUNNING as it stands. -/
theorem enterRunning_ready (done : s.steps = []) : s.enterRunning =
    if (entered s).recv.revEff then (entered s).viewRise.chimeRise else entered s := by
  rw [enterRunning_eq (by rw [isRunning_of_starting starting]; decide), finishStartUp_nil s done]

end

theorem entered_changes (s : State) : Changes [.part, .paceTimer, .notices] s (entered s) := by
  intro p hp
  have same := same_refl s p
  cases p <;> first | exact absurd (by decide) hp | exact same

/-- What the rise at the entry makes of a state that has entered RUNNING: PART_STARTED stays first, and CENTRE shows the camera
(R97, R98, R184). -/
theorem enteredRise_shows (t : State) {x : NoticeEntry} (first : t.link.notices.head? = some x) (started : (Report.key x.report).1 < 4)
    (hidden : (t.out .centre).owner ≠ .camera) : let u := t.viewRise.chimeRise
    u.part = t.part ∧ u.pacer.paceTimer = t.pacer.paceTimer ∧ u.link.notices.head? = some x ∧ (u.out .centre).owner = .camera ∧
    (u.out .centre).reason = .reverse ∧ u.comp.demand = true ∧
    ((t.out .centre).owner = .off → (u.out .centre).enabled = true ∧ (u.out .centre).wasOff = true) := by
  have changes : Changes (.free :: viewPieces) t t.viewRise.chimeRise := (viewRise_changes t).trans ((chimeRise_changes _).mono)
  have unseen : ¬ viewKinds (Report.key x.report) := Nat.not_le.2 started
  have centre : t.viewRise.chimeRise.out .centre = t.viewRise.out .centre := out_of_changes (chimeRise_changes _) _
  obtain ⟨owner, reason⟩ := viewRise_shows t
  refine ⟨changes.at .part, changes.at .paceTimer, ?_, ?_, ?_, ?_, fun off => ?_⟩
  · exact ((viewRise_tells t).trans ((chimeRise_tells _).mono viewKinds_of_background)).head first unseen
  · rw [centre, owner]
  · rw [centre, reason]
  · exact ((chimeRise_changes t.viewRise).at .demand).trans (viewRise_demand hidden)
  · obtain ⟨-, -, enabled, wasOff, -⟩ := viewRise_centre off
    rw [centre]
    exact ⟨enabled, wasOff⟩

/-- Settles O5: the steps that are left end first, then the part enters, and a rise follows where REV_EFF is set. -/
theorem entryIntoRunning : Obligations.EntryIntoRunning := by
  refine ⟨fun s x rest starting steps => ⟨?_, fun waiting => ?_⟩, fun s starting done clear => ?_, fun s starting done set hidden => ?_,
    fun s running => ?_⟩
  · exact congrArg Host.Outcome.next (enterRunning_finished starting)
  · unfold step
    rw [waiting]
    exact congrArg Host.Outcome.next (idle_starting starting steps)
  · refine ⟨entered s, ?_, entered_changes s, rfl, rfl, rfl⟩
    refine congrArg Host.Outcome.next ((enterRunning_ready starting done).trans ?_)
    rw [show (entered s).recv.revEff = false from clear]
    rfl
  · refine ⟨(entered s).viewRise.chimeRise, ?_, ?_, enteredRise_shows (entered s) rfl (show 1 < 4 by decide) hidden⟩
    · refine congrArg Host.Outcome.next ((enterRunning_ready starting done).trans ?_)
      rw [show (entered s).recv.revEff = true from set]
      rfl
    · exact ((entered_changes s).mono).trans (((viewRise_changes _).mono).trans ((chimeRise_changes _).mono))
  · show Host.Outcome.next s.enterRunning = _
    unfold State.enterRunning
    rw [if_pos (by unfold State.isRunning; rw [show s.part.phase = .running from running]; rfl)]

end Sys2Proof.Machine
end

section
/-! SUPPORT. What the Generator makes of what it is handed: recomputes, starts and stops (R144 to R148). -/

namespace Sys2Proof.Machine

set_option Elab.async false

open Sys2Proof

/-- The angle that a drawing samples (R138, R146). -/
theorem steerDelta_eq (s : State) (ratio : Nat) :
    s.steerDelta ratio = if s.steerShown then some (roadAngle ratio (s.signal .steerAngle).value) else none := by
  unfold State.steerDelta State.steerShown roadAngle
  rw [clampInt_eq (by decide)]
  cases (s.signal .steerAngle).state <;> rfl

theorem steerDelta_of_changes {ps : List Piece} {s t : State} (c : Changes ps s t) (ratio : Nat)
    (signals : ps.contains .signals = false := by decide) : t.steerDelta ratio = s.steerDelta ratio := by
  unfold State.steerDelta
  rw [signal_of_changes c .steerAngle signals]

theorem active_iff (g : Guide) : g.active = true ↔ g.valid = true ∧ g.demand = true ∧ g.camStatus = .live := by
  unfold Guide.active
  simp [and_assoc]

/-- A recompute requested in a state, as the Generator's computation stands (R145, R146). -/
theorem requestRecompute_recomputes (s : State) :
    Recomputes s.guide (s.steerDelta s.guide.geometry.ratio) s.requestRecompute.guide := by
  unfold Recomputes
  dsimp only
  rw [← active_iff]
  unfold State.requestRecompute
  refine ⟨fun idle => ?_, fun d active busy => ?_, fun active idle held => ?_, fun active idle free => ?_⟩
  · split
    · rename_i active
      rw [idle.resolve_left fun not => not active]
    · rfl
  · rw [if_pos active]
    split
    · rename_i idle
      rcases busy with drawing | ⟨b, waiting⟩
      · exact nomatch drawing.symm.trans idle
      · exact nomatch waiting.symm.trans idle
    · rename_i waits
      rcases busy with drawing | ⟨b, waiting⟩
      · exact nomatch drawing.symm.trans waits
      · exact nomatch waiting.symm.trans waits
    · rfl
    · rfl
  · rw [if_pos active, idle]
    dsimp only
    unfold State.beginComputation
    rw [if_neg (by rw [(backHeld_iff _).1 held]; exact nofun)]
  · rw [if_pos active, idle]
    dsimp only
    unfold State.beginComputation State.beginDrawing
    rw [if_pos (by rw [← Bool.not_eq_false, ← backHeld_iff]; exact free), steerDelta_eq]

/-- What the Generator is handed stops it, starts it or leaves it as it is (R145, R148). -/
theorem handGuide_follows (s : State) (f : Guide → Guide) :
    GuideFollows s.guide (f s.guide) (s.steerDelta (f s.guide).geometry.ratio) (s.handGuide f).guide := by
  unfold State.handGuide
  dsimp only
  refine ⟨fun was stops => ?_, fun was starts => ?_, fun same => ?_⟩
  · rw [was, stops]
    rfl
  · rw [was, starts]
    exact requestRecompute_recomputes { s with guide := f s.guide }
  · rw [same]
    cases (f s.guide).active <;> rfl

end Sys2Proof.Machine
end

section
/-! PROOFS. SHOW CAMERA, RELEASE VIEW and the end of a linger timer (R100 to R102, R145). -/

namespace Sys2Proof.Machine

set_option Elab.async false

open Sys2Proof

/-! ### Demand where an output is in view (R106, R145) -/

theorem guide_of_changes {ps : List Piece} {s t : State} (c : Changes ps s t) (geometry : ps.contains .geometry = false := by decide)
    (guide : ps.contains .guide = false := by decide) : t.guide = s.guide := by
  obtain ⟨settings, valid, style⟩ := c.at .geometry geometry
  obtain ⟨comp, recompute, angle, front, content, width, height, status, demand, holds, shown⟩ := c.at .guide guide
  revert settings valid style comp recompute angle front content width height status demand holds shown
  generalize t.guide = x
  generalize s.guide = y
  cases x
  cases y
  intros
  simp_all

/-- Demand is present, and an output is in a camera view. -/
structure InDemand (s : State) : Prop where
  demand : s.comp.demand = true
  viewed : ∃ o, (s.out o).inView = true

theorem viewed_iff (s : State) : (outputs.any fun o => (s.out o).inView) = true ↔ ∃ o, (s.out o).inView = true := by
  rw [List.any_eq_true]
  exact ⟨fun ⟨o, _, view⟩ => ⟨o, view⟩, fun ⟨o, view⟩ => ⟨o, mem_outputs o, view⟩⟩

/-- With demand present and an output in view, demand recomputed changes nothing. -/
theorem recomputeDemand_still {s : State} (h : InDemand s) : s.recomputeDemand = s := by
  unfold State.recomputeDemand
  dsimp only
  rw [if_pos (((viewed_iff s).2 h.viewed).trans h.demand.symm)]

/-- Demand that appears over a live camera is handed to the Generator, and to it alone (R106, R144). -/
theorem recomputeDemand_appears {s : State} (absent : s.comp.demand = false) (live : s.cam.status = .live)
    (viewed : ∃ o, (s.out o).inView = true) : InDemand s.recomputeDemand ∧
    GuideFollows s.guide { s.guide with demand := true } (s.steerDelta s.guide.geometry.ratio) s.recomputeDemand.guide := by
  have any := (viewed_iff s).2 viewed
  refine ⟨⟨(recomputeDemand_demand s).trans any, ?_⟩, ?_⟩
  · obtain ⟨o, view⟩ := viewed
    exact ⟨o, by rwa [out_of_changes (recomputeDemand_changes s)]⟩
  · have still : State.followCamera { s with comp := { s.comp with demand := true } } = { s with comp := { s.comp with demand := true } } := by
      have on : ¬ s.cam.status = .off := by rw [live]; decide
      unfold State.followCamera
      exact (if_pos rfl).trans (if_neg on)
    unfold State.recomputeDemand
    rw [any, absent, if_neg (by decide), still]
    exact handGuide_follows { s with comp := { s.comp with demand := true } } fun g => { g with demand := true }

section
variable {s : State} {o : Output} {r : OutputRec} (why : OwnerReason)

/-- The state in which an owner change comes to demand. -/
theorem setOwner_parts (s : State) (o : Output) (r : OutputRec) : ∃ u, Changes [.owners, .outSettings, .outRun, .notices, .layers] s u ∧
    (∀ q, u.out q = if o = q then r else s.out q) ∧ s.setOwner o r why = u.recomputeDemand := by
  refine ⟨State.settleFlips (State.report (s.putOut o r) (.outputOwner o ((s.putOut o r).out o).owner why)), ?_, fun q => ?_, rfl⟩
  · exact ((putOut_changes s o r).mono).trans (((report_changes _ _).mono).trans ((settleFlips_changes _).mono))
  · rw [out_of_changes (settleFlips_changes _), report_out, putOut_out]

theorem setOwner_still (h : InDemand s) (view : r.inView = true) :
    InDemand (s.setOwner o r why) ∧ (s.setOwner o r why).guide = s.guide := by
  obtain ⟨u, changes, out, done⟩ := setOwner_parts why s o r
  have still : InDemand u := ⟨(changes.at .demand).trans h.demand, o, by rw [out, if_pos rfl]; exact view⟩
  rw [done, recomputeDemand_still still]
  exact ⟨still, guide_of_changes changes⟩

theorem setOwner_inDemand (view : r.inView = true) : InDemand (s.setOwner o r why) := by
  obtain ⟨u, -, out, done⟩ := setOwner_parts why s o r
  have viewed : ∃ q, (u.out q).inView = true := ⟨o, by rw [out, if_pos rfl]; exact view⟩
  rw [done]
  refine ⟨(recomputeDemand_demand u).trans ((viewed_iff u).2 viewed), ?_⟩
  obtain ⟨q, shown⟩ := viewed
  exact ⟨q, by rwa [out_of_changes (recomputeDemand_changes u)]⟩

theorem setOwner_appears (absent : s.comp.demand = false) (live : s.cam.status = .live) (view : r.inView = true) :
    GuideFollows s.guide { s.guide with demand := true } (s.steerDelta s.guide.geometry.ratio) (s.setOwner o r why).guide := by
  obtain ⟨u, changes, out, done⟩ := setOwner_parts why s o r
  obtain ⟨status, -⟩ := changes.at .camera
  have viewed : ∃ q, (u.out q).inView = true := ⟨o, by rw [out, if_pos rfl]; exact view⟩
  obtain ⟨-, follows⟩ := recomputeDemand_appears ((changes.at .demand).trans absent) (status.trans live) viewed
  rwa [done, ← guide_of_changes changes, ← steerDelta_of_changes changes]

end

/-! ### SHOW CAMERA, member by member (R101) -/

section
variable (set : OutputSet) (s : State) (o : Output)

/-- A member in NORMAL. -/
def Taken (set : OutputSet) (s : State) (o : Output) : Prop := set.has o = true ∧ (s.out o).owner = .normal

theorem showOn_taken (taken : Taken set s o) :
    s.showOn set o = s.setOwner o { s.out o with owner := .camera, reason := .request } .request := if_pos taken

theorem showOn_left (left : ¬ Taken set s o) : s.showOn set o = s := if_neg left

theorem showOn_out_ne {q : Output} (other : o ≠ q) : (s.showOn set o).out q = s.out q := by
  unfold State.showOn
  dsimp only
  split
  · rw [setOwner_out, if_neg other]
  · rfl

theorem showOn_tells : Tells (ownerOf o) s (s.showOn set o) := .ite (setOwner_tells s o _ _) (.refl s)

variable {s o}

theorem showOn_still (h : InDemand s) : InDemand (s.showOn set o) ∧ (s.showOn set o).guide = s.guide := by
  by_cases taken : Taken set s o
  · rw [showOn_taken set s o taken]
    exact setOwner_still .request h rfl
  · rw [showOn_left set s o taken]
    exact ⟨h, rfl⟩

theorem showAll_still (xs : List Output) {s : State} (h : InDemand s) :
    InDemand (xs.foldl (State.showOn set) s) ∧ (xs.foldl (State.showOn set) s).guide = s.guide := by
  induction xs generalizing s with
  | nil => exact ⟨h, rfl⟩
  | cons o xs ih =>
    obtain ⟨still, guide⟩ := showOn_still (o := o) set h
    obtain ⟨all, guide'⟩ := ih still
    exact ⟨all, guide'.trans guide⟩

/-- The first member taken brings demand, and with the camera live the Generator follows it; the later ones change neither. -/
theorem showAll_demand {s : State} : ∀ {xs : List Output}, (∃ o ∈ xs, Taken set s o) →
    let t := xs.foldl (State.showOn set) s
    InDemand t ∧ (s.comp.demand = false → s.cam.status = .live →
      GuideFollows s.guide { s.guide with demand := true } (s.steerDelta s.guide.geometry.ratio) t.guide)
  | [], h => by
    obtain ⟨o, listed, -⟩ := h
    exact nomatch listed
  | o :: xs, h => by
    by_cases taken : Taken set s o
    · rw [List.foldl_cons, showOn_taken set s o taken]
      obtain ⟨still, guide⟩ := showAll_still set xs
        (setOwner_inDemand (s := s) (o := o) (r := { s.out o with owner := .camera, reason := .request }) .request rfl)
      refine ⟨still, fun absent live => ?_⟩
      rw [guide]
      exact setOwner_appears .request absent live rfl
    · rw [List.foldl_cons, showOn_left set s o taken]
      refine showAll_demand (xs := xs) ?_
      obtain ⟨q, listed, other⟩ := h
      rcases List.mem_cons.1 listed with rfl | later
      · exact absurd other taken
      · exact ⟨q, later, other⟩

/-- What SHOW CAMERA makes of each output, all members at once. -/
theorem showAll_at (s : State) (o : Output) : let t := outputs.foldl (State.showOn set) s
    (Taken set s o → t.out o = { s.out o with owner := .camera, reason := .request } ∧ OwnerNoticed t o .request) ∧
    (¬ Taken set s o → t.out o = s.out o) := by
  obtain ⟨u, -, same, out, noticed⟩ := outputs_turn (fun s _ _ => showOn_out_ne set s _) (showOn_changes set) (showOn_tells set) s o
  dsimp only
  have taken_iff : Taken set u o ↔ Taken set s o := by
    unfold Taken
    rw [same]
  rw [out, ← taken_iff, ← same]
  refine ⟨fun taken => ⟨?_, noticed _ ?_⟩, fun left => by rw [showOn_left set u o left]⟩
  · rw [showOn_taken set u o taken, setOwner_out, if_pos rfl]
  · rw [showOn_taken set u o taken]
    exact setOwner_noticed u o .request _

end

/-! ### RELEASE VIEW, member by member (R102) -/

section
variable (set : OutputSet) (s : State) (o : Output)

/-- A release ends the views that the speed test ends: the lingering ones and those on request. -/
theorem releaseOn_out (q : Output) : (s.releaseOn set o).out q = if o = q ∧ set.has o = true then (s.out o).sped else s.out q := by
  unfold State.releaseOn OutputRec.sped
  by_cases member : set.has o = true
  · cases owner : (s.out o).owner with
    | linger => simp [member, owner, afterView_out]
    | camera =>
      by_cases reason : (s.out o).reason = .request
      · simp [member, owner, reason, toNormal_out]
      · simpa [member, owner, reason] using out_same s o q
    | off => simpa [member, owner] using out_same s o q
    | normal => simpa [member, owner] using out_same s o q
  · simp [member]

theorem releaseOn_tells : Tells (ownerOf o) s (s.releaseOn set o) := by
  unfold State.releaseOn
  dsimp only
  refine .ite ?_ (.refl s)
  split
  · exact afterView_tells s o _
  · exact .ite (toNormal_tells s o _) (.refl s)
  · exact .refl s
  · exact .refl s

theorem releaseOn_noticed (member : set.has o = true)
    (ends : (s.out o).owner = .linger ∨ (s.out o).owner = .camera ∧ (s.out o).reason = .request) :
    OwnerNoticed (s.releaseOn set o) o .release := by
  unfold State.releaseOn
  dsimp only
  rw [if_pos member]
  rcases ends with owner | ⟨owner, reason⟩
  · rw [owner]
    exact afterView_noticed s o .release
  · simp only [owner, if_pos reason]
    exact setOwner_noticed s o .release _

/-- What RELEASE VIEW makes of each output, all members at once. -/
theorem releaseAll_at : let t := outputs.foldl (State.releaseOn set) s
    t.out o = (if set.has o = true then (s.out o).sped else s.out o) ∧
    (set.has o = true → (s.out o).owner = .linger ∨ (s.out o).owner = .camera ∧ (s.out o).reason = .request → OwnerNoticed t o .release) := by
  obtain ⟨u, -, same, out, noticed⟩ := outputs_turn (f := State.releaseOn set)
    (fun s p q other => (releaseOn_out set s p q).trans (if_neg fun both => other both.1)) (releaseOn_changes set) (releaseOn_tells set) s o
  dsimp only
  rw [out, ← same, releaseOn_out]
  refine ⟨?_, fun member ends => noticed _ (releaseOn_noticed set u o member ends)⟩
  by_cases member : set.has o = true <;> simp [member]

end

/-! ### The end of a linger timer (R100) -/

theorem lingerDue_due {s : State} {o : Output} {e : Nat} (lingers : (s.out o).owner = .linger) (runs : (s.out o).linger = some e)
    (there : s.comp.policy.lingerTime * 10 ≤ e) : s.lingerDue o = s.afterView o .timer := if_pos ⟨lingers, reached_some runs there⟩

theorem lingerDue_early {s : State} {o : Output}
    (early : (s.out o).owner ≠ .linger ∨ ∀ e, (s.out o).linger = some e → e < s.comp.policy.lingerTime * 10) : s.lingerDue o = s := by
  refine if_neg fun due => ?_
  rcases early with other | before
  · exact other due.1
  · rw [reached_none before] at due
    exact nomatch due.2

/-! ### The requests -/

/-- What follows from what an answer makes holds of the answer. -/
theorem Answers.imp {c : Instr} {s : State} {r : Result} {b : ReplyBody} {ps : List Piece} {P Q : State → Prop}
    (h : Answers c s r b ps P) (follows : ∀ t, P t → Q t) : Answers c s r b ps Q := by
  intro comes
  obtain ⟨t, next, changes, requests, made⟩ := h comes
  exact ⟨t, next, changes, requests, follows t made⟩

theorem members_unlawful (f : Members) : Members.unlawful f = true ↔ f.undefinedMember = true ∨ ∀ o, f.set.has o = false := by
  unfold Members.unlawful
  rw [Bool.or_eq_true, isEmpty_iff]

theorem anyOff_iff (set : OutputSet) (s : State) : (outputs.any fun o => set.has o && decide ((s.out o).owner = .off)) = true ↔
    ∃ o, set.has o = true ∧ (s.out o).owner = .off := by
  simp only [List.any_eq_true, Bool.and_eq_true, decide_eq_true_eq]
  exact ⟨fun ⟨o, _, member⟩ => ⟨o, member⟩, fun ⟨o, member⟩ => ⟨o, mem_outputs o, member⟩⟩

/-- A member that RELEASE VIEW refuses: in CAMERA with reason REVERSE (R102). -/
def refusedBy (set : OutputSet) (s : State) (o : Output) : Bool :=
  set.has o && decide ((s.out o).owner = .camera) && decide ((s.out o).reason = .reverse)

section
variable {s : State} {f : Members} (lawful : ¬ Members.unlawful f = true)
include lawful

/-- SHOW CAMERA of members that are all ON (R101). -/
theorem showCamera_answers (on : ∀ o, f.set.has o = true → (s.out o).owner ≠ .off) :
    Answers (.showCamera (.whole f)) s .done .empty (.owners :: ownerPieces) fun t =>
      (s.comp.demand = false → s.cam.status = .live → (∃ o, Taken f.set s o) →
        GuideFollows s.guide { s.guide with demand := true } (s.steerDelta s.guide.geometry.ratio) t.guide) ∧
      ∀ o, (Taken f.set s o → t.out o = { s.out o with owner := .camera, reason := .request } ∧ OwnerNoticed t o .request ∧
        t.comp.demand = true) ∧ (¬ Taken f.set s o → t.out o = s.out o) := by
  have taken : ∀ o, Taken f.set (s.taking 0x52#8) o ↔ Taken f.set s o := fun o => by
    unfold Taken
    rw [taking_out]
  have none : ¬ (outputs.any fun o => f.set.has o && decide (((s.taking 0x52#8).out o).owner = .off)) = true := by
    rw [anyOff_iff]
    rintro ⟨o, member, off⟩
    rw [taking_out] at off
    exact on o member off
  have brings := fun o (t : Taken f.set s o) =>
    showAll_demand (s := s.taking 0x52#8) f.set (xs := outputs) ⟨o, mem_outputs o, (taken o).2 t⟩
  refine answers_of_whole rfl rfl ((if_neg lawful).trans (if_neg none)) (.foldl (showOn_changes f.set) _ _) ⟨?_, fun o => ⟨?_, ?_⟩⟩
  · rintro absent live ⟨o, t⟩
    have follows := (brings o t).2 (by rwa [taking_comp]) (by rwa [taking_cam])
    rwa [taking_guide, taking_reads (fun u => u.steerDelta s.guide.geometry.ratio) s _ fun _ => rfl] at follows
  · intro t
    obtain ⟨record, noticed⟩ := (showAll_at f.set (s.taking 0x52#8) o).1 ((taken o).2 t)
    rw [taking_out] at record
    exact ⟨record, noticed, (brings o t).1.demand⟩
  · intro left
    have record := (showAll_at f.set (s.taking 0x52#8) o).2 fun t => left ((taken o).1 t)
    rwa [taking_out] at record

/-- RELEASE VIEW answers with the members it refuses, and ends the views of the others (R102). -/
theorem releaseView_answers : let refused := refusedBy f.set s
    Answers (.releaseView (.whole f)) s (if refused .centre || refused .rearL || refused .rearR then .notNow else .done)
      (.refused ⟨refused .centre, refused .rearL, refused .rearR⟩) viewPieces fun t => ∀ o,
        t.out o = (if f.set.has o = true then (s.out o).sped else s.out o) ∧
        (f.set.has o = true → (s.out o).owner = .linger ∨ (s.out o).owner = .camera ∧ (s.out o).reason = .request →
          OwnerNoticed t o .release) := by
  intro refused
  have set : (s.taking 0x53#8).refusedOf f.set = ⟨refused .centre, refused .rearL, refused .rearR⟩ := by
    unfold State.refusedOf outputsWhere
    simp only [taking_out]
    rfl
  have outcome : (if OutputSet.isEmpty ((s.taking 0x53#8).refusedOf f.set) then Result.done else .notNow) =
      if refused .centre || refused .rearL || refused .rearR then .notNow else .done := by
    rw [set]
    unfold OutputSet.isEmpty
    cases refused .centre <;> cases refused .rearL <;> cases refused .rearR <;> rfl
  refine answers_of_whole rfl rfl ((if_neg lawful).trans ?_) (.foldl (releaseOn_changes f.set) outputs (s.taking 0x53#8)) fun o => ?_
  · dsimp only
    rw [outcome, set]
  · have turned := releaseAll_at f.set (s.taking 0x53#8) o
    rwa [taking_out] at turned

end

/-- Settles O39: member by member, each in a state that agrees on its record, and demand from the first member taken on. -/
theorem cameraViewsAreShownAndReleased : Obligations.CameraViewsAreShownAndReleased := by
  refine ⟨fun s f _ => ⟨fun bad => ?_, fun good => ⟨fun off => ?_, fun on => ?_, ?_⟩⟩, fun s o e lingers runs there => ?_, fun s o early => ?_⟩
  · have unlawful := (members_unlawful f).2 bad
    exact ⟨turnsAway_of_whole rfl rfl (if_pos unlawful), turnsAway_of_whole rfl rfl (if_pos unlawful)⟩
  · refine turnsAway_of_whole rfl rfl ((if_neg fun h => good ((members_unlawful f).1 h)).trans (if_pos ?_))
    rw [anyOff_iff]
    simpa only [taking_out] using off
  · refine (showCamera_answers (fun h => good ((members_unlawful f).1 h)) on).imp fun t ⟨follows, outs⟩ => ⟨?_, fun o => ?_⟩
    · exact fun absent live ⟨o, member, normal⟩ => follows absent live ⟨o, member, normal⟩
    · obtain ⟨shown, kept⟩ := outs o
      refine ⟨fun member normal => shown ⟨member, normal⟩, fun other => kept fun taken => ?_⟩
      rcases other with outside | elsewhere
      · exact nomatch outside.symm.trans taken.1
      · exact elsewhere taken.2
  · refine (releaseView_answers fun h => good ((members_unlawful f).1 h)).imp fun t outs o => ?_
    obtain ⟨record, noticed⟩ := outs o
    refine ⟨fun member owner reason => ⟨?_, noticed member (.inr ⟨owner, reason⟩)⟩,
      fun member owner => ⟨?_, noticed member (.inl owner)⟩, fun other => ?_⟩
    · rw [record, if_pos member]
      unfold OutputRec.sped
      simp only [owner, if_pos reason]
      rfl
    · rw [record, if_pos member]
      unfold OutputRec.sped
      simp only [owner]
    · rw [record]
      split
      · rename_i member
        unfold OutputRec.sped
        rcases other with outside | owner | owner | ⟨owner, reason⟩
        · exact nomatch outside.symm.trans member
        · simp only [owner]
        · simp only [owner]
        · simp [owner, reason]
      · rfl
  · refine ⟨s.afterView o .timer, ?_, afterView_changes s o .timer, ?_, afterView_noticed s o .timer, fun p other => ?_⟩
    · exact congrArg Host.Outcome.next (lingerDue_due lingers runs there)
    · rw [afterView_out, if_pos rfl]
    · rw [afterView_out, if_neg (Ne.symm other)]
  · exact congrArg Host.Outcome.next (lingerDue_early early)

end Sys2Proof.Machine
end

section
/-! PROOFS. SET VIEW POLICY: the settings stored, and the linger time, linger speed and film speed limit applied (R96, R103, R112). -/

namespace Sys2Proof.Machine

set_option Elab.async false

open Sys2Proof

/-! ### The settings stored (R96) -/

theorem clampOpt_zero_same (hi : Nat) (x : Option Nat) : clampOpt 0 hi x = x ↔ x.all (fun n => decide (n ≤ hi)) = true := by
  rw [clampOpt_zero]
  cases x with
  | none => simp
  | some n => simp

theorem policyStore_eq (f : SetViewPolicy) (p : ViewPolicy) : SetViewPolicy.store f p = {
    lingerTime := (f.lingerTime.map (min 10000)).getD p.lingerTime
    lingerSpeed := (f.lingerSpeed.map (min 3000)).getD p.lingerSpeed
    filmSpeedLimit := (f.filmSpeedLimit.map (min 1000)).getD p.filmSpeedLimit
    fills := ((p.fills.put 0 (f.startingFill.getD (p.fills.sel 0))).put 1 (f.unavailableFill.getD (p.fills.sel 1))).put 2
      (f.suppressedFill.getD (p.fills.sel 2)) } := by
  have fills : ((p.fills.upd 0 fun c => f.startingFill.getD c).upd 1 fun c => f.unavailableFill.getD c).upd 2
      (fun c => f.suppressedFill.getD c) = ((p.fills.put 0 (f.startingFill.getD (p.fills.sel 0))).put 1
        (f.unavailableFill.getD (p.fills.sel 1))).put 2 (f.suppressedFill.getD (p.fills.sel 2)) := by
    refine Table.ext_sel fun i => ?_
    simp only [Table.sel_upd, Table.sel_put]
    match i with
    | 0 | 1 | 2 => rfl
  unfold SetViewPolicy.store
  rw [clampOpt_zero, clampOpt_zero, clampOpt_zero, fills]

theorem policyResult_eq (f : SetViewPolicy) : doneOr (SetViewPolicy.clamped f) =
    if f.lingerTime.all (fun n => decide (n ≤ 10000)) && f.lingerSpeed.all (fun n => decide (n ≤ 3000)) &&
      f.filmSpeedLimit.all (fun n => decide (n ≤ 1000)) then .done else .adjusted := by
  refine doneOr_ite ?_
  unfold SetViewPolicy.clamped
  rw [decide_eq_false_iff_not, Bool.and_eq_true, Bool.and_eq_true, ← clampOpt_zero_same, ← clampOpt_zero_same, ← clampOpt_zero_same]
  simp only [not_or, not_not, and_assoc]

/-! ### The parts of a change of policy (R96) -/

section
variable (s : State) (f : SetViewPolicy)

/-- The policy stored, and the linger timers that have reached a linger time given expired. -/
def State.policyLingered : State :=
  let t := { s with comp := { s.comp with policy := SetViewPolicy.store f s.comp.policy } }
  if f.lingerTime.isSome then outputs.foldl State.lingerDue t else t

/-- With a linger speed that changes applied too. -/
def State.policySped : State :=
  if (SetViewPolicy.store f s.comp.policy).lingerSpeed = s.comp.policy.lingerSpeed then s.policyLingered f
  else (s.policyLingered f).lingerSpeedChanged

theorem setPolicy_parts : s.setPolicy f =
    if (SetViewPolicy.store f s.comp.policy).filmSpeedLimit = s.comp.policy.filmSpeedLimit then s.policySped f
    else (s.policySped f).suppressionTest := rfl

theorem policyLingered_rest : Changes (.policy :: viewPieces) s (s.policyLingered f) ∧
    (s.policyLingered f).comp.policy = SetViewPolicy.store f s.comp.policy := by
  have lingered : ∀ t : State, Changes viewPieces t (if f.lingerTime.isSome then outputs.foldl State.lingerDue t else t) := fun t =>
    .ite (.foldl lingerDue_changes _ _) (.refl _ _)
  refine ⟨((policy_changes s _).mono).trans ((lingered _).mono), ?_⟩
  exact (lingered { s with comp := { s.comp with policy := SetViewPolicy.store f s.comp.policy } }).at .policy

theorem lingerSpeedChanged_changes (u : State) : Changes (.lostLatch :: reversePieces) u u.lingerSpeedChanged :=
  ((latchTest_changes u).mono).trans (((evalRev_changes _ _).mono).trans ((speedTest_changes _).mono))

theorem policySped_rest : Changes (.policy :: .lostLatch :: reversePieces) s (s.policySped f) ∧
    (s.policySped f).comp.policy = SetViewPolicy.store f s.comp.policy := by
  obtain ⟨changes, policy⟩ := policyLingered_rest s f
  unfold State.policySped
  split
  · exact ⟨changes.mono, policy⟩
  · exact ⟨(changes.mono).trans ((lingerSpeedChanged_changes _).mono), ((lingerSpeedChanged_changes _).at .policy).trans policy⟩

theorem setPolicy_policy : (s.setPolicy f).comp.policy = SetViewPolicy.store f s.comp.policy := by
  rw [setPolicy_parts]
  split
  · exact (policySped_rest s f).2
  · exact (policySped_rest s f).2

/-- The suppression test bears on nothing but the suppression state. -/
theorem setPolicy_sped : (s.setPolicy f).recv = (s.policySped f).recv ∧ (∀ o, (s.setPolicy f).out o = (s.policySped f).out o) ∧
    ∀ o why, OwnerNoticed (s.policySped f) o why → OwnerNoticed (s.setPolicy f) o why := by
  rw [setPolicy_parts]
  split
  · exact ⟨rfl, fun _ => rfl, fun _ _ => id⟩
  · exact ⟨rfl, fun _ => rfl, fun _ _ => id⟩

/-! ### The film speed limit (R112) -/

theorem setPolicy_suppression {q : ViewPolicy} (store : SetViewPolicy.store f s.comp.policy = q) :
    (s.setPolicy f).comp.suppression = if q.filmSpeedLimit = s.comp.policy.filmSpeedLimit then s.comp.suppression
      else suppressionAfter (s.signal .speed).state (s.signal .speed).value q.filmSpeedLimit s.comp.suppression := by
  obtain ⟨changes, policy⟩ := policySped_rest s f
  have kept : (s.policySped f).comp.suppression = s.comp.suppression := changes.at .suppression
  subst store
  rw [setPolicy_parts]
  split
  · exact kept
  · unfold State.suppressionTest
    dsimp only
    rw [policy, kept, signal_of_changes changes]

theorem suppressionAfter_clear {state : SignalState} {speed : Int} {limit : Nat} {was : Bool} (known : state = .fresh ∨ state = .held)
    (slow : speed < (limit : Int) - 50) : suppressionAfter state speed limit was = false := by
  have below : ¬ (limit : Int) ≤ speed := by omega
  unfold suppressionAfter
  rcases known with fresh | held
  · rw [fresh]
    exact (if_neg below).trans (if_pos slow)
  · rw [held]
    exact (if_neg below).trans (if_pos slow)

theorem suppressionAfter_between {state : SignalState} {speed : Int} {limit : Nat} {was : Bool} (known : state = .fresh ∨ state = .held)
    (below : speed < (limit : Int)) (near : (limit : Int) - 50 ≤ speed) : suppressionAfter state speed limit was = was := by
  unfold suppressionAfter
  rcases known with fresh | held
  · rw [fresh]
    exact (if_neg (Int.not_le.2 below)).trans (if_neg (Int.not_lt.2 near))
  · rw [held]
    exact (if_neg (Int.not_le.2 below)).trans (if_neg (Int.not_lt.2 near))

/-! ### The linger time (R96, R100) -/

theorem lingerDue_tells (o : Output) : Tells (ownerOf o) s (s.lingerDue o) := .ite (afterView_tells s o _) (.refl s)

/-- The linger timers turned, output by output. -/
theorem lingerAll_at (o : Output) : let t := outputs.foldl State.lingerDue s
    t.out o = (s.out o).lingered s.comp.policy.lingerTime ∧
    ((s.out o).owner = .linger → reached (s.out o).linger s.comp.policy.lingerTime = true → OwnerNoticed t o .timer) := by
  obtain ⟨u, changes, same, out, noticed⟩ := outputs_turn (f := State.lingerDue)
    (fun s p q other => (lingerDue_out s p q).trans (if_neg other)) lingerDue_changes lingerDue_tells s o
  have policy : u.comp.policy = s.comp.policy := changes.at .policy
  dsimp only
  rw [out, lingerDue_out, if_pos rfl, same, policy]
  refine ⟨rfl, fun lingers due => noticed _ ?_⟩
  rw [show u.lingerDue o = u.afterView o .timer from if_pos ⟨by rwa [same], by rwa [same, policy]⟩]
  exact afterView_noticed u o .timer

/-- A linger time given takes the outputs whose timer has reached it to their after-view states; without one nothing changes. -/
theorem policyLingered_at {q : ViewPolicy} (store : SetViewPolicy.store f s.comp.policy = q) (o : Output) :
    (f.lingerTime.isSome = true → (s.policyLingered f).out o = (s.out o).lingered q.lingerTime ∧
      ((s.out o).owner = .linger → reached (s.out o).linger q.lingerTime = true → OwnerNoticed (s.policyLingered f) o .timer)) ∧
    (f.lingerTime = none → (s.policyLingered f).out o = s.out o) := by
  subst store
  unfold State.policyLingered
  refine ⟨fun given => ?_, fun none => ?_⟩
  · dsimp only
    rw [if_pos given]
    exact lingerAll_at { s with comp := { s.comp with policy := SetViewPolicy.store f s.comp.policy } } o
  · rw [none]
    rfl

theorem lingered_stays {r : OutputRec} {time : Nat} (early : r.owner ≠ .linger ∨ ∀ e, r.linger = some e → e < time * 10) :
    r.lingered time = r := by
  refine if_neg fun due => ?_
  rcases early with other | before
  · exact other due.1
  · rw [reached_none before] at due
    exact nomatch due.2

/-! ### The linger speed (R44, R45, R103) -/

/-- After the speed test, where SPEED ends views, no output lingers and none is in a view on request. -/
theorem sped_ends {r : OutputRec} (back : r.sped.owner = .linger ∨ r.sped.owner = .camera) :
    r.sped.owner = .camera ∧ r.sped.reason = .reverse := by
  revert back
  unfold OutputRec.sped
  cases owner : r.owner with
  | off => simp [owner]
  | normal => simp [owner]
  | linger =>
    dsimp only
    rw [left_eq]
    split <;> simp [OutputRec.switchedOff, OutputRec.givenBack]
  | camera =>
    cases reason : r.reason with
    | request => simp [OutputRec.givenBack]
    | reverse => simp [owner, reason]

theorem speedTest_at (o : Output) (ends : s.speedEnds = true) : s.speedTest.out o = (s.out o).sped := by
  obtain ⟨u, changes, same, out, -⟩ := outputs_turn (f := State.speedTestOf)
    (fun s p q other => (speedTestOf_out s p q).trans (if_neg fun both => other both.1)) speedTestOf_changes speedTestOf_tells s o
  unfold State.speedTest
  rw [out, speedTestOf_out, if_pos ⟨rfl, (speedEnds_of_changes changes).trans ends⟩, same]

/-- A new linger speed leaves REV_EFF settled, and where SPEED ends views the speed test has ended them. -/
theorem lingerSpeedChanged_shows : let t := s.lingerSpeedChanged
    ReverseSettled t ∧ (s.speedEnds = true → ∀ o, (t.out o).owner ≠ .linger ∧ ((t.out o).owner = .camera → (t.out o).reason = .reverse)) := by
  have tested := evalRev_settled (latchTest_tested s) .bus
  have speed : ((s.latchTest).evalRev .bus).speedEnds = s.speedEnds :=
    (speedEnds_of_changes (evalRev_changes _ .bus)).trans (speedEnds_of_changes (latchTest_changes s))
  refine ⟨settled_of_changes (speedTest_changes _) tested, fun ends o => ?_⟩
  unfold State.lingerSpeedChanged
  rw [speedTest_at _ o (speed.trans ends)]
  refine ⟨fun lingers => ?_, fun camera => (sped_ends (.inr camera)).2⟩
  have camera := (sped_ends (.inl lingers)).1
  rw [lingers] at camera
  exact nomatch camera

theorem policySped_shows {q : ViewPolicy} (store : SetViewPolicy.store f s.comp.policy = q)
    (changed : q.lingerSpeed ≠ s.comp.policy.lingerSpeed) : let t := s.policySped f
    t.recv.revEff = revOf t.recv.source t.recv.line t.busTerm ∧
    ((s.signal .speed).state = .fresh → (q.lingerSpeed : Int) ≤ (s.signal .speed).value →
      ((s.signal .reverse).state = .lost → t.recv.lostLatch = false) ∧
      ∀ o, (t.out o).owner ≠ .linger ∧ ((t.out o).owner = .camera → (t.out o).reason = .reverse)) := by
  subst store
  obtain ⟨changes, policy⟩ := policyLingered_rest s f
  have all := (policySped_rest s f).1
  have policy' := (policySped_rest s f).2
  have ended : ∀ u : State, u.comp.policy = SetViewPolicy.store f s.comp.policy → u.signal .speed = s.signal .speed →
      (s.signal .speed).state = .fresh → ((SetViewPolicy.store f s.comp.policy).lingerSpeed : Int) ≤ (s.signal .speed).value →
      u.speedEnds = true := by
    intro u held same fresh fast
    unfold State.speedEnds
    rw [held, same]
    simp [fresh, fast]
  have sped : s.policySped f = (s.policyLingered f).lingerSpeedChanged := if_neg changed
  obtain ⟨settled, views⟩ := lingerSpeedChanged_shows (s.policyLingered f)
  rw [← sped] at settled views
  refine ⟨settled.1, fun fresh fast => ⟨fun lost => settled.2 ?_ ?_, views ?_⟩⟩
  · rw [signal_of_changes all, lost]
  · exact ended _ policy' (signal_of_changes all .speed) fresh fast
  · exact ended _ policy (signal_of_changes changes .speed) fresh fast

end

/-- Settles O40: the settings as stored, and each part of the change in its order. -/
theorem viewPolicyTakesEffect : Obligations.ViewPolicyTakesEffect := by
  intro s f _
  refine ⟨fun bad => turnsAway_of_whole rfl rfl (if_pos bad), fun good => ?_⟩
  intro p q result v x
  have store : SetViewPolicy.store f s.comp.policy = q := policyStore_eq f p
  have acts : ∀ t : State, (if f.undefinedBit = true then (t, Reply.plain .badValue) else
      (t.setPolicy f, .plain (doneOr (SetViewPolicy.clamped f)))) = (t.setPolicy f, .plain result) := fun t => by
    rw [if_neg (by rw [good]; decide), policyResult_eq f]
  refine answers_of_whole rfl rfl (acts _) (setPolicy_changes _ f) ?_
  obtain ⟨l, e, -⟩ := taking_eq s 0x54#8
  rw [e]
  have suppression := setPolicy_suppression { s with link := l } f store
  have timed := policyLingered_at { s with link := l } f store
  have slowed := policySped_shows { s with link := l } f store
  have policy := (setPolicy_policy { s with link := l } f).trans store
  have still : q.lingerSpeed = p.lingerSpeed → State.policySped { s with link := l } f = State.policyLingered { s with link := l } f :=
    fun same => if_pos ((congrArg ViewPolicy.lingerSpeed store).trans same)
  have eff : (State.policyLingered { s with link := l } f).recv.revEff = s.recv.revEff :=
    (policyLingered_rest { s with link := l } f).1.at .revEff
  obtain ⟨recv, outs, notices⟩ := setPolicy_sped { s with link := l } f
  generalize State.policyLingered { s with link := l } f = lingered at timed still eff
  generalize State.policySped { s with link := l } f = sped at recv outs notices slowed still
  generalize State.setPolicy { s with link := l } f = t at *
  refine ⟨policy, fun same => ?_, fun changed => ⟨fun high => ?_, fun known slow => ?_, fun known below near => ?_⟩,
    fun same => ⟨?_, fun o => ?_⟩, fun changed => ?_⟩
  · exact suppression.trans (if_pos same)
  · exact (suppression.trans (if_neg changed)).trans (suppressionAfter_set high)
  · exact (suppression.trans (if_neg changed)).trans (suppressionAfter_clear known slow)
  · exact (suppression.trans (if_neg changed)).trans (suppressionAfter_between known below near)
  · exact (congrArg Receiver.revEff (recv.trans (congrArg State.recv (still same)))).trans eff
  · obtain ⟨given, absent⟩ := timed o
    have record : t.out o = lingered.out o := (outs o).trans (by rw [still same])
    refine ⟨fun e some owner runs there => ?_, fun stays => ?_⟩
    · obtain ⟨left, noticed⟩ := given some
      have due := reached_some runs there
      refine ⟨(record.trans left).trans (if_pos ⟨owner, due⟩), notices o .timer ?_⟩
      rw [still same]
      exact noticed owner due
    · cases time : f.lingerTime with
      | none => exact record.trans (absent time)
      | some n =>
        have early := stays.resolve_left (by rw [time]; exact nofun)
        exact (record.trans (given (by rw [time]; rfl)).1).trans (lingered_stays early)
  · obtain ⟨settled, ends⟩ := slowed changed
    refine ⟨?_, fun fresh fast => ?_⟩
    · have bus : State.busTerm t = sped.busTerm := busTerm_of_recv recv
      show t.recv.revEff = revOf t.recv.source t.recv.line t.busTerm
      rw [bus, recv]
      exact settled
    · obtain ⟨latch, views⟩ := ends fresh fast
      refine ⟨fun lost => ?_, fun o => ?_⟩
      · show t.recv.lostLatch = false
        rw [recv]
        exact latch lost
      · show (t.out o).owner ≠ .linger ∧ ((t.out o).owner = .camera → (t.out o).reason = .reverse)
        rw [outs o]
        exact views o

end Sys2Proof.Machine
end

section
/-! SUPPORT. What an output that goes OFF lets go of, and what an owner change leaves of the holds (R67, R130, R144, R147). -/

namespace Sys2Proof.Machine

set_option Elab.async false

open Sys2Proof

/-! ### Holds on capture slots and overlay planes -/

/-- From one state to another no hold on a capture slot or an overlay plane changes. -/
structure HoldsStay (s t : State) : Prop where
  slots : ∀ k, (t.cam.slots.sel k).holds = (s.cam.slots.sel k).holds
  planes : t.guide.holds = s.guide.holds

section
variable {s t u : State}

theorem HoldsStay.refl (s : State) : HoldsStay s s := ⟨fun _ => rfl, rfl⟩

theorem HoldsStay.trans (h : HoldsStay s t) (k : HoldsStay t u) : HoldsStay s u :=
  ⟨fun n => (k.slots n).trans (h.slots n), k.planes.trans h.planes⟩

theorem HoldsStay.ite {c : Prop} [Decidable c] (h : HoldsStay s t) (k : HoldsStay s u) : HoldsStay s (if c then t else u) := by
  split
  · exact h
  · exact k

theorem HoldsStay.of_changes {ps : List Piece} (c : Changes ps s t) (capture : ps.contains .capture = false := by decide)
    (guide : ps.contains .guide = false := by decide) : HoldsStay s t := by
  obtain ⟨slots, -⟩ := c.at .capture capture
  obtain ⟨-, -, -, -, -, -, -, -, -, holds, -⟩ := c.at .guide guide
  exact ⟨fun k => by rw [slots], holds⟩

end

theorem requestRecompute_holds (s : State) : HoldsStay s s.requestRecompute := by
  unfold State.requestRecompute State.beginComputation State.beginDrawing
  refine .ite ?_ (.refl s)
  split
  · exact .ite ⟨fun _ => rfl, rfl⟩ ⟨fun _ => rfl, rfl⟩
  · exact .refl s
  · exact ⟨fun _ => rfl, rfl⟩
  · exact ⟨fun _ => rfl, rfl⟩

theorem handGuide_holds {s : State} {f : Guide → Guide} (same : (f s.guide).holds = s.guide.holds) : HoldsStay s (s.handGuide f) := by
  have handed : HoldsStay s { s with guide := f s.guide } := ⟨fun _ => rfl, same⟩
  unfold State.handGuide
  dsimp only
  exact .ite ⟨fun _ => rfl, same⟩ (.ite (handed.trans (requestRecompute_holds _)) handed)

theorem setCameraStatus_holds (s : State) (x : CameraStatus) : HoldsStay s (s.setCameraStatus x) := by
  unfold State.setCameraStatus
  exact HoldsStay.trans (t := State.report { s with cam := { s.cam with status := x } } (.cameraState x)) ⟨fun _ => rfl, rfl⟩
    (handGuide_holds rfl)

theorem cameraSet_holds {s : State} {c : Camera} (same : ∀ k, (c.slots.sel k).holds = (s.cam.slots.sel k).holds) (x : CameraStatus) :
    HoldsStay s (State.setCameraStatus { s with cam := c } x) :=
  HoldsStay.trans (t := { s with cam := c }) ⟨same, rfl⟩ (setCameraStatus_holds _ x)

/-- A camera that stops abandons the frame being written, and keeps every hold (R123, R130). -/
theorem stopCamera_holds (s : State) : HoldsStay s s.stopCamera := by
  have unfilled : ∀ x : CaptureSlot, x.unfilled.holds = x.holds := by
    intro x
    unfold CaptureSlot.unfilled
    split <;> rfl
  have kept : ∀ k, ((((s.cam.slots.upd 0 CaptureSlot.unfilled).upd 1 CaptureSlot.unfilled).upd 2 CaptureSlot.unfilled).sel k).holds =
      (s.cam.slots.sel k).holds := by
    intro k
    simp only [Table.sel_upd]
    match k with
    | 0 | 1 | 2 => exact unfilled _
  unfold State.stopCamera
  exact cameraSet_holds kept _

theorem followCamera_holds (s : State) : HoldsStay s s.followCamera := by
  have wakes : HoldsStay s s.wakeCamera := by
    unfold State.wakeCamera
    exact cameraSet_holds (c := { s.cam with timer := some 0, prevSig := none, equalRun := 0, recovery := 0 }) (fun _ => rfl) _
  exact .ite (.ite wakes (.refl s)) (.ite (.refl s) (stopCamera_holds s))

theorem recomputeDemand_holds (s : State) : HoldsStay s s.recomputeDemand := by
  unfold State.recomputeDemand
  dsimp only
  generalize (outputs.any fun o => (s.out o).inView) = d
  have asked : HoldsStay s { s with comp := { s.comp with demand := d } } := ⟨fun _ => rfl, rfl⟩
  exact .ite (.refl s) ((asked.trans (followCamera_holds _)).trans (handGuide_holds rfl))

theorem ownerChanged_holds (s : State) (o : Output) (why : OwnerReason) : HoldsStay s (s.ownerChanged o why) :=
  ((HoldsStay.of_changes (report_changes s _)).trans (.of_changes (settleFlips_changes _))).trans (recomputeDemand_holds _)

/-! ### An output that goes OFF (R100, R104) -/

/-- An output holds no stream slot, no capture slot and no overlay plane. -/
structure LetGo (t : State) (o : Output) : Prop where
  rings : ∀ (i : StreamId) (k : Nat) (h : OutputSet), (t.stream i).ring[k]? = some (Slot.empty h) → h.has o = false
  slots : ∀ k, (t.cam.slots.sel k).holds.has o = false
  planes : ∀ p, (t.guide.holds.sel p).has o = false

section
variable (s : State) (o : Output)

theorem put_cleared (x : OutputSet) : (x.put o false).has o = false := (has_put x o o false).trans (if_pos rfl)

theorem releaseScan_letsGo (i : StreamId) (k : Nat) (h : OutputSet)
    (at_k : ((s.releaseScan o).stream i).ring[k]? = some (Slot.empty h)) : h.has o = false := by
  rw [releaseScan_stream, List.getElem?_map, Option.map_eq_some_iff] at at_k
  obtain ⟨x, -, released⟩ := at_k
  cases x with
  | empty g =>
    obtain rfl : g.put o false = h := Slot.empty.inj released
    exact put_cleared o g
  | filling | ready | showing => exact nomatch released

theorem releaseCapture_letsGo (k : Fin 3) : ((s.releaseCapture o).cam.slots.sel k).holds.has o = false := by
  unfold State.releaseCapture
  simp only [Table.sel_upd]
  match k with
  | 0 | 1 | 2 => exact put_cleared o _

theorem releaseGuide_letsGo (p : Fin 2) : ((s.releaseGuide o).guide.holds.sel p).has o = false := by
  have cleared : ((clearedHolds s.guide o).holds.sel p).has o = false := by
    unfold clearedHolds
    simp only [Table.sel_upd]
    match p with
    | 0 | 1 => exact put_cleared o _
  rw [releaseGuide_eq]
  split
  · exact cleared
  · exact cleared

theorem released_letsGo (why : OwnerReason) : LetGo ((((s.releaseScan o).releaseCapture o).releaseGuide o).ownerChanged o why) o := by
  have stays := ownerChanged_holds (((s.releaseScan o).releaseCapture o).releaseGuide o) o why
  have rings : ∀ i, ((((s.releaseScan o).releaseCapture o).releaseGuide o).ownerChanged o why).stream i = (s.releaseScan o).stream i := by
    have kept := ((releaseCapture_changes (s.releaseScan o) o).mono (qs := [.capture, .guide])).trans ((releaseGuide_changes _ o).mono)
    intro i
    unfold State.stream
    rw [show (State.ownerChanged _ o why).pacer.streams = _ from (ownerChanged_changes _ o why).at .rings,
      show (State.releaseGuide _ o).pacer.streams = _ from kept.at .rings]
  refine ⟨fun i k h at_k => ?_, fun k => ?_, fun p => ?_⟩
  · rw [rings] at at_k
    exact releaseScan_letsGo s o i k h at_k
  · have slots : (((s.releaseScan o).releaseCapture o).releaseGuide o).cam.slots = ((s.releaseScan o).releaseCapture o).cam.slots :=
      ((releaseGuide_changes _ o).at .capture).1
    rw [stays.slots, slots]
    exact releaseCapture_letsGo (s.releaseScan o) o k
  · rw [stays.planes]
    exact releaseGuide_letsGo _ o p

theorem turnOff_letsGo (why : OwnerReason) : LetGo (s.turnOff o why) o := by
  unfold State.turnOff
  dsimp only
  exact released_letsGo _ o why

end

/-! ### A flip that waits for CENTRE (R147) -/

/-- A computation that waits for its flip waits on through a consequence. -/
theorem handConsequence_waits {s : State} {d : Drawing} {b : Bool} (waits : s.guide.comp = .flipPending d b) (c : Consequence) :
    (s.handConsequence c).guide.comp = .flipPending d b := by
  have still : ∀ {ps : List Piece} {t : State}, Changes ps s t → ps.contains .guide = false → t.guide.comp = .flipPending d b :=
    fun c absent => (c.at .guide absent).1.trans waits
  unfold State.handConsequence
  split
  · exact still (dropSlot_changes s _ _ _) (by decide)
  · exact still (damageLayer_changes s _ _) (by decide)
  · exact still (discardCapture_changes s _) (by decide)
  · unfold State.requestRecompute
    rw [waits]
    split
    · exact waits
    · exact waits
  · exact still (damageSample_changes s _) (by decide)

theorem handDue_waits {s : State} {d : Drawing} {b : Bool} (waits : s.guide.comp = .flipPending d b) (r : Reader) :
    (s.handDue r).guide.comp = .flipPending d b :=
  foldl_keeps (P := fun t : State => t.guide.comp = .flipPending d b) (fun _ c ht => handConsequence_waits ht c) _ waits

/-- Where demand is what the views give, an owner change that leaves it so leaves the computation too. -/
theorem ownerChanged_comp {s : State} (demand : s.comp.demand = outputs.any fun o => (s.out o).inView) (o : Output) (why : OwnerReason) :
    (s.ownerChanged o why).guide.comp = s.guide.comp := by
  have told : Changes [.layers, .notices] s ((s.report (.outputOwner o (s.out o).owner why)).settleFlips) :=
    ((report_changes s _).mono).trans (settleFlips_changes _)
  unfold State.ownerChanged
  generalize (s.report (.outputOwner o (s.out o).owner why)).settleFlips = t at told ⊢
  have still : t.recomputeDemand = t := by
    unfold State.recomputeDemand
    dsimp only
    rw [if_pos]
    rw [show t.comp.demand = s.comp.demand from told.at .demand, demand]
    exact congrArg outputs.any (funext fun q => congrArg OutputRec.inView (out_of_changes told q))
  rw [still]
  exact (told.at .guide).1

/-- The state in which an output has been switched off, and nothing has followed it yet. -/
def State.switchedOff (s : State) (o : Output) : State := (s.handDue (.scan o)).putOut o ((s.handDue (.scan o)).out o).switchedOff

theorem turnOff_centre (s : State) (why : OwnerReason) : s.turnOff .centre why =
    ((((s.switchedOff .centre).flipByAnyView.releaseScan .centre).releaseCapture .centre).releaseGuide .centre).ownerChanged .centre why :=
  rfl

/-- A flip that waits for CENTRE waits for any camera view once CENTRE, in no view, goes OFF (R147). -/
theorem turnOff_flip {s : State} {d : Drawing} {b : Bool} (waits : s.guide.comp = .flipPending d b)
    (hidden : (s.out .centre).inView = false) (demand : s.comp.demand = outputs.any fun o => (s.out o).inView) (why : OwnerReason) :
    (s.turnOff .centre why).guide.comp = .flipPending d true := by
  have off : (s.switchedOff .centre).guide.comp = .flipPending d b := handDue_waits waits (.scan .centre)
  have asked : (s.switchedOff .centre).comp.demand = s.comp.demand := (handDue_changes s (.scan .centre)).at .demand
  have views : ∀ q, ((s.switchedOff .centre).out q).inView = (s.out q).inView := by
    intro q
    unfold State.switchedOff
    rw [putOut_out]
    split
    · subst_vars
      rw [hidden]
      rfl
    · rw [handDue_out]
  rw [turnOff_centre]
  generalize s.switchedOff .centre = u at off asked views ⊢
  have any : u.flipByAnyView.guide.comp = .flipPending d true := by
    unfold State.flipByAnyView
    rw [off]
  have kept : Changes [.guide] u u.flipByAnyView := flipByAnyView_changes u
  generalize u.flipByAnyView = v at any kept ⊢
  have released : Changes [.rings, .capture] v ((v.releaseScan .centre).releaseCapture .centre) :=
    ((releaseScan_changes v .centre).mono).trans ((releaseCapture_changes _ .centre).mono)
  generalize (v.releaseScan .centre).releaseCapture .centre = w at released ⊢
  have comp : w.guide.comp = .flipPending d true := (released.at .guide).1.trans any
  have all : Changes [.rings, .capture, .guide] u (w.releaseGuide .centre) :=
    ((kept.mono).trans (released.mono)).trans ((releaseGuide_changes w .centre).mono)
  rw [ownerChanged_comp, (releaseGuide_settled .centre (by rw [comp]; exact nofun)).1, comp]
  rw [show (w.releaseGuide .centre).comp.demand = u.comp.demand from all.at .demand, asked, demand]
  exact congrArg outputs.any (funext fun q => by rw [out_of_changes all q, views])

end Sys2Proof.Machine
end

section
/-! PROOFS. SET OUTPUT: the checks, the fields stored, and an output turned on or off (R95, R104, R105, R147). -/

namespace Sys2Proof.Machine

set_option Elab.async false

open Sys2Proof

/-! ### A record replaced in its settings (R104) -/

/-- A record replaced by one that differs in its owner state and settings alone. -/
theorem putOut_view (s : State) (o : Output) (r : OutputRec)
    (run : r.activeTiming = (s.out o).activeTiming ∧ r.linger = (s.out o).linger ∧ r.frame = (s.out o).frame ∧
      r.shownCard = (s.out o).shownCard ∧ r.lastFit = (s.out o).lastFit) : Changes [.owners, .outSettings] s (s.putOut o r) := by
  intro p hp
  by_cases h : p = .outRun
  · subst h
    intro q
    rw [putOut_out]
    split
    · subst_vars; exact run
    · exact ⟨rfl, rfl, rfl, rfl, rfl⟩
  · exact putOut_changes s o r p fun listed => by
      simp only [List.mem_cons, List.not_mem_nil, or_false] at hp listed
      tauto

/-- A record replaced by one that differs in its settings alone. -/
theorem putOut_settings (s : State) (o : Output) (r : OutputRec)
    (owners : r.enabled = (s.out o).enabled ∧ r.owner = (s.out o).owner ∧ r.reason = (s.out o).reason ∧ r.wasOff = (s.out o).wasOff)
    (run : r.activeTiming = (s.out o).activeTiming ∧ r.linger = (s.out o).linger ∧ r.frame = (s.out o).frame ∧
      r.shownCard = (s.out o).shownCard ∧ r.lastFit = (s.out o).lastFit) : Changes [.outSettings] s (s.putOut o r) := by
  intro p hp
  by_cases h : p = .owners
  · subst h
    intro q
    rw [putOut_out]
    split
    · subst_vars; exact owners
    · exact ⟨rfl, rfl, rfl, rfl⟩
  · exact putOut_view s o r run p (by simpa [h] using hp)

/-! ### The fields stored and the checks (R104) -/

/-- The source that a request gives, or the one held. -/
def SetOutput.sourceOver (f : SetOutput) (old : Option StreamId) : Option StreamId :=
  match f.source with
  | some (.legal x) => x
  | _ => old

theorem sourceAfter_eq {f : SetOutput} (legal : f.source ≠ some .undefined) (old : Option StreamId) :
    sourceAfter old f.source = some (SetOutput.sourceOver f old) := by
  unfold SetOutput.sourceOver
  cases e : f.source with
  | none => rfl
  | some x =>
    cases x with
    | legal x => rfl
    | undefined => exact absurd e legal

/-- The codes of a request are defined for an output (R104). -/
def SetOutput.CodesDefined (f : SetOutput) (o : Output) : Prop :=
  f.undefinedBit = false ∧ (∀ x, f.timing = some x → x.refresh = 50 ∨ x.refresh = 60) ∧ f.source ≠ some .undefined ∧
    (o = .centre → f.mirror ≠ some true)

theorem codesLegal_iff (f : SetOutput) (o : Output) : SetOutput.codesLegal f o = true ↔
    (∀ x, f.timing = some x → x.refresh = 50 ∨ x.refresh = 60) ∧ (o = .centre → f.mirror ≠ some true) := by
  unfold SetOutput.codesLegal
  rw [Bool.and_eq_true, Bool.not_eq_true', Bool.and_eq_false_imp]
  refine and_congr ?_ (by simp)
  cases f.timing <;> simp

theorem clamped_eq : Timing.clamped = fun x => ⟨max 320 (min 1280 x.width), max 240 (min 800 x.height), x.refresh⟩ := by
  funext x
  unfold Timing.clamped
  rw [clampNat_eq (by decide), clampNat_eq (by decide)]

/-- A request is answered ADJUSTED when its size was clamped. -/
theorem outputResult_eq (f : SetOutput) : doneOr (decide (f.timing.map Timing.clamped ≠ f.timing)) =
    if f.timing.all (fun x => decide (320 ≤ x.width ∧ x.width ≤ 1280 ∧ 240 ≤ x.height ∧ x.height ≤ 800)) then .done else .adjusted := by
  refine doneOr_ite ?_
  rw [decide_eq_false_iff_not, not_not]
  cases f.timing with
  | none => simp
  | some x =>
    have same : Timing.clamped x = x ↔ clampNat 320 1280 x.width = x.width ∧ clampNat 240 800 x.height = x.height := by
      cases x
      simp [Timing.clamped]
    rw [Option.map_some, Option.some_inj, same, clampNat_same (by decide), clampNat_same (by decide)]
    simp [and_assoc]

/-- The block of SET OUTPUT, once the output's number is one (R104, R105). -/
def setOutputBlock (f : SetOutput) (t : State) (o : Output) : State × Reply :=
  match sourceAfter (t.out o).source f.source with
  | none => (t, .plain .badValue)
  | some source =>
    if f.undefinedBit || !(SetOutput.codesLegal f o) then (t, .plain .badValue)
    else if f.enabled = some false ∧ (t.out o).inView = true then (t, .plain .notNow)
    else (t.setOutput o f source, .plain (doneOr (decide (f.timing.map Timing.clamped ≠ f.timing))))

theorem setOutputBlock_bad {f : SetOutput} {o : Output} (bad : ¬ SetOutput.CodesDefined f o) (t : State) :
    setOutputBlock f t o = (t, .plain .badValue) := by
  unfold setOutputBlock
  split
  · rfl
  · rename_i source known
    refine if_pos ?_
    by_contra good
    rw [Bool.or_eq_true, Bool.not_eq_true', not_or, Bool.not_eq_true, Bool.not_eq_false, codesLegal_iff] at good
    obtain ⟨defined, refresh, mirror⟩ := good
    refine bad ⟨defined, refresh, fun undefined => ?_, mirror⟩
    rw [undefined] at known
    exact nomatch known

theorem setOutputBlock_good {f : SetOutput} {o : Output} (good : SetOutput.CodesDefined f o) (t : State) : setOutputBlock f t o =
    if f.enabled = some false ∧ (t.out o).inView = true then (t, .plain .notNow)
    else (t.setOutput o f (SetOutput.sourceOver f (t.out o).source), .plain (doneOr (decide (f.timing.map Timing.clamped ≠ f.timing)))) := by
  obtain ⟨defined, refresh, legal, mirror⟩ := good
  unfold setOutputBlock
  rw [sourceAfter_eq legal]
  dsimp only
  rw [if_neg]
  rw [Bool.or_eq_true, not_or, Bool.not_eq_true', Bool.not_eq_false, codesLegal_iff]
  exact ⟨by rw [defined]; decide, refresh, mirror⟩

theorem setOutput_block {f : SetOutput} {o : Output} (number : (outputNo o).1 = f.output) (t : State) :
    (withOutput f.output t fun o => match sourceAfter (t.out o).source f.source with
      | none => (t, .plain .badValue)
      | some source =>
        if f.undefinedBit || !(SetOutput.codesLegal f o) then (t, .plain .badValue)
        else if f.enabled = some false ∧ (t.out o).inView = true then (t, .plain .notNow)
        else (t.setOutput o f source, .plain (doneOr (decide (f.timing.map Timing.clamped ≠ f.timing))))) = setOutputBlock f t o := by
  rw [← number, withOutput_some]
  rfl

/-! ### What takes effect (R104, R105) -/

/-- The record with the fields of a request stored. -/
def SetOutput.stored (f : SetOutput) (r : OutputRec) : OutputRec := SetOutput.store f (SetOutput.sourceOver f r.source) r

section
variable (s : State) (o : Output) (f : SetOutput)

/-- SET OUTPUT with the source that the request gives. -/
def State.outputSet : State := s.setOutput o f (SetOutput.sourceOver f (s.out o).source)

variable {s o f}

/-- In a camera view Enabled set clears was-off, and nothing else happens (R105). -/
theorem outputSet_view (view : (s.out o).owner = .camera ∨ (s.out o).owner = .linger) : s.outputSet o f =
    s.putOut o { SetOutput.stored f (s.out o) with wasOff := if f.enabled = some true then false else (s.out o).wasOff } := by
  have owner : (SetOutput.store f (SetOutput.sourceOver f (s.out o).source) (s.out o)).owner = (s.out o).owner := rfl
  have wasOff : (SetOutput.store f (SetOutput.sourceOver f (s.out o).source) (s.out o)).wasOff = (s.out o).wasOff := rfl
  rw [← owner] at view
  rw [← wasOff]
  unfold State.outputSet State.setOutput SetOutput.stored
  dsimp only
  generalize SetOutput.store f (SetOutput.sourceOver f (s.out o).source) (s.out o) = r at view
  obtain ⟨⟩ := r
  dsimp only at view
  rcases view with rfl | rfl
  all_goals
    match f.enabled with
    | some true => rfl
    | some false | none => rfl

/-- OFF or NORMAL without a change of Enabled: the fields are stored alone (R104). -/
theorem outputSet_same (same : ((s.out o).owner = .off ∧ f.enabled ≠ some true) ∨ ((s.out o).owner = .normal ∧ f.enabled ≠ some false)) :
    s.outputSet o f = s.putOut o (SetOutput.stored f (s.out o)) := by
  have owner : (SetOutput.store f (SetOutput.sourceOver f (s.out o).source) (s.out o)).owner = (s.out o).owner := rfl
  unfold State.outputSet State.setOutput
  dsimp only
  rcases same with ⟨off, stays⟩ | ⟨normal, stays⟩
  · rw [owner, off]
    match e : f.enabled with
    | some true => exact absurd e stays
    | some false | none => rfl
  · rw [owner, normal]
    match e : f.enabled with
    | some false => exact absurd e stays
    | some true | none => rfl

theorem outputSet_on (off : (s.out o).owner = .off) (on : f.enabled = some true) : s.outputSet o f =
    (s.setOwner o { SetOutput.stored f (s.out o) with
      enabled := true, owner := .normal, activeTiming := (SetOutput.stored f (s.out o)).hostTiming } .host).refresh o := by
  have owner : (SetOutput.store f (SetOutput.sourceOver f (s.out o).source) (s.out o)).owner = (s.out o).owner := rfl
  unfold State.outputSet State.setOutput
  dsimp only
  rw [owner, off, on]
  rfl

theorem outputSet_off (normal : (s.out o).owner = .normal) (off : f.enabled = some false) :
    s.outputSet o f = (s.putOut o (SetOutput.stored f (s.out o))).turnOff o .host := by
  have owner : (SetOutput.store f (SetOutput.sourceOver f (s.out o).source) (s.out o)).owner = (s.out o).owner := rfl
  unfold State.outputSet State.setOutput
  dsimp only
  rw [owner, normal, off]
  rfl

/-- An output turned on is in NORMAL at its host timing, with the frame of its first refresh event under way (R104). -/
theorem outputSet_on_record (off : (s.out o).owner = .off) (on : f.enabled = some true) : let t := s.outputSet o f
    (∀ p, p ≠ o → t.out p = s.out p) ∧ OwnerNoticed t o .host ∧
    ∃ fr card fit, fr.timing = (SetOutput.stored f (s.out o)).hostTiming ∧ t.out o = { SetOutput.stored f (s.out o) with
      enabled := true, owner := .normal, activeTiming := (SetOutput.stored f (s.out o)).hostTiming
      frame := some fr, shownCard := card, lastFit := fit } := by
  dsimp only
  rw [outputSet_on off on]
  generalize record : ({ SetOutput.stored f (s.out o) with
    enabled := true, owner := .normal, activeTiming := (SetOutput.stored f (s.out o)).hostTiming } : OutputRec) = r
  have normal : r.owner = .normal := record ▸ rfl
  have noticed := setOwner_noticed s o .host r
  have own : (s.setOwner o r .host).out o = r := (setOwner_out s o r .host o).trans (if_pos rfl)
  have others : ∀ p, p ≠ o → (s.setOwner o r .host).out p = s.out p := fun p other =>
    (setOwner_out s o r .host p).trans (if_neg (Ne.symm other))
  generalize s.setOwner o r .host = u at noticed own others ⊢
  have runs : (u.out o).owner ≠ .off := by rw [own, normal]; decide
  refine ⟨fun p other => (refresh_out_ne u (Ne.symm other)).trans (others p other),
    noticed.after (refresh_tells u o) (background_ne_owner o) (refresh_owner u o o).2.1, ?_⟩
  obtain ⟨card, before⟩ := beforeFrame_own u o
  have begun : (u.refresh o).out o = { r with
      frame := some ⟨r.hostTiming, (u.beforeFrame o).baseOf o, (u.beforeFrame o).layersOf o⟩, shownCard := card
      activeTiming := r.hostTiming, lastFit := ((u.beforeFrame o).baseOf o).fit } := by
    rw [refresh_begins runs, beginFrame_out, if_pos rfl, before, own, if_pos normal]
  refine ⟨⟨r.hostTiming, (u.beforeFrame o).baseOf o, (u.beforeFrame o).layersOf o⟩, card, ((u.beforeFrame o).baseOf o).fit, ?_, ?_⟩
  · rw [← record]
  · rw [begun, ← record]

/-- An output turned off lets go of everything; a flip that waits for CENTRE waits for any camera view (R104, R147). -/
theorem outputSet_off_record (normal : (s.out o).owner = .normal) (off : f.enabled = some false) : let t := s.outputSet o f
    (∀ p, p ≠ o → t.out p = s.out p) ∧ OwnerNoticed t o .host ∧ t.out o = (SetOutput.stored f (s.out o)).switchedOff ∧ LetGo t o ∧
    (o = .centre → CameraFollows s → ∀ d b, s.guide.comp = .flipPending d b → t.guide.comp = .flipPending d true) := by
  dsimp only
  rw [outputSet_off normal off]
  refine ⟨fun p other => ?_, ownerChanged_noticed _ o .host, ?_, turnOff_letsGo _ o .host, fun centre follows d b waits => ?_⟩
  · rw [turnOff_out, if_neg (Ne.symm other), putOut_out_ne _ _ _ (Ne.symm other)]
  · rw [turnOff_out, if_pos rfl, putOut_out_same]
  · subst centre
    have hidden : (SetOutput.stored f (s.out .centre)).inView = false := by
      show (s.out .centre).inView = false
      simp [OutputRec.inView, normal]
    have views : ∀ q, ((s.putOut .centre (SetOutput.stored f (s.out .centre))).out q).inView = (s.out q).inView := by
      intro q
      rw [putOut_out]
      split
      · subst_vars
        rfl
      · rfl
    refine turnOff_flip (s := s.putOut .centre (SetOutput.stored f (s.out .centre))) waits ?_ ?_ .host
    · rw [putOut_out_same, hidden]
    · exact follows.1.trans (congrArg outputs.any (funext fun q => (views q).symm))

end

/-! ### The request -/

theorem setOutput_turnsAway {s : State} {f : SetOutput} {o : Output} (number : (outputNo o).1 = f.output) {r : Result}
    (refused : ∀ t : State, t.out o = s.out o → setOutputBlock f t o = (t, .plain r)) : TurnsAway (.setOutput (.whole f)) s r :=
  turnsAway_of_whole rfl rfl ((setOutput_block number _).trans (refused _ (taking_out s _ o)))

/-- A request whose codes are defined, and which does not clear Enabled in a camera view, takes effect and is answered. -/
theorem setOutput_answers {s : State} {f : SetOutput} {o : Output} (number : (outputNo o).1 = f.output) (good : SetOutput.CodesDefined f o)
    (shown : ¬ (f.enabled = some false ∧ (s.out o).inView = true)) {ps : List Piece} {P : State → Prop}
    (changes : Changes ps (s.taking 0x50#8) ((s.taking 0x50#8).outputSet o f))
    (made : P (((s.taking 0x50#8).outputSet o f).answer 0x50#8 (doneOr (decide (f.timing.map Timing.clamped ≠ f.timing))) .empty))
    (requests : ps.contains .requests = false := by decide) (part : ps.contains .part = false := by decide) :
    Answers (.setOutput (.whole f)) s (doneOr (decide (f.timing.map Timing.clamped ≠ f.timing))) .empty ps P := by
  have block := ((setOutput_block number (s.taking 0x50#8)).trans (setOutputBlock_good good _)).trans
    (if_neg (by rw [taking_out]; exact shown))
  exact answers_of_whole rfl rfl block changes made requests part

theorem outputStored_eq (f : SetOutput) (r : OutputRec) : SetOutput.stored f r = { r with
    hostTiming := (f.timing.map fun x => ⟨max 320 (min 1280 x.width), max 240 (min 800 x.height), x.refresh⟩).getD r.hostTiming
    background := f.background.getD r.background
    source := SetOutput.sourceOver f r.source
    mirror := f.mirror.getD r.mirror } := by
  rw [← clamped_eq]
  rfl

/-- Settles O38: the block of SET OUTPUT is a chain of checks and then one of four state changes by owner state and Enabled. -/
theorem setOutputStoresTheComposition : Obligations.SetOutputStoresTheComposition := by
  intro s f _ codes result
  refine ⟨fun high => turnsAway_of_whole rfl rfl (withOutput_none high _ _), fun o number => ⟨fun bad => ?_, fun good => ?_⟩⟩
  · exact setOutput_turnsAway number fun t _ => setOutputBlock_bad bad t
  intro r stored others
  have record : SetOutput.stored f r = stored := outputStored_eq f r
  have answered : doneOr (decide (f.timing.map Timing.clamped ≠ f.timing)) = result := outputResult_eq f
  have acts := @setOutput_answers s f o number good
  rw [answered] at acts
  obtain ⟨l, e, -⟩ := taking_eq s 0x50#8
  rw [e] at acts
  have settings : ∀ {t : State} {q : OutputRec}, t = State.putOut { s with link := l } o q →
      others (t.answer 0x50#8 result .empty) ∧ (t.answer 0x50#8 result .empty).out o = q := by
    rintro t q rfl
    exact ⟨fun p other => putOut_out_ne _ _ _ (Ne.symm other), putOut_out_same _ _ _⟩
  refine ⟨fun view => ⟨fun off => ?_, fun stays => ?_⟩, fun same => ?_, fun off on => ?_, fun normal off => ?_⟩
  · refine setOutput_turnsAway number fun t same => (setOutputBlock_good good t).trans (if_pos ⟨off, ?_⟩)
    rw [same]
    exact inView_iff.2 view
  · have made := outputSet_view (s := { s with link := l }) (o := o) (f := f) view
    refine acts (fun h => stays h.1) ?_ ?_
    · rw [made]
      exact putOut_view _ _ _ ⟨rfl, rfl, rfl, rfl, rfl⟩
    · rw [← record]
      exact settings made
  · have made := outputSet_same (s := { s with link := l }) (o := o) (f := f) same
    refine acts ?_ ?_ ?_
    · rintro ⟨off, view⟩
      rcases same with ⟨owner, -⟩ | ⟨-, kept⟩
      · rcases inView_iff.1 view with h | h <;> exact nomatch owner.symm.trans h
      · exact kept off
    · rw [made]
      exact putOut_settings _ _ _ ⟨rfl, rfl, rfl, rfl⟩ ⟨rfl, rfl, rfl, rfl, rfl⟩
    · rw [← record]
      exact settings made
  · refine acts (fun h => nomatch on.symm.trans h.1) (setOutput_changes _ o f _) ?_
    rw [← record]
    exact outputSet_on_record (s := { s with link := l }) off on
  · refine acts ?_ (setOutput_changes _ o f _) ?_
    · rintro ⟨-, view⟩
      rcases inView_iff.1 view with h | h <;> exact nomatch normal.symm.trans h
    · rw [← record]
      obtain ⟨kept, noticed, off, ⟨rings, slots, planes⟩, flip⟩ := outputSet_off_record (s := { s with link := l }) normal off
      exact ⟨kept, noticed, off, rings, slots, planes, flip⟩

end Sys2Proof.Machine
end

section
/-! SUPPORT. What the operations of the Camera Monitor make of its record, of the notices and of the Generator (R118 to R132). -/

namespace Sys2Proof.Machine

set_option Elab.async false

open Sys2Proof

theorem cam_of_changes {ps : List Piece} {s t : State} (c : Changes ps s t) (settings : ps.contains .camSettings = false := by decide)
    (camera : ps.contains .camera = false := by decide) (capture : ps.contains .capture = false := by decide) : t.cam = s.cam := by
  have set : t.cam.settings = s.cam.settings := c.at .camSettings settings
  obtain ⟨status, timer, sig, run, recovery, frozen, good, short⟩ := c.at .camera camera
  obtain ⟨slots, order, shown, last, rx⟩ := c.at .capture capture
  revert set status timer sig run recovery frozen good short slots order shown last rx
  generalize t.cam = x
  generalize s.cam = y
  cases x
  cases y
  intros
  simp_all

/-! ### What the Generator makes of a camera that is not live (R148) -/

theorem inactive_of_status {g : Guide} (other : g.camStatus ≠ .live) : g.active = false := by
  rw [← Bool.not_eq_true, active_iff]
  exact fun ⟨_, _, live⟩ => other live

/-- A Generator handed what makes it inactive stops if it was active. -/
theorem GuideFollows.of_inactive {g u h : Guide} {angle : Option Int} (follows : GuideFollows g u angle h) (inactive : u.active = false) :
    h = if g.active = true then u.stopped else u := by
  obtain ⟨stops, -, stays⟩ := follows
  split
  case isTrue was => exact stops was inactive
  case isFalse was => exact stays ((Bool.not_eq_true _ ▸ was).trans inactive.symm)

/-! ### A change of the camera state (R121) -/

section
variable (s : State) (x : CameraStatus)

@[simp] theorem setCameraStatus_cam : (s.setCameraStatus x).cam = { s.cam with status := x } :=
  cam_of_changes (handGuide_changes (State.report { s with cam := { s.cam with status := x } } (.cameraState x))
    (fun g => { g with camStatus := x }) ⟨rfl, rfl, rfl⟩)

theorem setCameraStatus_noted : Noted s (s.setCameraStatus x) (.cameraState x) :=
  (handGuide_changes (State.report { s with cam := { s.cam with status := x } } (.cameraState x))
    (fun g => { g with camStatus := x }) ⟨rfl, rfl, rfl⟩).at .notices

theorem setCameraStatus_follows : GuideFollows s.guide { s.guide with camStatus := x } (s.steerDelta s.guide.geometry.ratio)
    (s.setCameraStatus x).guide :=
  handGuide_follows (State.report { s with cam := { s.cam with status := x } } (.cameraState x)) fun g => { g with camStatus := x }

end

/-! ### The record of a camera that starts, stops or is lost (R122, R123, R127) -/

/-- The timer started anew, and nothing left of the frames before. -/
def Camera.restarted (c : Camera) : Camera := { c with timer := some 0, prevSig := none, equalRun := 0, recovery := 0 }

/-- A camera made to stop. -/
def Camera.stopped (c : Camera) : Camera := { c with
  status := .off, timer := none, prevSig := none, equalRun := 0, recovery := 0, rx := none
  slots := ((c.slots.upd 0 CaptureSlot.unfilled).upd 1 CaptureSlot.unfilled).upd 2 CaptureSlot.unfilled }

section
variable (s : State)

theorem wakeCamera_cam : s.wakeCamera.cam = { s.cam.restarted with status := .waking } := setCameraStatus_cam _ _

theorem stopCamera_cam : s.stopCamera.cam = s.cam.stopped := setCameraStatus_cam _ _

theorem loseCamera_cam : s.loseCamera.cam = { s.cam.restarted with status := .lost } := setCameraStatus_cam _ _

theorem loseCamera_noted : Noted s s.loseCamera (.cameraState .lost) :=
  setCameraStatus_noted { s with cam := s.cam.restarted } .lost

theorem loseCamera_guide : s.loseCamera.guide =
    if s.guide.active = true then Guide.stopped { s.guide with camStatus := .lost } else { s.guide with camStatus := .lost } :=
  (setCameraStatus_follows { s with cam := s.cam.restarted } .lost).of_inactive (inactive_of_status nofun)

theorem wakeCamera_guide : s.wakeCamera.guide =
    if s.guide.active = true then Guide.stopped { s.guide with camStatus := .waking } else { s.guide with camStatus := .waking } :=
  (setCameraStatus_follows { s with cam := s.cam.restarted } .waking).of_inactive (inactive_of_status nofun)

end

/-! ### Expiries of the frame timer (R122, R124, R126, R127) -/

section
variable {s : State}

theorem wakeExpired_due (waking : s.cam.status = .waking) (due : reached s.cam.timer s.cam.settings.wakeTimeout = true) :
    s.wakeExpired = s.loseCamera := if_pos ⟨waking, due⟩

theorem wakeExpired_still (still : s.cam.status ≠ .waking ∨ reached s.cam.timer s.cam.settings.wakeTimeout = false) :
    s.wakeExpired = s :=
  if_neg fun ⟨waking, due⟩ => still.elim (fun other => other waking) fun early => nomatch early.symm.trans due

theorem frameExpired_due (runs : s.cam.status = .live ∨ s.cam.status = .frozen)
    (due : reached s.cam.timer s.cam.settings.frameTimeout = true) : s.frameExpired = s.loseCamera := by
  unfold State.frameExpired
  rw [if_pos due]
  rcases runs with status | status <;> rw [status]

theorem frameExpired_lost (lost : s.cam.status = .lost) (due : reached s.cam.timer s.cam.settings.frameTimeout = true) :
    s.frameExpired = { s with cam := s.cam.restarted } := by
  unfold State.frameExpired
  rw [if_pos due, lost]
  rfl

theorem frameExpired_still
    (still : s.cam.status = .off ∨ s.cam.status = .waking ∨ reached s.cam.timer s.cam.settings.frameTimeout = false) :
    s.frameExpired = s := by
  unfold State.frameExpired
  split
  case isFalse => rfl
  case isTrue due =>
    rcases still with status | status | early
    · rw [status]
    · rw [status]
    · exact nomatch early.symm.trans due

end

end Sys2Proof.Machine
end

section
/-! PROOFS. The expiries of the frame timer (R121, R122, R124, R126, R127, R148). -/

namespace Sys2Proof.Machine

set_option Elab.async false

open Sys2Proof

/-- In LOST an expiry of the frame timer changes the camera's own record alone (R127). -/
theorem restarted_changes (s : State) : Changes [.camera] s { s with cam := s.cam.restarted } := by
  intro p hp
  have same := same_refl s p
  cases p <;> first | exact absurd (by decide) hp | exact same

/-- Settles O45: each expiry that finds its state and its time loses the camera, or in LOST clears the recovery. -/
theorem cameraTimeoutsLoseTheCamera : Obligations.CameraTimeoutsLoseTheCamera := by
  refine ⟨fun s c e runs expires => ?_, fun s e lost runs there => ?_, fun s still => ?_, fun s still => ?_⟩
  · have acts : exec c s = .next s.loseCamera := by
      rcases expires with ⟨rfl, waking, there⟩ | ⟨rfl, running, there⟩
      · exact congrArg Host.Outcome.next (wakeExpired_due waking (reached_some runs there))
      · exact congrArg Host.Outcome.next (frameExpired_due running (reached_some runs there))
    exact ⟨_, acts, loseCamera_changes s, loseCamera_cam s, loseCamera_guide s, loseCamera_noted s⟩
  · have acts := frameExpired_lost lost (reached_some runs there)
    exact ⟨_, congrArg Host.Outcome.next acts, restarted_changes s, rfl⟩
  · exact congrArg Host.Outcome.next (wakeExpired_still (still.imp_right reached_none))
  · exact congrArg Host.Outcome.next (frameExpired_still (still.imp_right (Or.imp_right reached_none)))

end Sys2Proof.Machine
end

section
/-! PROOFS. SET CAMERA: its checks, the settings stored, and the camera started, stopped or lost as they now say (R120, R122, R123,
R132). -/

namespace Sys2Proof.Machine

set_option Elab.async false

open Sys2Proof

/-! ### The fields (R132) -/

theorem cameraStore_eq (f : SetCamera) (c : CameraSettings) : SetCamera.store f c = { c with
    width := (f.format.map CameraFormat.width).getD c.width
    height := (f.format.map CameraFormat.height).getD c.height
    frameTimeout := (f.frameTimeout.map fun n => max 40 (min 500 n)).getD c.frameTimeout
    wakeTimeout := (f.wakeTimeout.map fun n => max 100 (min 2000 n)).getD c.wakeTimeout
    freezeCount := (f.freezeCount.map fun n => max 5 (min 60 n)).getD c.freezeCount
    keepWarm := f.keepWarm.getD c.keepWarm } := by
  unfold SetCamera.store
  rw [clampOpt_eq (by decide), clampOpt_eq (by decide), clampOpt_eq (by decide)]

theorem cameraResult_eq (f : SetCamera) : doneOr (SetCamera.clamped f) =
    if f.frameTimeout.all (fun n => decide (40 ≤ n ∧ n ≤ 500)) && f.wakeTimeout.all (fun n => decide (100 ≤ n ∧ n ≤ 2000)) &&
      f.freezeCount.all (fun n => decide (5 ≤ n ∧ n ≤ 60)) then .done else .adjusted := by
  refine doneOr_ite ?_
  unfold SetCamera.clamped
  rw [decide_eq_false_iff_not, Bool.and_eq_true, Bool.and_eq_true, ← clampOpt_same (by decide), ← clampOpt_same (by decide),
    ← clampOpt_same (by decide)]
  simp only [not_or, not_not, and_assoc]

theorem cameraFormat_legal_iff (x : CameraFormat) : CameraFormat.legal x = true ↔
    x.format = .legal .yuv422 ∧ 320 ≤ x.width ∧ x.width ≤ 1280 ∧ x.width % 2 = 0 ∧ 240 ≤ x.height ∧ x.height ≤ 960 := by
  unfold CameraFormat.legal
  simp only [Bool.and_eq_true, decide_eq_true_eq, and_assoc]

/-- The first check of SET CAMERA: its mask and its format. -/
theorem cameraBody_refused_iff (f : SetCamera) : (f.undefinedBit || !(f.format.all CameraFormat.legal)) = true ↔
    ¬ (f.undefinedBit = false ∧ ∀ x, f.format = some x → x.format = .legal .yuv422 ∧ 320 ≤ x.width ∧ x.width ≤ 1280 ∧
      x.width % 2 = 0 ∧ 240 ≤ x.height ∧ x.height ≤ 960) := by
  have format : f.format.all CameraFormat.legal = true ↔ ∀ x, f.format = some x → CameraFormat.legal x = true := Option.all_eq_true _ _
  simp only [cameraFormat_legal_iff] at format
  rw [← format]
  cases f.undefinedBit <;> cases f.format.all CameraFormat.legal <;> decide

/-! ### The record as each part of the change leaves it -/

/-- The settings stored, and with a new format no frame left in the slots. -/
def Camera.configured (c : Camera) (f : SetCamera) : Camera :=
  if f.format.isSome then { c with
    settings := SetCamera.store f c.settings
    slots := ((c.slots.upd 0 CaptureSlot.emptied).upd 1 CaptureSlot.emptied).upd 2 CaptureSlot.emptied
    order := []
    shown := none }
  else { c with settings := SetCamera.store f c.settings }

/-- The timeout that bounds the frame timer in a camera state. -/
def Camera.limit (c : Camera) : Nat := if c.status = .waking then c.settings.wakeTimeout else c.settings.frameTimeout

/-- A camera whose timer has reached its timeout is lost, or lost anew. -/
def Camera.timed (c : Camera) : Camera :=
  if c.status ≠ .off ∧ reached c.timer c.limit = true then { c.restarted with status := .lost } else c

/-- The camera started or stopped as it should run or not (R120). -/
def Camera.followed (c : Camera) (runs : Bool) : Camera :=
  if runs then (if c.status = .off then { c.restarted with status := .waking } else c)
  else (if c.status = .off then c else c.stopped)

/-- The state with the fields stored and a new format taken. -/
def State.cameraConfigured (s : State) (f : SetCamera) : State :=
  let t := { s with cam := { s.cam with settings := SetCamera.store f s.cam.settings } }
  if f.format.isSome then t.formatChanged else t

/-- The state in which the camera comes to follow keep-warm. -/
def State.cameraTimed (s : State) (f : SetCamera) : State :=
  if f.frameTimeout.isSome || f.wakeTimeout.isSome then (s.cameraConfigured f).cameraDue else s.cameraConfigured f

theorem setCamera_parts (s : State) (f : SetCamera) : s.setCamera f = (s.cameraTimed f).followCamera := rfl

section
variable (s : State) (f : SetCamera)

theorem formatChanged_eq : s.formatChanged = { s with
    cam := { s.cam with
      slots := ((s.cam.slots.upd 0 CaptureSlot.emptied).upd 1 CaptureSlot.emptied).upd 2 CaptureSlot.emptied, order := [], shown := none }
    guide := { s.guide with camWidth := s.cam.settings.width, camHeight := s.cam.settings.height } } := by
  have same : Guide.active { s.guide with camWidth := s.cam.settings.width, camHeight := s.cam.settings.height } = s.guide.active := rfl
  unfold State.formatChanged State.handGuide
  dsimp only
  rw [same]
  cases s.guide.active <;> rfl

theorem cameraConfigured_cam : (s.cameraConfigured f).cam = s.cam.configured f := by
  unfold State.cameraConfigured Camera.configured
  dsimp only
  split
  · rw [formatChanged_eq]
  · rfl

theorem cameraDue_cam : s.cameraDue.cam = s.cam.timed := by
  unfold State.cameraDue Camera.timed Camera.limit
  by_cases waking : s.cam.status = .waking
  · have on : s.cam.status ≠ .off := by rw [waking]; decide
    rw [if_pos waking, if_pos waking]
    by_cases due : reached s.cam.timer s.cam.settings.wakeTimeout = true
    · rw [if_pos ⟨on, due⟩, wakeExpired_due waking due, loseCamera_cam]
    · rw [if_neg fun h => due h.2, wakeExpired_still (.inr (by simpa using due))]
  · rw [if_neg waking, if_neg waking]
    by_cases due : s.cam.status ≠ .off ∧ reached s.cam.timer s.cam.settings.frameTimeout = true
    · rw [if_pos due]
      by_cases lost : s.cam.status = .lost
      · rw [frameExpired_lost lost due.2, ← lost]
        rfl
      · rw [frameExpired_due ?_ due.2, loseCamera_cam]
        revert due waking lost
        cases s.cam.status <;> simp
    · rw [if_neg due, frameExpired_still ?_]
      by_cases off : s.cam.status = .off
      · exact .inl off
      · exact .inr (.inr (by simpa [off] using due))

theorem cameraDue_off {s : State} (off : s.cam.status = .off) : s.cameraDue = s := by
  have other : s.cam.status ≠ .waking := by rw [off]; decide
  exact (if_neg other).trans (frameExpired_still (.inl off))

theorem followCamera_cam : s.followCamera.cam = s.cam.followed s.cameraRuns := by
  unfold State.followCamera Camera.followed
  split
  · split
    · exact wakeCamera_cam s
    · rfl
  · split
    · rfl
    · exact stopCamera_cam s

/-- A camera that starts or stops says so (R121). -/
theorem followCamera_noticed {s : State} (changed : s.followCamera.cam.status ≠ s.cam.status) : (4, 0) ∈ s.followCamera.noticeKeys := by
  have told : ∀ (c : Camera) (x : CameraStatus), (4, 0) ∈ (State.setCameraStatus { s with cam := c } x).noticeKeys := fun c x => by
    unfold State.noticeKeys
    rw [setCameraStatus_noted, mem_keys_queueReport]
    exact .inr rfl
  revert changed
  unfold State.followCamera
  split
  · split
    · exact fun _ => told _ _
    · exact fun same => absurd rfl same
  · split
    · exact fun same => absurd rfl same
    · exact fun _ => told _ _

/-- What is done before the camera follows keep-warm leaves demand alone. -/
theorem cameraTimed_demand : (s.cameraTimed f).comp.demand = s.comp.demand := by
  have configured : (s.cameraConfigured f).comp.demand = s.comp.demand := by
    unfold State.cameraConfigured
    dsimp only
    split
    · rw [formatChanged_eq]
    · rfl
  have due : ∀ u : State, u.cameraDue.comp.demand = u.comp.demand := fun u =>
    (Changes.ite (c := u.cam.status = .waking) (wakeExpired_changes u) (frameExpired_changes u)).at .demand
  unfold State.cameraTimed
  split
  · exact (due _).trans configured
  · exact configured

theorem cameraTimed_cam : (s.cameraTimed f).cam =
    if f.frameTimeout.isSome || f.wakeTimeout.isSome then (s.cam.configured f).timed else s.cam.configured f := by
  unfold State.cameraTimed
  rw [apply_ite State.cam, cameraDue_cam, cameraConfigured_cam]

end

/-! ### What the parts leave of the record -/

/-- From one record to another the settings, the counts and the holds on the slots stay. -/
structure Camera.Keeps (c d : Camera) : Prop where
  settings : d.settings = c.settings
  good : d.good = c.good
  short : d.short = c.short
  frozen : d.frozen = c.frozen
  holds : ∀ k, (d.slots.sel k).holds = (c.slots.sel k).holds

section
variable (c : Camera)

/-- A change of every slot that leaves its holds alone. -/
theorem holds_of_each {g : CaptureSlot → CaptureSlot} (same : ∀ x, (g x).holds = x.holds) (t : Table CaptureSlot 3) (k : Fin 3) :
    ((((t.upd 0 g).upd 1 g).upd 2 g).sel k).holds = (t.sel k).holds := by
  simp only [Table.sel_upd]
  match k with
  | 0 | 1 | 2 => exact same _

theorem Camera.stopped_keeps : c.Keeps c.stopped := by
  refine ⟨rfl, rfl, rfl, rfl, holds_of_each (fun x => ?_) c.slots⟩
  unfold CaptureSlot.unfilled
  split <;> rfl

theorem Camera.timed_keeps : c.Keeps c.timed := by
  unfold Camera.timed
  split <;> exact ⟨rfl, rfl, rfl, rfl, fun _ => rfl⟩

theorem Camera.followed_keeps (runs : Bool) : c.Keeps (c.followed runs) := by
  have same : c.Keeps c := ⟨rfl, rfl, rfl, rfl, fun _ => rfl⟩
  unfold Camera.followed
  split
  · split
    · exact ⟨rfl, rfl, rfl, rfl, fun _ => rfl⟩
    · exact same
  · split
    · exact same
    · exact c.stopped_keeps

theorem Camera.configured_keeps (f : SetCamera) : Camera.Keeps { c with settings := SetCamera.store f c.settings } (c.configured f) := by
  unfold Camera.configured
  split
  · exact ⟨rfl, rfl, rfl, rfl, holds_of_each (g := CaptureSlot.emptied) (fun _ => rfl) c.slots⟩
  · exact ⟨rfl, rfl, rfl, rfl, fun _ => rfl⟩

theorem Camera.configured_status (f : SetCamera) : (c.configured f).status = c.status ∧ (c.configured f).timer = c.timer := by
  unfold Camera.configured
  split <;> exact ⟨rfl, rfl⟩

/-- A timeout makes the camera LOST, and never OFF. -/
theorem Camera.timed_off_iff : c.timed.status = .off ↔ c.status = .off := by
  unfold Camera.timed
  split
  case isTrue late => exact iff_of_false nofun late.1
  case isFalse => exact Iff.rfl

end

/-! ### SET CAMERA taken effect, case by case -/

section
variable (s : State) (f : SetCamera) {d : CameraSettings} (store : SetCamera.store f s.cam.settings = d)
include store

theorem cameraTimed_keeps : Camera.Keeps { s.cam with settings := d } (s.cameraTimed f).cam := by
  subst store
  have configured := s.cam.configured_keeps f
  rw [cameraTimed_cam]
  split
  · have timed := (s.cam.configured f).timed_keeps
    exact ⟨timed.settings.trans configured.settings, timed.good.trans configured.good, timed.short.trans configured.short,
      timed.frozen.trans configured.frozen, fun k => (timed.holds k).trans (configured.holds k)⟩
  · exact configured

theorem cameraTimed_runs : (s.cameraTimed f).cameraRuns = (s.comp.demand || d.keepWarm) := by
  unfold State.cameraRuns
  rw [cameraTimed_demand, (cameraTimed_keeps s f store).settings]

theorem setCamera_cam : (s.setCamera f).cam = (s.cameraTimed f).cam.followed (s.comp.demand || d.keepWarm) := by
  rw [setCamera_parts, followCamera_cam, cameraTimed_runs s f store]

theorem setCamera_keeps : Camera.Keeps { s.cam with settings := d } (s.setCamera f).cam := by
  have before := cameraTimed_keeps s f store
  have after := (s.cameraTimed f).cam.followed_keeps (s.comp.demand || d.keepWarm)
  rw [setCamera_cam s f store]
  exact ⟨after.settings.trans before.settings, after.good.trans before.good, after.short.trans before.short,
    after.frozen.trans before.frozen, fun k => (after.holds k).trans (before.holds k)⟩

omit store

/-- A camera that SET CAMERA starts or stops says so (R121). -/
theorem setCamera_noticed (changed : (s.setCamera f).cam.status ≠ (s.cameraTimed f).cam.status) : (4, 0) ∈ (s.setCamera f).noticeKeys :=
  followCamera_noticed changed

theorem cameraTimed_off_iff : (s.cameraTimed f).cam.status = .off ↔ s.cam.status = .off := by
  rw [cameraTimed_cam]
  split
  · rw [Camera.timed_off_iff, (s.cam.configured_status f).1]
  · rw [(s.cam.configured_status f).1]

/-- A camera that is OFF is only configured before it follows keep-warm. -/
theorem cameraTimed_off {s : State} (off : s.cam.status = .off) : s.cameraTimed f = s.cameraConfigured f := by
  have still : (s.cameraConfigured f).cam.status = .off := by
    rw [cameraConfigured_cam, (s.cam.configured_status f).1]
    exact off
  unfold State.cameraTimed
  rw [cameraDue_off still, ite_self]

variable {s}
include store

theorem setCamera_wakes (off : s.cam.status = .off) (runs : s.comp.demand = true ∨ d.keepWarm = true) :
    (s.setCamera f).cam.status = .waking ∧ (s.setCamera f).cam.timer = some 0 ∧ (4, 0) ∈ (s.setCamera f).noticeKeys := by
  have was := (cameraTimed_off_iff s f).2 off
  have cam : (s.setCamera f).cam = { (s.cameraTimed f).cam.restarted with status := .waking } := by
    rw [setCamera_cam s f store]
    exact (if_pos (by simpa using runs)).trans (if_pos was)
  refine ⟨by rw [cam], by rw [cam]; rfl, setCamera_noticed s f ?_⟩
  rw [cam, was]
  nofun

theorem setCamera_idles (off : s.cam.status = .off) (rests : ¬ (s.comp.demand = true ∨ d.keepWarm = true)) :
    (s.setCamera f).cam.status = .off := by
  have was := (cameraTimed_off_iff s f).2 off
  rw [setCamera_cam s f store]
  exact (congrArg Camera.status ((if_neg (by simpa using rests)).trans (if_pos was))).trans was

theorem setCamera_stops (on : s.cam.status ≠ .off) (rests : ¬ (s.comp.demand = true ∨ d.keepWarm = true)) :
    (s.setCamera f).cam.status = .off ∧ (s.setCamera f).cam.timer = none ∧ (4, 0) ∈ (s.setCamera f).noticeKeys := by
  have was := mt (cameraTimed_off_iff s f).1 on
  have cam : (s.setCamera f).cam = (s.cameraTimed f).cam.stopped := by
    rw [setCamera_cam s f store]
    exact (if_neg (by simpa using rests)).trans (if_neg was)
  refine ⟨by rw [cam]; rfl, by rw [cam]; rfl, setCamera_noticed s f ?_⟩
  rw [cam]
  exact Ne.symm was

/-- A camera that goes on is as the test of its timer leaves it. -/
theorem setCamera_goes_on (on : s.cam.status ≠ .off) (runs : s.comp.demand = true ∨ d.keepWarm = true) :
    (s.setCamera f).cam = (s.cameraTimed f).cam := by
  rw [setCamera_cam s f store]
  exact (if_pos (by simpa using runs)).trans (if_neg (mt (cameraTimed_off_iff s f).1 on))

/-- Without a new timeout a camera that goes on keeps its state and its timer. -/
theorem setCamera_untimed (on : s.cam.status ≠ .off) (runs : s.comp.demand = true ∨ d.keepWarm = true)
    (plain : ¬ (f.frameTimeout.isSome = true ∨ f.wakeTimeout.isSome = true)) :
    (s.setCamera f).cam.status = s.cam.status ∧ (s.setCamera f).cam.timer = s.cam.timer := by
  rw [setCamera_goes_on f store on runs, cameraTimed_cam, if_neg (by simpa using plain)]
  exact s.cam.configured_status f

/-- A new timeout that the timer has reached loses the camera; any other leaves its state and its timer. -/
theorem setCamera_timed (on : s.cam.status ≠ .off) (runs : s.comp.demand = true ∨ d.keepWarm = true)
    (given : f.frameTimeout.isSome = true ∨ f.wakeTimeout.isSome = true) {e : Nat} (timer : s.cam.timer = some e) :
    let limit := if s.cam.status = .waking then d.wakeTimeout else d.frameTimeout
    (limit * 10 ≤ e → (s.setCamera f).cam.status = .lost ∧ (s.setCamera f).cam.timer = some 0) ∧
    (e < limit * 10 → (s.setCamera f).cam.status = s.cam.status ∧ (s.setCamera f).cam.timer = some e) := by
  intro limit
  obtain ⟨status, time⟩ := s.cam.configured_status f
  have bound : (s.cam.configured f).limit = limit := by
    unfold Camera.limit
    rw [(s.cam.configured_keeps f).settings, status, store]
  rw [setCamera_goes_on f store on runs, cameraTimed_cam, if_pos (by simpa using given)]
  unfold Camera.timed
  rw [bound, status, time]
  refine ⟨fun late => ?_, fun early => ?_⟩
  · rw [if_pos ⟨on, reached_some timer late⟩]
    exact ⟨rfl, rfl⟩
  · have before : reached s.cam.timer limit = false := reached_none fun n same => by
      rw [timer] at same
      cases same
      exact early
    have stays : ¬ (s.cam.status ≠ .off ∧ reached s.cam.timer limit = true) := by
      rw [before]
      exact fun late => nomatch late.2
    rw [if_neg stays, status, time]
    exact ⟨rfl, timer⟩

/-- A new format empties every slot, and the Generator is handed it. -/
theorem setCamera_formats (off : s.cam.status = .off) (format : f.format.isSome = true) : let t := s.setCamera f
    (∀ k, (t.cam.slots.sel k).state = .empty) ∧ t.cam.newest = none ∧ t.cam.shown = none ∧
      t.guide.camWidth = d.width ∧ t.guide.camHeight = d.height := by
  intro t
  have configured : s.cameraConfigured f =
      State.formatChanged { s with cam := { s.cam with settings := SetCamera.store f s.cam.settings } } := if_pos format
  have done : t = (s.cameraConfigured f).followCamera := by rw [← cameraTimed_off f off]; rfl
  rw [formatChanged_eq] at configured
  dsimp only at configured
  have rests : (s.cameraConfigured f).cam.status = .off := by rw [configured]; exact off
  have slots : t.cam.slots = (s.cameraConfigured f).cam.slots ∧ t.cam.order = (s.cameraConfigured f).cam.order ∧
      t.cam.shown = (s.cameraConfigured f).cam.shown := by
    rw [done, followCamera_cam]
    unfold Camera.followed
    rw [if_pos rests, if_pos rests]
    split <;> exact ⟨rfl, rfl, rfl⟩
  have guide : t.guide.camWidth = (s.cameraConfigured f).guide.camWidth ∧ t.guide.camHeight = (s.cameraConfigured f).guide.camHeight := by
    rw [done]
    unfold State.followCamera
    rw [if_pos rests, if_pos rests]
    split
    · rw [wakeCamera_guide]
      split <;> exact ⟨rfl, rfl⟩
    · exact ⟨rfl, rfl⟩
  rw [configured] at slots guide
  subst store
  obtain ⟨table, order, shown⟩ := slots
  refine ⟨fun k => ?_, ?_, shown, guide⟩
  · rw [table]
    simp only [Table.sel_upd]
    match k with
    | 0 | 1 | 2 => rfl
  · unfold Camera.newest
    rw [order]
    rfl

end

/-- Settles O43: the checks in their order, and then the parts of the change one after another. -/
theorem setCameraChecksStoresAndActs : Obligations.SetCameraChecksStoresAndActs := by
  intro s f _ legal result c d runs timed
  have refused := cameraBody_refused_iff f
  have status : (s.taking 0x60#8).cam.status = s.cam.status := by rw [taking_cam]
  refine ⟨fun bad => turnsAway_of_whole rfl rfl (if_pos (refused.2 bad)), fun good given on => ?_, fun good may => ?_⟩
  · exact turnsAway_of_whole rfl rfl ((if_neg fun bad => refused.1 bad good).trans (if_pos ⟨given, by rw [status]; exact on⟩))
  have allowed : ¬ (f.format.isSome = true ∧ s.cam.status ≠ .off) := by
    rintro ⟨given, on⟩
    rcases may with absent | off
    · rw [absent] at given
      exact nomatch given
    · exact on off
  have acts : ∀ t : State, t.cam.status = s.cam.status →
      (if f.undefinedBit || !(f.format.all CameraFormat.legal) then (t, Reply.plain .badValue)
        else if f.format.isSome = true ∧ t.cam.status ≠ .off then (t, .plain .notNow)
        else (t.setCamera f, .plain (doneOr (SetCamera.clamped f)))) = (t.setCamera f, .plain result) := fun t same => by
    rw [if_neg fun bad => refused.1 bad good, if_neg (by rw [same]; exact allowed), cameraResult_eq f]
  refine answers_of_whole rfl rfl (acts _ status) (setCamera_changes _ f) ?_
  have store : SetCamera.store f s.cam.settings = d := cameraStore_eq f c
  obtain ⟨l, e, -⟩ := taking_eq s 0x60#8
  rw [e]
  have kept := setCamera_keeps { s with link := l } f store
  have formats := setCamera_formats (s := { s with link := l }) f store
  have wakes := setCamera_wakes (s := { s with link := l }) f store
  have idles := setCamera_idles (s := { s with link := l }) f store
  have stops := setCamera_stops (s := { s with link := l }) f store
  have untimed := setCamera_untimed (s := { s with link := l }) f store
  have judged := @setCamera_timed { s with link := l } f d store
  exact ⟨kept.settings, kept.good, kept.short, kept.frozen, kept.holds,
    fun given => formats (not_not.1 fun on => allowed ⟨given, on⟩) given, wakes, idles, stops,
    fun on runs => ⟨untimed on runs, fun e given timer => judged on runs given timer⟩⟩

end Sys2Proof.Machine
end

section
/-! SUPPORT. The capture slot a frame start chooses, what a line leaves, and the camera's record after a frame's end (R118, R125,
R126, R129). -/

namespace Sys2Proof.Machine

set_option Elab.async false

open Sys2Proof

/-! ### The record and the state that an event gives the camera -/

/-- The camera takes a record, and a state that is noticed and handed on where it is another than before. -/
def State.cameraTo (s : State) (c : Camera) (x : CameraStatus) : State :=
  if x = s.cam.status then { s with cam := c } else State.setCameraStatus { s with cam := c } x

section
variable {s : State} {c : Camera} {x : CameraStatus}

theorem cameraTo_same (same : x = s.cam.status) : s.cameraTo c x = { s with cam := c } := if_pos same

theorem cameraTo_other (other : x ≠ s.cam.status) : s.cameraTo c x = State.setCameraStatus { s with cam := c } x := if_neg other

theorem cameraTo_cam (held : c.status = s.cam.status) : (s.cameraTo c x).cam = { c with status := x } := by
  by_cases same : x = s.cam.status
  · rw [cameraTo_same same, same, ← held]
  · rw [cameraTo_other same, setCameraStatus_cam]

/-- What was handed the camera's record before it takes another is as if it had not been. -/
theorem cameraTo_over {d : Camera} (held : d.status = s.cam.status) : State.cameraTo { s with cam := d } c x = s.cameraTo c x := by
  unfold State.cameraTo
  dsimp only
  rw [held]

/-- A state that stays is neither noticed nor handed on; another is both (R121, R145, R148). -/
theorem cameraTo_tells {t : State} (taken : t = s.cameraTo c x) (held : c.status = s.cam.status) :
    (t.cam.status = s.cam.status → t.link.notices = s.link.notices) ∧ (t.cam.status = s.cam.status → t.guide = s.guide) ∧
    (t.cam.status ≠ s.cam.status → Noted s t (.cameraState t.cam.status) ∧
      GuideFollows s.guide { s.guide with camStatus := t.cam.status } (s.steerDelta s.guide.geometry.ratio) t.guide) := by
  have status : t.cam.status = x := by rw [taken, cameraTo_cam held]
  rw [status]
  subst taken
  refine ⟨fun same => ?_, fun same => ?_, fun other => ?_⟩
  · rw [cameraTo_same same]
  · rw [cameraTo_same same]
  · rw [cameraTo_other other]
    exact ⟨setCameraStatus_noted { s with cam := c } x, setCameraStatus_follows { s with cam := c } x⟩

end

/-! ### The slot chosen (R129) -/

/-- Whether a slot is in a state and neither newest nor held. -/
def Camera.offers (c : Camera) (x : CaptureState) (k : Fin 3) : Bool :=
  decide (c.newest ≠ some k) && OutputSet.isEmpty (c.slots.sel k).holds && decide ((c.slots.sel k).state = x)

theorem offers_iff {c : Camera} {x : CaptureState} {k : Fin 3} : c.offers x k = true ↔
    (c.newest ≠ some k ∧ ∀ o, (c.slots.sel k).holds.has o = false) ∧ (c.slots.sel k).state = x := by
  unfold Camera.offers
  rw [Bool.and_eq_true, Bool.and_eq_true, isEmpty_iff, decide_eq_true_eq, decide_eq_true_eq]

theorem chooseSlot_eq (c : Camera) : c.chooseSlot = if c.offers .empty c.lastWritten = true then some c.lastWritten
    else ([0, 1, 2].find? (c.offers .empty)).or (c.order.find? (c.offers .complete)) := by
  have first : c.chooseSlot = if c.offers .empty c.lastWritten = true then some c.lastWritten
    else match [0, 1, 2].find? (c.offers .empty) with
      | some k => some k
      | none => c.order.find? (c.offers .complete) := rfl
  rw [first]
  cases [0, 1, 2].find? (c.offers .empty) <;> rfl

/-- The lowest slot that passes a test. -/
theorem find?_lowest {p : Fin 3 → Bool} {k : Fin 3} (passes : p k = true) (lowest : ∀ j, j < k → p j = false) :
    [0, 1, 2].find? p = some k := by
  match k with
  | 0 => simp [passes]
  | 1 => simp [passes, lowest 0 (by decide)]
  | 2 => simp [passes, lowest 0 (by decide), lowest 1 (by decide)]

section
variable {c : Camera}

theorem chooseSlot_last (vacant : c.offers .empty c.lastWritten = true) : c.chooseSlot = some c.lastWritten := by
  rw [chooseSlot_eq, if_pos vacant]

theorem chooseSlot_lowest {k : Fin 3} (last : c.offers .empty c.lastWritten = false) (vacant : c.offers .empty k = true)
    (lowest : ∀ j, j < k → c.offers .empty j = false) : c.chooseSlot = some k := by
  rw [chooseSlot_eq, last, find?_lowest vacant lowest]
  rfl

/-- With no slot EMPTY and free, the choice falls on the COMPLETE ones in their order. -/
theorem chooseSlot_full (full : ∀ j, c.offers .empty j = false) : c.chooseSlot = c.order.find? (c.offers .complete) := by
  rw [chooseSlot_eq, full, List.find?_eq_none.2 fun j _ => by simp [full j]]
  rfl

/-! ### A frame that starts (R118, R129) -/

theorem startFrame_chosen {k : Fin 3} (chosen : c.chooseSlot = some k) : c.startFrame = { c with
    slots := c.slots.put k { (c.slots.sel k) with state := .filling 0 }, order := c.order.filter (fun j => !decide (j = k))
    lastWritten := k, rx := some ⟨some k, 0, true, 0xFFFF#16⟩ } := by
  unfold Camera.startFrame
  rw [chosen]
  rfl

theorem startFrame_passed (full : c.chooseSlot = none) : c.startFrame = { c with rx := some ⟨none, 0, true, 0xFFFF#16⟩ } := by
  unfold Camera.startFrame
  rw [full]
  rfl

end

section
variable {s : State}

theorem endCameraFrame_idle (idle : s.cam.rx = none) : s.endCameraFrame = s := by
  unfold State.endCameraFrame
  rw [idle]

theorem startCameraFrame_off (off : s.cam.status = .off) : s.startCameraFrame = s := if_pos off

/-- Unless the camera is OFF, a frame start ends a frame in progress and begins one. -/
theorem startCameraFrame_on (on : s.cam.status ≠ .off) :
    s.startCameraFrame = { s.endCameraFrame with cam := s.endCameraFrame.cam.startFrame } := if_neg on

/-- A frame start with no frame in progress changes what the Camera Monitor holds of its frames alone. -/
theorem startCameraFrame_idle (on : s.cam.status ≠ .off) (idle : s.cam.rx = none) :
    s.startCameraFrame = { s with cam := s.cam.startFrame } ∧ Changes [.capture] s s.startCameraFrame := by
  have starts : s.startCameraFrame = { s with cam := s.cam.startFrame } := by rw [startCameraFrame_on on, endCameraFrame_idle idle]
  refine ⟨starts, ?_⟩
  rw [starts]
  unfold Camera.startFrame
  intro p hp
  have same := same_refl s p
  split <;> (cases p <;> first | exact absurd (by decide) hp | exact same)

end

/-! ### A line (R118, R125, R129) -/

theorem isGridRow_iff (h line : Nat) : isGridRow h line = true ↔ ∃ j, j < 16 ∧ (2 * j + 1) * h / 32 = line := by
  unfold isGridRow
  simp only [List.any_eq_true, List.mem_range, beq_iff_eq]

/-- A line of a frame that has a slot: counted, judged, written within the height, and sampled on the rows of the grid. -/
theorem captureLine_slot (s : State) (k : Fin 3) (n : Nat) (sound : Bool) (chk : BitVec 16) (line : List Byte) :
    s.captureLine ⟨some k, n, sound, chk⟩ line = { s with
      mem := if n < s.cam.settings.height then
        s.mem.write (k.1 * 38 * 65536 + n * (2 * s.cam.settings.width)) (line.take (2 * s.cam.settings.width)) else s.mem
      cam := { s.cam with
        slots := s.cam.slots.put k ⟨.filling (n + 1), (s.cam.slots.sel k).holds⟩
        rx := some ⟨some k, n + 1, sound && decide (line.length = 2 * s.cam.settings.width),
          if n < s.cam.settings.height ∧ isGridRow s.cam.settings.height n = true then
            checkFrom chk (gridBytes s.cam.settings.width line) else chk⟩ } } := by
  unfold State.captureLine
  dsimp only
  by_cases inside : n < s.cam.settings.height
  · simp only [inside, decide_true, Bool.true_and, true_and, if_true]
    rfl
  · simp only [inside, decide_false, Bool.false_and, false_and, if_false, Bool.false_eq_true]

/-! ### A frame judged (R126, R129) -/

/-- A frame ends: its slot takes what its judgement gives, and it is counted. -/
def Camera.counted (c : Camera) (slot : Option (Fin 3)) (good : Bool) : Camera := { c with
  slots := slot.elim c.slots fun k => c.slots.put k ⟨if good then .complete else .empty, (c.slots.sel k).holds⟩
  order := slot.elim c.order fun k => if good then c.order ++ [k] else c.order
  rx := none
  good := if good then satInc c.good else c.good
  short := if good then c.short else satInc c.short }

/-- The run of equal signatures with a good frame's. -/
def Camera.runWith (c : Camera) (sig : BitVec 16) : Nat := if c.prevSig = some sig then satInc c.equalRun else 0

/-- The record after a good frame: its signature compared, the timer anew, and in LOST the recovery one further. -/
def Camera.accepted (c : Camera) (sig : BitVec 16) : Camera := { c with
  timer := some 0
  prevSig := some sig
  equalRun := c.runWith sig
  frozen := if c.prevSig = some sig then satInc c.frozen else c.frozen
  recovery := if c.status = .lost then (if c.recovery = 2 then 0 else c.recovery + 1) else c.recovery }

/-- The camera state after a good frame. -/
def Camera.statusWith (c : Camera) (sig : BitVec 16) : CameraStatus :=
  match c.status with
  | .waking => .live
  | .live => if c.settings.freezeCount ≤ c.runWith sig then .frozen else .live
  | .frozen => if c.prevSig = some sig then .frozen else .live
  | .lost => if c.recovery = 2 then .live else .lost
  | .off => .off

/-- The record after a short frame: in LOST the recovery is cleared. -/
def Camera.rejected (c : Camera) : Camera := { c with
  prevSig := if c.status = .lost then none else c.prevSig
  equalRun := if c.status = .lost then 0 else c.equalRun
  recovery := if c.status = .lost then 0 else c.recovery }

section
variable {s : State} (sig : BitVec 16)

theorem compare_eq (c : Camera) : c.compare sig = { c with
    prevSig := some sig, equalRun := c.runWith sig, frozen := if c.prevSig = some sig then satInc c.frozen else c.frozen } := by
  unfold Camera.compare Camera.runWith
  split <;> rfl

/-- Unless the camera is OFF, a good frame gives it a record and a state (R122, R124, R126, R127). -/
theorem goodFrame_to (on : s.cam.status ≠ .off) : s.goodFrame sig = s.cameraTo (s.cam.accepted sig) (s.cam.statusWith sig) := by
  have run : Camera.runWith { s.cam with timer := some 0 } sig = s.cam.runWith sig := rfl
  unfold State.goodFrame State.cameraTo Camera.statusWith Camera.accepted
  dsimp only
  rw [compare_eq, run]
  cases status : s.cam.status with
  | off => exact absurd status on
  | waking => rfl
  | live => by_cases freezes : s.cam.settings.freezeCount ≤ s.cam.runWith sig <;> simp [freezes]
  | frozen => by_cases equal : s.cam.prevSig = some sig <;> simp [equal]
  | lost => by_cases third : s.cam.recovery = 2 <;> simp [third]

theorem shortFrame_to : s.shortFrame = s.cameraTo s.cam.rejected s.cam.status := by
  rw [cameraTo_same rfl]
  unfold State.shortFrame Camera.rejected
  by_cases lost : s.cam.status = .lost
  · simp only [if_pos lost]
  · simp only [if_neg lost]

theorem statusWith_on {c : Camera} (on : c.status ≠ .off) : c.statusWith sig ≠ .off := by
  unfold Camera.statusWith
  split
  · exact nofun
  · split <;> exact nofun
  · split <;> exact nofun
  · split <;> exact nofun
  · rename_i off
    exact absurd off on

/-- What a frame's end makes of the slots and of their order. -/
theorem counted_files (c : Camera) (slot : Option (Fin 3)) {b : Bool} {good : Prop} [Decidable good] (judged : b = true ↔ good) :
    (∀ k, slot = some k → (c.counted slot b).slots.sel k = ⟨if good then .complete else .empty, (c.slots.sel k).holds⟩) ∧
    (∀ j, slot ≠ some j → (c.counted slot b).slots.sel j = c.slots.sel j) ∧
    (∀ k, slot = some k → (c.counted slot b).order = if good then c.order ++ [k] else c.order) ∧
    (slot = none → (c.counted slot b).order = c.order) := by
  unfold Camera.counted
  simp only [judged]
  refine ⟨?_, fun j other => ?_, ?_, ?_⟩
  · rintro k rfl
    exact Table.sel_put_same _ _ _
  · cases slot with
    | none => rfl
    | some k => exact Table.sel_put_ne _ _ fun same => other (congrArg some same)
  · rintro k rfl
    rfl
  · rintro rfl
    rfl

/-- The judgement of a frame: every line of the right length, and as many as the height. -/
def Camera.judges (c : Camera) (rx : CameraRx) : Bool := rx.sound && decide (rx.lines = c.settings.height)

/-- A frame's end judges it, counts it and gives the camera a record and a state (R126, R129). -/
theorem endCameraFrame_to {rx : CameraRx} (receiving : s.cam.rx = some rx) (on : s.cam.status ≠ .off) : s.endCameraFrame =
    if s.cam.judges rx = true then s.cameraTo ((s.cam.counted rx.slot true).accepted rx.check) (s.cam.statusWith rx.check)
    else s.cameraTo (s.cam.counted rx.slot false).rejected s.cam.status := by
  have good : State.goodFrame { s with cam := s.cam.counted rx.slot true } rx.check =
      s.cameraTo ((s.cam.counted rx.slot true).accepted rx.check) (s.cam.statusWith rx.check) :=
    (goodFrame_to (s := { s with cam := s.cam.counted rx.slot true }) rx.check on).trans (cameraTo_over rfl)
  have short : State.shortFrame { s with cam := s.cam.counted rx.slot false } =
      s.cameraTo (s.cam.counted rx.slot false).rejected s.cam.status := shortFrame_to.trans (cameraTo_over rfl)
  rw [← good, ← short]
  unfold State.endCameraFrame Camera.judges
  rw [receiving]
  dsimp only
  cases rx.sound && decide (rx.lines = s.cam.settings.height) with
  | true => cases rx.slot <;> rfl
  | false => cases rx.slot <;> rfl

end

end Sys2Proof.Machine
end

section
/-! PROOFS. Camera frames, from their start over their lines to their end (R118, R122, R125, R126, R127, R129, R145, R148). -/

namespace Sys2Proof.Machine

set_option Elab.async false

open Sys2Proof

/-! ### A frame starts (R118, R129) -/

/-- A frame start that finds no frame in progress fills the slot chosen, and leaves the others. -/
theorem cameraFrameStart_takes {s : State} (on : s.cam.status ≠ .off) (idle : s.cam.rx = none) {k : Fin 3}
    (chosen : s.cam.chooseSlot = some k) : Makes .cameraFrameStart s [.capture] fun t =>
      t.cam.rx = some ⟨some k, 0, true, 0xFFFF⟩ ∧ t.cam.lastWritten = k ∧ t.cam.shown = s.cam.shown ∧
      t.cam.slots.sel k = ⟨.filling 0, (s.cam.slots.sel k).holds⟩ ∧ (∀ j, j ≠ k → t.cam.slots.sel j = s.cam.slots.sel j) ∧
      t.cam.order = s.cam.order.filter fun j => !decide (j = k) := by
  obtain ⟨starts, changes⟩ := startCameraFrame_idle on idle
  have cam : s.startCameraFrame.cam = _ := (congrArg State.cam starts).trans (startFrame_chosen chosen)
  refine ⟨_, rfl, changes, ?_⟩
  dsimp only
  rw [cam]
  exact ⟨rfl, rfl, rfl, Table.sel_put_same _ _ _, fun j other => Table.sel_put_ne _ _ (Ne.symm other), rfl⟩

/-- A frame start with no slot to take passes its frame over. -/
theorem cameraFrameStart_passes {s : State} (on : s.cam.status ≠ .off) (idle : s.cam.rx = none) (full : s.cam.chooseSlot = none) :
    Makes .cameraFrameStart s [.capture] fun t => t.cam = { s.cam with rx := some ⟨none, 0, true, 0xFFFF⟩ } := by
  obtain ⟨starts, changes⟩ := startCameraFrame_idle on idle
  exact ⟨_, rfl, changes, (congrArg State.cam starts).trans (startFrame_passed full)⟩

/-! ### Frames in progress and lines (R118, R125) -/

/-- After a frame's end no frame is in progress, and the camera is not OFF. -/
theorem endCameraFrame_ends {s : State} (on : s.cam.status ≠ .off) (receiving : s.cam.rx.isSome = true) :
    s.endCameraFrame.cam.rx = none ∧ s.endCameraFrame.cam.status ≠ .off := by
  obtain ⟨rx, taken⟩ := Option.isSome_iff_exists.1 receiving
  rw [endCameraFrame_to taken on]
  split
  · rw [cameraTo_cam (s := s) (c := (s.cam.counted rx.slot true).accepted rx.check) rfl]
    exact ⟨rfl, statusWith_on rx.check on⟩
  · rw [cameraTo_cam (s := s) (c := (s.cam.counted rx.slot false).rejected) rfl]
    exact ⟨rfl, on⟩

/-- A line of a frame that has a slot. -/
theorem cameraLine_captured {s : State} {line : List Byte} {k : Fin 3} {n : Nat} {sound : Bool} {chk : BitVec 16}
    (receiving : s.cam.rx = some ⟨some k, n, sound, chk⟩)
    (fits : n < s.cam.settings.height →
      k.1 * 38 * 65536 + n * (2 * s.cam.settings.width) + (line.take (2 * s.cam.settings.width)).length ≤ 134217728) :
    let w := s.cam.settings.width
    let h := s.cam.settings.height
    let bytes := line.take (2 * w)
    let a := k.1 * 38 * 65536 + n * (2 * w)
    let columns := (List.range 16).map fun i => (2 * i + 1) * w / 32
    Makes (.cameraLine line) s [.memory, .capture] fun t =>
      (∀ x, t.mem.read x = if n < h ∧ a ≤ x ∧ x < a + bytes.length then bytes.getD (x - a) 0#8 else s.mem.read x) ∧
      t.cam.slots.sel k = ⟨.filling (n + 1), (s.cam.slots.sel k).holds⟩ ∧ (∀ j, j ≠ k → t.cam.slots.sel j = s.cam.slots.sel j) ∧
      ∃ chk', t.cam = { s.cam with
          slots := t.cam.slots, rx := some ⟨some k, n + 1, sound && decide (line.length = 2 * w), chk'⟩ } ∧
        (n < h → (∃ j, j < 16 ∧ (2 * j + 1) * h / 32 = n) →
          chk' = checkFrom chk (columns.flatMap fun x => [line.getD (2 * x) 0#8, line.getD (2 * x + 1) 0#8])) ∧
        (h ≤ n ∨ (∀ j, j < 16 → (2 * j + 1) * h / 32 ≠ n) → chk' = chk) := by
  intro w h bytes a columns
  have acts : exec (.cameraLine line) s = .next (s.captureLine ⟨some k, n, sound, chk⟩ line) := by
    show execCameraLine line s = _
    unfold execCameraLine
    rw [receiving]
  refine ⟨_, acts, captureLine_changes s _ line, ?_⟩
  rw [captureLine_slot]
  refine ⟨fun x => ?_, Table.sel_put_same _ _ _, fun j other => Table.sel_put_ne _ _ (Ne.symm other), _, rfl, fun inside row => ?_,
    fun outside => ?_⟩
  · dsimp only
    by_cases inside : n < h
    · rw [if_pos inside, memoryReadsWhatWasWritten _ _ _ _ (fits inside)]
      simp only [inside, true_and]
      rfl
    · rw [if_neg inside, if_neg fun there => inside there.1]
  · exact if_pos ⟨inside, (isGridRow_iff h n).2 row⟩
  · refine if_neg fun ⟨inside, row⟩ => ?_
    obtain ⟨j, low, at_row⟩ := (isGridRow_iff h n).1 row
    exact outside.elim (fun beyond => absurd inside (Nat.not_lt.2 beyond)) fun off => off j low at_row

/-- Settles O44: the choice of slot, the lines, and the record and state that the judgement at a frame's end gives the camera. -/
theorem cameraFramesAreCapturedAndJudged : Obligations.CameraFramesAreCapturedAndJudged := by
  refine ⟨fun s off => congrArg Host.Outcome.next (startCameraFrame_off off), fun s on idle => ?_, fun s line idle => ⟨?_, ?_⟩,
    fun s line k n sound chk receiving fits => cameraLine_captured receiving fits,
    fun s on receiving => ?_, fun s slot n sound chk receiving on => ?_⟩
  · intro free vacant old takes
    have empty : ∀ {j}, s.cam.offers .empty j = true ↔ vacant j := offers_iff
    have complete : ∀ {j}, s.cam.offers .complete j = true ↔ old j := offers_iff
    have not_empty : ∀ {j}, ¬ vacant j → s.cam.offers .empty j = false := fun {j} no => by
      rw [← Bool.not_eq_true, empty]
      exact no
    refine ⟨fun last => ?_, fun k last here lowest => ?_, fun pre k post full parts before here => ?_, fun full others => ?_⟩
    · exact cameraFrameStart_takes on idle (chooseSlot_last (empty.2 last))
    · exact cameraFrameStart_takes on idle (chooseSlot_lowest (not_empty last) (empty.2 here) fun j low => not_empty (lowest j low))
    · refine cameraFrameStart_takes on idle ((chooseSlot_full fun j => not_empty (full j)).trans ?_)
      rw [parts]
      refine List.find?_eq_some_iff_append.2 ⟨complete.2 here, pre, post, rfl, fun j listed => ?_⟩
      rw [Bool.not_eq_true', ← Bool.not_eq_true, complete]
      exact before j listed
    · refine cameraFrameStart_passes on idle ((chooseSlot_full fun j => not_empty (full j)).trans ?_)
      exact List.find?_eq_none.2 fun j listed offered => others j listed (complete.1 offered)
  · show execCameraLine line s = _
    unfold execCameraLine
    rw [idle]
  · exact congrArg Host.Outcome.next (endCameraFrame_idle idle)
  · obtain ⟨idle, still⟩ := endCameraFrame_ends on receiving
    refine ⟨_, rfl, idle, congrArg Host.Outcome.next ?_⟩
    rw [startCameraFrame_on on, startCameraFrame_on still, endCameraFrame_idle idle]
  · intro c good run
    have judged : c.judges ⟨slot, n, sound, chk⟩ = true ↔ good := by
      unfold Camera.judges
      rw [Bool.and_eq_true, decide_eq_true_eq]
    have ended := endCameraFrame_to receiving on
    refine ⟨_, rfl, endCameraFrame_changes s, ?_⟩
    dsimp only
    by_cases right : good
    · rw [if_pos (judged.2 right)] at ended
      obtain ⟨slots, others, order, kept⟩ := counted_files c slot (b := true) (iff_of_true rfl right)
      have cam := (congrArg State.cam ended).trans (cameraTo_cam rfl)
      obtain ⟨quiet, still, told⟩ := cameraTo_tells ended rfl
      rw [cam] at quiet still told ⊢
      exact ⟨rfl, rfl, rfl, slots, others, order, kept, quiet, still, told,
        fun _ => ⟨rfl, rfl, rfl, rfl, rfl, rfl, rfl, rfl⟩, fun wrong => absurd right wrong⟩
    · rw [if_neg fun sees => right (judged.1 sees)] at ended
      obtain ⟨slots, others, order, kept⟩ := counted_files c slot (b := false) (iff_of_false nofun right)
      have cam := (congrArg State.cam ended).trans (cameraTo_cam rfl)
      obtain ⟨quiet, still, told⟩ := cameraTo_tells ended rfl
      rw [cam] at quiet still told ⊢
      exact ⟨rfl, rfl, rfl, slots, others, order, kept, quiet, still, told,
        fun whole => absurd whole right, fun _ => ⟨rfl, rfl, rfl, rfl, rfl, rfl, rfl, rfl⟩⟩

end Sys2Proof.Machine
end
